-- ==== Sys2Proof/Word.lean ====
section
/-! DEFINITION. The bit vectors of the DU3120: only what travels in frames and cause details (R174, R188, R192).
Everything else the manual counts (temperatures, seconds, watts, millilitres, load numbers) is a natural number. -/

namespace Sys2Proof

/-- One byte of a frame (R173, R174). -/
abbrev Byte := BitVec 8

/-- A two-byte value of a frame, most significant byte first (R174). -/
abbrev Half := BitVec 16

/-- The byte that carries a small number. -/
abbrev toByte (n : Nat) : Byte := BitVec.ofNat 8 n

/-- The two-byte value that carries a number. -/
abbrev toHalf (n : Nat) : Half := BitVec.ofNat 16 n

end Sys2Proof
end

