-- ==== Sys2Proof/Syntax.lean ====
section
/-! DEFINITION. The commands of the DU3120: one constructor per row of spec/opcode_table.json, with the names of
cavities, ports, loads, sensors and hold objects they carry. An order row carries the port it arrives on, its
sequence byte and the parameter bytes of R182; an event row carries what the input shows (assumption 1). -/

namespace Sys2Proof

/-- The two cavities (Introduction; R176: encoded A, B). -/
inductive Cavity | A | B
  deriving DecidableEq, Repr

/-- The three ports (R176: encoded PANEL, LINK, SERVICE). -/
inductive Port | panel | link | service
  deriving DecidableEq, Repr

/-- The seven chained loads, in the default chain order (R73, R176). -/
inductive Load | genHeat | aRing | bRing | aTop | bTop | aBottom | bBottom
  deriving DecidableEq, Repr

/-- The five temperature sensors (R161). -/
inductive Sensor | cavTempA | cavTempB | coreA | coreB | genTemp
  deriving DecidableEq, Repr

/-- The three hold objects (R183). -/
inductive HoldObject | editA | editB | store
  deriving DecidableEq, Repr

/-- The owners of prompt entries (R154). -/
inductive Owner | cavityA | cavityB | generator | descaler
  deriving DecidableEq, Repr

/-- What one sample of a temperature sensor yields (R162): a temperature in tenths of a degree, which may lie
outside the sensor's range, or an open or shorted element. -/
inductive Sample
  | tenths (t : Int)
  | openOrShorted
  deriving DecidableEq, Repr

/-- The input conditions a device reset finds (R200, step 4) and the stored records it finds spoiled, that is
whose stored check does not match (R199; assumption 27). -/
structure StartInputs where
  cavTempA : Sample
  cavTempB : Sample
  coreA : Sample
  coreB : Sample
  genTemp : Sample
  doorOpenA : Bool
  doorOpenB : Bool
  probePresentA : Bool
  probePresentB : Bool
  limitActiveA : Bool
  limitActiveB : Bool
  tankPresent : Bool
  mainsLow : Bool
  levelLowWet : Bool
  levelHighWet : Bool
  settingsSpoiled : Bool
  scaleSpoiled : Bool
  procedureSpoiled : Bool
  deriving DecidableEq, Repr

/-- The commands. The comment of each constructor is its row's mnemonic and rule. -/
inductive Instr
  /-- FRAME_RECEIVED (R173, R177): bytes arriving on a port without a gap of more than 20 ms. -/
  | frameReceived (p : Port) (bytes : List Byte)
  /-- INTER_BYTE_GAP (R173): a gap of more than 20 ms, and the byte that ends it. -/
  | interByteGap (p : Port) (next : Byte)
  /-- REPLY_SENT (R177): the last byte of the reply being sent leaves. -/
  | replySent (p : Port)
  /-- LINE_BREAK (R186): the receive line has been in space for 100 ms. -/
  | lineBreak (p : Port)
  /-- PORT_RESET (R187). -/
  | portReset (p : Port) (seq : Byte)
  /-- OPEN_RUN (R23). -/
  | openRun (p : Port) (seq : Byte) (cavity source slot watermark : Byte)
  /-- LOAD_STEP (R8): the step record is its 18 bytes (R175). -/
  | loadStep (p : Port) (seq : Byte) (cavity : Byte) (record : List Byte)
  /-- CLOSE_RUN (R24). -/
  | closeRun (p : Port) (seq : Byte) (cavity : Byte)
  /-- START_RUN (R25). -/
  | startRun (p : Port) (seq : Byte) (cavity : Byte) (delay : Half)
  /-- START_LINKED (R26). -/
  | startLinked (p : Port) (seq : Byte) (delay : Half)
  /-- PAUSE_RUN (R37). -/
  | pauseRun (p : Port) (seq : Byte) (cavity : Byte)
  /-- RESUME_RUN (R39). -/
  | resumeRun (p : Port) (seq : Byte) (cavity : Byte)
  /-- STOP_RUN (R40). -/
  | stopRun (p : Port) (seq : Byte) (cavity : Byte)
  /-- CLEAR_RUN (R40). -/
  | clearRun (p : Port) (seq : Byte) (cavity : Byte)
  /-- ADOPT_RUN (R36). -/
  | adoptRun (p : Port) (seq : Byte) (cavity : Byte)
  /-- SKIP_STEP (R42). -/
  | skipStep (p : Port) (seq : Byte) (cavity : Byte)
  /-- ADJUST_STEP (R43): presence bit 0 target, bit 1 remaining time, bit 2 steam level (R182). -/
  | adjustStep (p : Port) (seq : Byte) (cavity presence target : Byte) (remaining : Half) (steam : Byte)
  /-- SET_WATCH (R70). -/
  | setWatch (p : Port) (seq : Byte) (cavity slot source relation : Byte) (value : Half) (action : Byte)
  /-- CLEAR_WATCH (R70). -/
  | clearWatch (p : Port) (seq : Byte) (cavity slot : Byte)
  /-- READ_RUN (R50). -/
  | readRun (p : Port) (seq : Byte) (cavity : Byte)
  /-- ACK_PROMPT (R156). -/
  | ackPrompt (p : Port) (seq : Byte) (id : Half)
  /-- READ_PROMPTS (R160). -/
  | readPrompts (p : Port) (seq : Byte)
  /-- TAKE_HOLD (R183). -/
  | takeHold (p : Port) (seq : Byte) (object : Byte)
  /-- RELEASE_HOLD (R185). -/
  | releaseHold (p : Port) (seq : Byte) (object : Byte)
  /-- DRAIN_GEN (R108). -/
  | drainGen (p : Port) (seq : Byte)
  /-- GEN_RESET (R110). -/
  | genReset (p : Port) (seq : Byte)
  /-- READ_GEN (R113). -/
  | readGen (p : Port) (seq : Byte)
  /-- START_DESCALE (R130). -/
  | startDescale (p : Port) (seq : Byte)
  /-- ABORT_DESCALE (R138). -/
  | abortDescale (p : Port) (seq : Byte)
  /-- START_RINSE (R131). -/
  | startRinse (p : Port) (seq : Byte)
  /-- READ_DESCALE (R143). -/
  | readDescale (p : Port) (seq : Byte)
  /-- READ_WATER (R127). -/
  | readWater (p : Port) (seq : Byte)
  /-- STORE_OPEN (R147). -/
  | storeOpen (p : Port) (seq : Byte) (slot : Byte)
  /-- STORE_LABEL (R148): the label length byte and the label bytes. -/
  | storeLabel (p : Port) (seq : Byte) (length : Byte) (label : List Byte)
  /-- STORE_STEP (R148). -/
  | storeStep (p : Port) (seq : Byte) (record : List Byte)
  /-- STORE_COMMIT (R149). -/
  | storeCommit (p : Port) (seq : Byte)
  /-- STORE_CANCEL (R148). -/
  | storeCancel (p : Port) (seq : Byte)
  /-- ERASE_PROGRAM (R150). -/
  | eraseProgram (p : Port) (seq : Byte) (slot : Byte)
  /-- READ_PROGRAM (R151): the selector is a slot or 255 for DIRECTORY. -/
  | readProgram (p : Port) (seq : Byte) (selector first : Byte)
  /-- SET_PARAM (R195): two value bytes, seven for CHAIN_ORDER. -/
  | setParam (p : Port) (seq : Byte) (id : Byte) (value : List Byte)
  /-- READ_PARAM (R196). -/
  | readParam (p : Port) (seq : Byte) (id : Byte)
  /-- SAVE_SETTINGS (R197). -/
  | saveSettings (p : Port) (seq : Byte)
  /-- READ_LOADS (R90). -/
  | readLoads (p : Port) (seq : Byte)
  /-- READ_SENSORS (R172). -/
  | readSensors (p : Port) (seq : Byte)
  /-- CLEAR_LIMIT (R169). -/
  | clearLimit (p : Port) (seq : Byte) (cavity : Byte)
  /-- READ_CAUSE (R191). -/
  | readCause (p : Port) (seq : Byte)
  /-- SET_CAUSE_MASK (R192). -/
  | setCauseMask (p : Port) (seq : Byte) (mask : BitVec 32)
  /-- DEVICE_RESET (R200): the reset ends and the part comes up with these input conditions. -/
  | deviceReset (inputs : StartInputs)
  /-- DELAY_EXPIRY (R27). -/
  | delayExpiry (c : Cavity)
  /-- STEP_TIME_EXPIRY (R30). -/
  | stepTimeExpiry (c : Cavity)
  /-- FEEDER_TIMEOUT (R34). -/
  | feederTimeout (c : Cavity)
  /-- DOOR_TIMEOUT (R46). -/
  | doorTimeout (c : Cavity)
  /-- REGULATION_UPDATE (R52). -/
  | regulationUpdate (c : Cavity)
  /-- OFF_INTERVAL_EXPIRY (R61). -/
  | offIntervalExpiry (l : Load)
  /-- ON_INTERVAL_EXPIRY (R62). -/
  | onIntervalExpiry (l : Load)
  /-- PAIR_OFF_EXPIRY (R66). -/
  | pairOffExpiry (c : Cavity)
  /-- SOAK_UPDATE (R69). -/
  | soakUpdate
  /-- SENSOR_SAMPLE (R162). -/
  | sensorSample (x : Sensor) (sample : Sample)
  /-- PROBE_INSERTION (R165). -/
  | probeInsertion (c : Cavity)
  /-- PROBE_REMOVAL (R165). -/
  | probeRemoval (c : Cavity)
  /-- DOOR_OPEN (R166). -/
  | doorOpen (c : Cavity)
  /-- DOOR_CLOSE (R166). -/
  | doorClose (c : Cavity)
  /-- TANK_REMOVAL (R167). -/
  | tankRemoval
  /-- TANK_INSERTION (R167). -/
  | tankInsertion
  /-- LIMIT_TRIP (R168). -/
  | limitTrip (c : Cavity)
  /-- LIMIT_RELEASE (R168). -/
  | limitRelease (c : Cavity)
  /-- MAINS_LOW (R170). -/
  | mainsLow
  /-- MAINS_BACK (R170). -/
  | mainsBack
  /-- MAINS_LOW_EXPIRY (R171). -/
  | mainsLowExpiry
  /-- HOLD_EXPIRY (R184). -/
  | holdExpiry (h : HoldObject)
  /-- STORE_WRITE_COMPLETE (R153): whether the memory could complete the write. -/
  | storeWriteComplete (written : Bool)
  /-- LEVEL_HIGH_WET (R97). -/
  | levelHighWet
  /-- LEVEL_LOW_DRY (R102): and whether LEVEL_HIGH's flag has gone dry by then (assumption 12). -/
  | levelLowDry (highDried : Bool)
  /-- LEVEL_LOW_WET (R107): and whether LEVEL_HIGH's flag has gone dry by then (assumption 12). -/
  | levelLowWet (highDried : Bool)
  /-- FILL_WATCHDOG_STALL (R98). -/
  | fillWatchdogStall
  /-- WINDOW_END (R104). -/
  | windowEnd
  /-- IDLE_DRAIN (R106). -/
  | idleDrain
  /-- DRAIN_COMPLETE (R107). -/
  | drainComplete
  /-- DRAIN_FAIL (R107). -/
  | drainFail
  /-- HEAT_SLOW (R101). -/
  | heatSlow
  /-- FLOW_PULSE (R116): and the time since the pulse before it, in milliseconds (R117; assumption 14). -/
  | flowPulse (gap : Nat)
  /-- QUIET_TIME_EXPIRY (R117). -/
  | quietTimeExpiry
  /-- SOAK_TIME_EXPIRY (R134). -/
  | soakTimeExpiry
  /-- PROMPT_TIMEOUT (R158). -/
  | promptTimeout (o : Owner)
  /-- RESET_HELD (R198). -/
  | resetHeld
  /-- LINE_RETURN_TO_MARK (R186). -/
  | lineReturnToMark (p : Port)
  deriving DecidableEq, Repr

end Sys2Proof
end

