-- ==== Sys2Proof/Config.lean ====
section
/-! DEFINITION. What is fixed for the part (capacities and periods the rules state) and the free values:
values the manual leaves open, constants with no body. -/

namespace Sys2Proof.Config

/-- Slots of a step queue (R6). -/
def queueSlots : Nat := 16
/-- Records of the program pool (R144). -/
def poolRecords : Nat := 384
/-- Program slots (R144). -/
def programSlots : Nat := 40
/-- Records a program or the staging buffer can hold (R144, R147). -/
def programRecords : Nat := 48
/-- ACTION records a stored loop body can hold (R149). -/
def loopBodyRecords : Nat := 14
/-- Bytes of a label (R144). -/
def labelBytes : Nat := 16
/-- Watermark of every program run (R17). -/
def programWatermark : Nat := 4
/-- Watermark of a streamed run whose OPEN_RUN gives none (R17). -/
def defaultWatermark : Nat := 2
/-- Port writes accepted and not completed (R152). -/
def portWrites : Nat := 2
/-- Tenths of a second in one second. The model's time unit is the tenth (assumption 34). -/
def second : Nat := 10
/-- The drive period, in tenths (section 3.6). -/
def drivePeriod : Nat := 200
/-- The alternate pair's period, in tenths (R60). -/
def pairPeriod : Nat := 400
/-- Largest waited time, in tenths (R65). -/
def waitedMax : Nat := 4294967295
/-- Largest count of most 16-bit counters. -/
def max16 : Nat := 65535
/-- Largest steam-water total in ml (R115). -/
def totalMax : Nat := 4294967295
/-- Overfill volume in ml (R100). -/
def overfill : Nat := 1500
/-- Credit cap and cost of a window (R104). -/
def creditCap : Nat := 200
/-- Credit spent on a window (R104). -/
def windowCost : Nat := 100
/-- Dry-boil temperature in tenths of a degree (R109). -/
def dryBoil : Nat := 1400
/-- Sampling period in milliseconds (R162). -/
def samplePeriod : Nat := 250

/-- FREE VALUE. A 16-bit value the manual does not state: the state left in the GEN_STATE of a start-up (R113, R114)
and the rinse number in the DESCALE_PHASE of an entry to IDLE (R129), drawn afresh by the counter `freeIndex`
(assumptions 8 and 9). -/
opaque freeHalf : Nat → Half

/-- FREE VALUE. The reading, in tenths of a degree, taken where a computation needs one and none is held
(assumption 26; no run reaches such a state). -/
opaque freeReading : Nat → Nat

end Sys2Proof.Config
end

