-- ==== Sys2Proof/Machine/State.lean ====
section
/-! DEFINITION. The state of the DU3120 as plain data: every field the chapters give each block, the replies and
causes it reports, the reasons a step can stop, and the state after a device reset. Times are in tenths of a second
(assumption 34); what the rules let be computed (pins, granted sum, use counts, projected content, owner) is not
stored (assumption 30). -/

namespace Sys2Proof.Machine

/-! ## Families of like things -/

/-- One thing per cavity. -/
structure PerCavity (α : Type) where
  a : α
  b : α
  deriving DecidableEq, Repr

/-- The cavity's member. -/
def PerCavity.get {α : Type} (x : PerCavity α) : Cavity → α
  | .A => x.a
  | .B => x.b

/-- Replace the cavity's member. -/
def PerCavity.set {α : Type} (x : PerCavity α) (c : Cavity) (v : α) : PerCavity α :=
  match c with
  | .A => { x with a := v }
  | .B => { x with b := v }

/-- One thing per port. -/
structure PerPort (α : Type) where
  panel : α
  link : α
  service : α
  deriving DecidableEq, Repr

/-- The port's member. -/
def PerPort.get {α : Type} (x : PerPort α) : Port → α
  | .panel => x.panel
  | .link => x.link
  | .service => x.service

/-- Replace the port's member. -/
def PerPort.set {α : Type} (x : PerPort α) (p : Port) (v : α) : PerPort α :=
  match p with
  | .panel => { x with panel := v }
  | .link => { x with link := v }
  | .service => { x with service := v }

/-- One thing per load. -/
structure PerLoad (α : Type) where
  genHeat : α
  aRing : α
  bRing : α
  aTop : α
  bTop : α
  aBottom : α
  bBottom : α
  deriving DecidableEq, Repr

/-- The load's member. -/
def PerLoad.get {α : Type} (x : PerLoad α) : Load → α
  | .genHeat => x.genHeat
  | .aRing => x.aRing
  | .bRing => x.bRing
  | .aTop => x.aTop
  | .bTop => x.bTop
  | .aBottom => x.aBottom
  | .bBottom => x.bBottom

/-- Replace the load's member. -/
def PerLoad.set {α : Type} (x : PerLoad α) (l : Load) (v : α) : PerLoad α :=
  match l with
  | .genHeat => { x with genHeat := v }
  | .aRing => { x with aRing := v }
  | .bRing => { x with bRing := v }
  | .aTop => { x with aTop := v }
  | .bTop => { x with bTop := v }
  | .aBottom => { x with aBottom := v }
  | .bBottom => { x with bBottom := v }

/-- The same thing for every load. -/
def PerLoad.all {α : Type} (v : α) : PerLoad α := ⟨v, v, v, v, v, v, v⟩

/-- One thing per temperature sensor. -/
structure PerSensor (α : Type) where
  cavTempA : α
  cavTempB : α
  coreA : α
  coreB : α
  genTemp : α
  deriving DecidableEq, Repr

/-- The sensor's member. -/
def PerSensor.get {α : Type} (x : PerSensor α) : Sensor → α
  | .cavTempA => x.cavTempA
  | .cavTempB => x.cavTempB
  | .coreA => x.coreA
  | .coreB => x.coreB
  | .genTemp => x.genTemp

/-- Replace the sensor's member. -/
def PerSensor.set {α : Type} (x : PerSensor α) (k : Sensor) (v : α) : PerSensor α :=
  match k with
  | .cavTempA => { x with cavTempA := v }
  | .cavTempB => { x with cavTempB := v }
  | .coreA => { x with coreA := v }
  | .coreB => { x with coreB := v }
  | .genTemp => { x with genTemp := v }

/-- One thing per hold object. -/
structure PerHold (α : Type) where
  editA : α
  editB : α
  store : α
  deriving DecidableEq, Repr

/-- The hold object's member. -/
def PerHold.get {α : Type} (x : PerHold α) : HoldObject → α
  | .editA => x.editA
  | .editB => x.editB
  | .store => x.store

/-- Replace the hold object's member. -/
def PerHold.set {α : Type} (x : PerHold α) (h : HoldObject) (v : α) : PerHold α :=
  match h with
  | .editA => { x with editA := v }
  | .editB => { x with editB := v }
  | .store => { x with store := v }

/-- One thing per prompt owner (R154). -/
structure PerOwner (α : Type) where
  cavityA : α
  cavityB : α
  generator : α
  descaler : α
  deriving DecidableEq, Repr

/-- The owner's member. -/
def PerOwner.get {α : Type} (x : PerOwner α) : Owner → α
  | .cavityA => x.cavityA
  | .cavityB => x.cavityB
  | .generator => x.generator
  | .descaler => x.descaler

/-- Replace the owner's member. -/
def PerOwner.set {α : Type} (x : PerOwner α) (o : Owner) (v : α) : PerOwner α :=
  match o with
  | .cavityA => { x with cavityA := v }
  | .cavityB => { x with cavityB := v }
  | .generator => { x with generator := v }
  | .descaler => { x with descaler := v }

/-! ## Step records (R1 to R3) -/

/-- Heat mode (R1). -/
inductive HeatMode | noHeat | ring | topBottom | alternate | top | bottom | ringBottom
  deriving DecidableEq, Repr

/-- Fan level (R1). -/
inductive FanLevel | off | low | high
  deriving DecidableEq, Repr

/-- Time basis (R1). -/
inductive TimeBasis | fromStart | fromTarget
  deriving DecidableEq, Repr

/-- Placement of a prompt (R2); DEVICE only in the prompt table (R154). -/
inductive Placement | before | after | notice | device
  deriving DecidableEq, Repr

/-- Action at a prompt's timeout (R2). -/
inductive OnTimeout | cont | pause | abort
  deriving DecidableEq, Repr

/-- The prompt sub-record of an ACTION record (R2); timeout in seconds, 0 for none. -/
structure PromptSub where
  code : Nat
  placement : Placement
  doorAck : Bool
  timeout : Nat
  onTimeout : OnTimeout
  deriving DecidableEq, Repr

/-- An ACTION record (R1): temperatures in °C, ramp in °C/min, duration in seconds. -/
structure Action where
  heat : HeatMode
  target : Option Nat
  ramp : Nat
  band : Option Nat
  steam : Nat
  fan : FanLevel
  duration : Option Nat
  basis : Option TimeBasis
  core : Option Nat
  prompt : Option PromptSub
  deriving DecidableEq, Repr

/-- A step record (R1, R3). -/
inductive Record
  | action (a : Action)
  | mark
  | rep (count : Nat)
  deriving DecidableEq, Repr

/-- A pending record with its load number (R7). -/
structure Loaded where
  load : Nat
  record : Record
  deriving DecidableEq, Repr

/-- A retained ACTION record with its load number (R6). -/
structure Kept where
  load : Nat
  action : Action
  deriving DecidableEq, Repr

/-- A step queue (R6): head first; the loop counter, the load counter (R7) and the outstanding flag (R19). -/
structure StepQueue where
  pending : List Loaded
  retained : List Kept
  mark : Bool
  loop : Option Nat
  nextLoad : Nat
  outstanding : Bool
  deriving DecidableEq, Repr

/-! ## The run record (R21) -/

/-- Run states (R21). -/
inductive RunState | idle | loading | delayed | running | starved | paused | finished | aborted
  deriving DecidableEq, Repr

/-- The source of a run's steps (R21). -/
inductive Source
  | stream (feeder : Port)
  | program (slot : Nat)
  deriving DecidableEq, Repr

/-- Source, closed and watermark are present together (R21). -/
structure Opened where
  source : Source
  closed : Bool
  watermark : Nat
  deriving DecidableEq, Repr

/-- Phase of the current step (R21). -/
inductive Phase | entryPrompt | heatup | hold | exitPrompt
  deriving DecidableEq, Repr

/-- Core condition (R21). -/
inductive CoreCond | live | waitingProbe | suspended | dropped
  deriving DecidableEq, Repr

/-- The state a run was paused from (R21). -/
inductive PausedFrom | running | starved
  deriving DecidableEq, Repr

/-- Steam denial reasons (R21, R96). -/
inductive DenialReason | lock | descale | rinseOwed | genFault
  deriving DecidableEq, Repr

/-- Pause reasons (R21). -/
inductive PauseReason | order | door | prompt | probe | watch
  deriving DecidableEq, Repr

/-- Abort reasons (R21). -/
inductive AbortReason | stop | limit | mainsLoss | sensor | feedLost | prompt
  deriving DecidableEq, Repr

/-- The current step: the run record's copy of the ACTION record, its load number, and the approach band taken
from the step or the setting (R28). The climate loop's heat mode, target, ramp rate and band are these. -/
structure CurrentStep where
  load : Nat
  action : Action
  band : Nat
  deriving DecidableEq, Repr

/-- A run record (R21). Times in tenths. `reader` is the program reader's next index while it holds its slot (R146);
`linked` says that the delay is the shared one of START_LINKED (R26). -/
structure Run where
  state : RunState
  opened : Option Opened
  reader : Option Nat
  pausedFrom : Option PausedFrom
  current : Option CurrentStep
  phase : Option Phase
  remaining : Option Nat
  coreCond : Option CoreCond
  deferred : Bool
  doorSuspended : Bool
  mainsHeld : Bool
  doorTime : Option Nat
  denial : Option DenialReason
  pauseReason : Option PauseReason
  abortReason : Option AbortReason
  delay : Option Nat
  linked : Bool
  starveTime : Option Nat
  deriving DecidableEq, Repr

/-! ## Climate loop and drive timers (R51, R61, R66, R70) -/

/-- The case of the approach (R51, R56). -/
inductive Case | heating | cooling | undecided
  deriving DecidableEq, Repr

/-- The climate fields present with a target (R51): the setpoint in hundredths of °C. -/
structure Loop where
  case : Case
  reached : Bool
  setpoint : Nat
  remainder : Nat
  deriving DecidableEq, Repr

/-- Watch source, relation and action (R70). -/
inductive WatchSource | cavity | core
  deriving DecidableEq, Repr
/-- Watch relation (R70). -/
inductive WatchRelation | atOrAbove | atOrBelow
  deriving DecidableEq, Repr
/-- Watch action (R70). -/
inductive WatchAction | notify | endStep | pauseRun
  deriving DecidableEq, Repr

/-- A watch in a slot (R70). -/
structure Watch where
  source : WatchSource
  relation : WatchRelation
  value : Nat
  action : WatchAction
  armed : Bool
  deriving DecidableEq, Repr

/-- A climate loop (R51). `restartOwed` is the restart of R55 not yet made. -/
structure Climate where
  loop : Option Loop
  updateTime : Option Nat
  demand : Nat
  watch1 : Option Watch
  watch2 : Option Watch
  restartOwed : Bool
  deriving DecidableEq, Repr

/-- Interval states of a drive timer (R61); FROZEN is a flag beside the state frozen from. -/
inductive Interval | idle | offInterval | waiting | onInterval
  deriving DecidableEq, Repr

/-- A drive timer (R61, R65). -/
structure Timer where
  on : Nat
  off : Nat
  interval : Interval
  frozen : Bool
  remaining : Option Nat
  waited : Nat
  deriving DecidableEq, Repr

/-- Pair positions (R66). -/
inductive PairPosition | topTurn | bottomTurn | pairOff
  deriving DecidableEq, Repr

/-- The alternate pair of a cavity (R66): whether top and bottom are paired, the position, the pair OFF hold. -/
structure Pair where
  paired : Bool
  position : Option PairPosition
  offHold : Nat
  deriving DecidableEq, Repr

/-- Arbiter status of a load (R74). -/
inductive LoadStatus | none | waiting | granted
  deriving DecidableEq, Repr

/-! ## Steam generator (R91) -/

/-- Generator states (R91). -/
inductive GenState
  | empty | filling | heating | ready | delivering | waterWait | draining | descale | rinseOwed | fault
  deriving DecidableEq, Repr

/-- Owner of the generator (R91). -/
inductive GenOwner | steam | descaler
  deriving DecidableEq, Repr

/-- Purpose of a fill (R91). -/
inductive Purpose | steam | descaleSolution | rinse
  deriving DecidableEq, Repr

/-- Water source (R91, R194). -/
inductive WaterSource | tank | plumbed
  deriving DecidableEq, Repr

/-- After-drain target (R91). -/
inductive AfterDrain | empty | rinseOwed | report
  deriving DecidableEq, Repr

/-- Fault kinds (R91). -/
inductive FaultKind | dryBoil | overfill | noWater | drainFail | sensor
  deriving DecidableEq, Repr

/-- A fill in progress (R91); watchdog in tenths. -/
structure Fill where
  purpose : Purpose
  source : WaterSource
  watchdog : Nat
  deriving DecidableEq, Repr

/-- Status of a cavity's steam demand (section 5.2). -/
inductive Demand | absent | suspended | present
  deriving DecidableEq, Repr

/-- A demand as last reported by the sequencer (R94). -/
structure DemandReport where
  status : Demand
  level : Nat
  load : Nat
  deriving DecidableEq, Repr

/-- The generator record (R91). The owner is computed (`genOwner`). `soakUpdate` is the update time of R69. -/
structure Gen where
  state : GenState
  levelLowWet : Bool
  levelHighWet : Bool
  fill : Option Fill
  waitPrompt : Option Nat
  afterDrain : Option AfterDrain
  drainTime : Option Nat
  dryTime : Option Nat
  heatAccount : Option Nat
  slowPosted : Bool
  windowTime : Option Nat
  serving : Option Cavity
  credit : PerCavity Nat
  lastServed : Option Cavity
  idleTime : Option Nat
  faultKind : Option FaultKind
  faultFrom : Option GenState
  demand : PerCavity DemandReport
  soakUpdate : Option Nat
  deriving DecidableEq, Repr

/-! ## Water meter and scale account (R115, R120) -/

/-- The open fill of the meter (R115): `measuring` says that a pulse has started the period measurement (R117). -/
structure MeterFill where
  source : WaterSource
  purpose : Purpose
  pulses : Nat
  period : Option Nat
  quiet : Nat
  measuring : Bool
  deriving DecidableEq, Repr

/-- A fill record (R115). -/
structure FillRecord where
  volume : Nat
  source : WaterSource
  purpose : Purpose
  deriving DecidableEq, Repr

/-- The water meter (R115); total in ml. -/
structure Meter where
  fill : Option MeterFill
  latest : Option FillRecord
  total : Nat
  stray : Nat
  deriving DecidableEq, Repr

/-- Result of a store write (R153). -/
inductive WriteResult | ok | fail
  deriving DecidableEq, Repr

/-- The scale account (R120): the points of the last save handed over and the last completed save's result. -/
structure Scale where
  points : Nat
  carry : Nat
  warn : Bool
  lock : Bool
  savedPoints : Option Nat
  saveResult : Option WriteResult
  deriving DecidableEq, Repr

/-- What brought a threshold test (R122). -/
inductive ScaleReason | accrual | heatSlow | setting
  deriving DecidableEq, Repr

/-! ## Descale controller (R128) -/

/-- Procedure phases (R128). -/
inductive ProcPhase
  | idle | prepDrain | waitSolution | fillSolution | heatSoak | soak | drainSolution | waitRinse | rinseFill
  | rinseDrain | done
  deriving DecidableEq, Repr

/-- Procedure kinds (R128). -/
inductive ProcKind | descale | rinse
  deriving DecidableEq, Repr

/-- Procedure abort reasons (R128). -/
inductive ProcAbort | order | fault | mainsLoss | noWater
  deriving DecidableEq, Repr

/-- Last outcome (R128), with the kind of the procedure that ended (R129, R139). -/
inductive Outcome
  | complete (kind : ProcKind)
  | aborted (kind : ProcKind) (reason : ProcAbort) (phase : ProcPhase)
  deriving DecidableEq, Repr

/-- The procedure record and its save state (R128, R129); soak time in tenths. -/
structure Procedure where
  phase : ProcPhase
  kind : Option ProcKind
  rinseOwed : Bool
  rinseNumber : Option Nat
  rinseSource : Option WaterSource
  promptId : Option Nat
  soakTime : Option Nat
  solutionVolume : Option Nat
  lastOutcome : Option Outcome
  savedPhase : Option ProcPhase
  saveResult : Option WriteResult
  deriving DecidableEq, Repr

/-! ## Settings (R194) -/

/-- One value per setting (R194), in the units of its table. -/
structure Settings where
  budget : Nat
  rating : PerLoad Nat
  chain : List Load
  fence : Nat
  waterSource : WaterSource
  hardness : Nat
  scaleWarn : Nat
  scaleLock : Nat
  flowCal : Nat
  propBand : Nat
  holdBias : PerCavity Nat
  approachBand : Nat
  doorTimeout : Nat
  feedTimeout : Nat
  idleDrain : Nat
  readyTemp : Nat
  soakTemp : Nat
  soakTime : Nat
  rinseCount : Nat
  holdTimeout : Nat
  deriving DecidableEq, Repr

/-- The defaults of R194. -/
def Settings.default : Settings :=
  { budget := 3600
    rating := ⟨2000, 1800, 1800, 1200, 1200, 1000, 1000⟩
    chain := [.genHeat, .aRing, .bRing, .aTop, .bTop, .aBottom, .bBottom]
    fence := 12
    waterSource := .tank
    hardness := 3
    scaleWarn := 30000
    scaleLock := 45000
    flowCal := 180
    propBand := 10
    holdBias := ⟨20, 20⟩
    approachBand := 5
    doorTimeout := 600
    feedTimeout := 300
    idleDrain := 600
    readyTemp := 97
    soakTemp := 70
    soakTime := 1200
    rinseCount := 2
    holdTimeout := 30 }

/-! ## Recipe store (R144, R147, R152) -/

/-- An installed program (R144). -/
structure Program where
  label : List Byte
  records : List Record
  deriving DecidableEq, Repr

/-- The open staging buffer (R147). -/
structure Staging where
  slot : Nat
  label : List Byte
  records : List Record
  deriving DecidableEq, Repr

/-- The scale record's content (R126). -/
structure ScaleRecord where
  points : Nat
  carry : Nat
  deriving DecidableEq, Repr

/-- The saved copy of the procedure record (R129). -/
structure ProcRecord where
  phase : ProcPhase
  kind : Option ProcKind
  rinseNumber : Option Nat
  rinseOwed : Bool
  deriving DecidableEq, Repr

/-- A record of the nonvolatile memory and whether its stored check matches its contents (R199). -/
structure Stored (α : Type) where
  value : α
  intact : Bool
  deriving DecidableEq, Repr

/-- An entry of the store write queue (R152). -/
inductive WriteEntry
  | commit (slot : Nat) (program : Program) (port : Port)
  | erase (slot : Nat) (port : Port)
  | settings (value : Settings) (port : Port)
  | scale (value : ScaleRecord)
  | procedure (value : ProcRecord)
  deriving DecidableEq, Repr

/-- The store (R144, R152): 40 slots, the three records (absent when never written) and the write queue. -/
structure Store where
  slots : Vector (Option Program) 40
  settings : Option (Stored Settings)
  scale : Option (Stored ScaleRecord)
  procedure : Option (Stored ProcRecord)
  waiting : List WriteEntry
  inFlight : Option WriteEntry
  deriving DecidableEq, Repr

/-! ## Prompt table (R154) -/

/-- An entry of the prompt table (R154), kept under its owner; timeout in tenths. -/
structure Prompt where
  id : Nat
  code : Nat
  placement : Placement
  doorAck : Bool
  doorOpened : Bool
  tankRemoved : Bool
  timeout : Option Nat
  onTimeout : Option OnTimeout
  timedOut : Bool
  deriving DecidableEq, Repr

/-- Why an entry was removed (R159). -/
inductive ClearReason
  | ack (p : Port)
  | door | tank | probe | timeout | replaced | cancelled
  deriving DecidableEq, Repr

/-! ## Sensors and mains (R161, R170) -/

/-- Status of a sensor (R161). -/
inductive SensorStatus | valid | suspect | faulted | absent
  deriving DecidableEq, Repr

/-- A sensor record (R161): reading in tenths of °C, run time in milliseconds. -/
structure SensorRecord where
  status : SensorStatus
  reading : Option Nat
  runTime : Option Nat
  inRange : Bool
  deriving DecidableEq, Repr

/-- The mains sense (R170): low time in tenths while LOW, and whether the expiry has been given. -/
structure Mains where
  low : Bool
  lowTime : Option Nat
  expiryGiven : Bool
  deriving DecidableEq, Repr

/-! ## Causes (R188, R193) -/

/-- An entry of a cause set: the 8-byte detail with its code and coalesce count (R175, R188). -/
structure CauseEntry where
  code : Nat
  count : Nat
  subject : Byte
  reason : Byte
  value1 : Half
  value2 : Half
  deriving DecidableEq, Repr

/-- A port's cause set, highest code first, and its mask: bit n enables code n (R188, R192). -/
structure Attention where
  causes : List CauseEntry
  mask : BitVec 32
  deriving DecidableEq, Repr

/-- The default mask: every code 1 to 31 enabled (R188, R192). -/
def defaultMask : BitVec 32 := 0xFFFFFFFE#32

/-! ## Replies (R174, R180) -/

/-- Answer codes (R180). -/
inductive Answer
  | done | busy | held | notHolder | notFeeder | state | range | fence | inUse | full | poolFull | storeBusy
  | denied | tooLate | unknown | locked | genBusy | steamInUse | loopTooLong
  deriving DecidableEq, Repr

/-- Kind of a queued record in a report (R20). -/
inductive RecordKind | action | mark | rep
  deriving DecidableEq, Repr

/-- One record of the queue report (R20): load number, kind, and whether it is retained. -/
structure QueueItem where
  load : Nat
  kind : RecordKind
  retained : Bool
  deriving DecidableEq, Repr

/-- Results of READ_RUN (R50, R20, R70): seconds, tenths of °C, the step record in its 18 bytes. -/
structure RunReport where
  state : RunState
  opened : Option Opened
  pauseReason : Option PauseReason
  abortReason : Option AbortReason
  delay : Option Nat
  starveTime : Option Nat
  load : Option Nat
  record : Option (List Byte)
  phase : Option Phase
  remaining : Option Nat
  coreCond : Option CoreCond
  denial : Option DenialReason
  doorSuspended : Bool
  mainsHeld : Bool
  doorTime : Option Nat
  setpoint : Option Nat
  reading : Option Nat
  pendingCount : Nat
  retainedCount : Nat
  free : Nat
  mark : Bool
  loop : Option Nat
  items : List QueueItem
  watch1 : Option Watch
  watch2 : Option Watch
  deriving DecidableEq, Repr

/-- One entry of READ_PROMPTS (R160): every field of R154; timeout in seconds. -/
structure PromptReport where
  id : Nat
  owner : Owner
  code : Nat
  placement : Placement
  doorAck : Bool
  doorOpened : Bool
  tankAck : Bool
  tankRemoved : Bool
  probeAck : Bool
  timeout : Option Nat
  onTimeout : Option OnTimeout
  timedOut : Bool
  deriving DecidableEq, Repr

/-- Results of READ_GEN (R113); every time in seconds, the fill's watchdog time among them. -/
structure GenReport where
  state : GenState
  owner : GenOwner
  faultKind : Option FaultKind
  faultFrom : Option GenState
  levelLowWet : Bool
  levelHighWet : Bool
  reading : Option Nat
  fill : Option Fill
  volume : Option Nat
  windowTime : Option Nat
  serving : Option Cavity
  credit : PerCavity Nat
  lastServed : Option Cavity
  idleTime : Option Nat
  drainTime : Option Nat
  dryTime : Option Nat
  heatAccount : Option Nat
  slowPosted : Bool
  waitPrompt : Option Nat
  tankPump : Bool
  inletValve : Bool
  drainPump : Bool
  steamValveA : Bool
  steamValveB : Bool
  lock : Bool
  deriving DecidableEq, Repr

/-- The open fill of READ_WATER (R127); its volume and the pulse period stand beside it. -/
structure OpenFill where
  source : WaterSource
  purpose : Purpose
  pulses : Nat
  deriving DecidableEq, Repr

/-- Results of READ_WATER (R127). -/
structure WaterReport where
  fill : Option OpenFill
  volume : Option Nat
  period : Option Nat
  flowRate : Nat
  latest : Option FillRecord
  litres : Nat
  stray : Nat
  points : Nat
  carry : Nat
  warn : Bool
  lock : Bool
  scaleWarn : Nat
  scaleLock : Nat
  hardness : Nat
  flowCal : Nat
  savedPoints : Option Nat
  saveBusy : Bool
  saveResult : Option WriteResult
  deriving DecidableEq, Repr

/-- Results of READ_DESCALE (R143). -/
structure DescaleReport where
  phase : ProcPhase
  kind : Option ProcKind
  rinseNumber : Option Nat
  rinseCount : Nat
  rinseSource : Option WaterSource
  rinseOwed : Bool
  promptId : Option Nat
  soakTime : Option Nat
  soakTimeSetting : Option Nat
  reading : Option Nat
  soakTemp : Nat
  solutionVolume : Option Nat
  lastOutcome : Option Outcome
  savedPhase : Option ProcPhase
  saveBusy : Bool
  saveResult : Option WriteResult
  deriving DecidableEq, Repr

/-- One load of READ_LOADS (R90). -/
structure LoadReport where
  load : Load
  rating : Nat
  position : Nat
  status : LoadStatus
  frozen : Bool
  interval : Interval
  on : Nat
  off : Nat
  pairOff : Option Nat
  pairPosition : Option PairPosition
  remaining : Option Nat
  output : Bool
  waited : Nat
  deriving DecidableEq, Repr

/-- Results of READ_LOADS (R90). -/
structure LoadsReport where
  loads : List LoadReport
  budget : Nat
  grantedSum : Nat
  breakLoad : Option Load
  mainsLow : Bool
  demandA : Nat
  demandB : Nat
  deriving DecidableEq, Repr

/-- Results of READ_SENSORS (R172). -/
structure SensorsReport where
  sensors : PerSensor SensorRecord
  doorOpen : PerCavity Bool
  probePresent : PerCavity Bool
  limitActive : PerCavity Bool
  limitLatch : PerCavity Bool
  tankPresent : Bool
  mainsLow : Bool
  lowTime : Option Nat
  expiryGiven : Bool
  deriving DecidableEq, Repr

/-- A setting's value in an order or a report (R194). -/
inductive SettingValue
  | num (n : Nat)
  | chain (l : List Load)
  deriving DecidableEq, Repr

/-- Results of READ_PARAM (R196): for CHAIN_ORDER the range is the permutations, given as absent bounds. -/
structure ParamReport where
  value : SettingValue
  low : Option Nat
  high : Option Nat
  default : SettingValue
  serviceOnly : Bool
  differs : Bool
  deriving DecidableEq, Repr

/-- The results a reply carries, as typed contents (assumption 10). READ_PROGRAM's are its bytes (R151). -/
inductive Results
  | none
  | openRun (count : Nat) (closed : Bool)
  | loadStep (load free : Nat)
  | full (free : Nat)
  | skipStep (load : Nat)
  | run (r : RunReport)
  | prompts (counter : Nat) (entries : List PromptReport)
  | hold (expiry : Nat)
  | heldBy (holder : Port) (expiry : Nat)
  | gen (r : GenReport)
  | descale (r : DescaleReport)
  | water (r : WaterReport)
  | staged (count : Nat)
  | program (bytes : List Byte)
  | param (value : SettingValue)
  | paramReport (r : ParamReport)
  | loads (r : LoadsReport)
  | sensors (r : SensorsReport)
  | cause (e : CauseEntry) (left : Nat)
  | mask (m : BitVec 32)
  deriving DecidableEq, Repr

/-- A reply: the sequence and identifier echoed, the answer and the results (R174). -/
structure Reply where
  seq : Byte
  id : Byte
  answer : Answer
  results : Results
  deriving DecidableEq, Repr

/-- What a reply on the transmit line is (R177, R187): the pending order's, a BUSY, or the rest of a reply whose
order a port reset has dropped. -/
inductive ReplyKind | order | busy | dropped
  deriving DecidableEq, Repr

/-- A reply on the transmit line. -/
structure Outgoing where
  kind : ReplyKind
  reply : Reply
  deriving DecidableEq, Repr

/-- A port's receiver (R173). `body` holds the length byte and the bytes taken since, oldest first. -/
inductive Receiver
  | hunting
  | length
  | body (length : Byte) (taken : List Byte)
  deriving DecidableEq, Repr

/-- A port (R173, R177, R186): receiver, line held in space after a break, replies in the order made, the first of
which is leaving. -/
structure PortRecord where
  receiver : Receiver
  inBreak : Bool
  replies : List Outgoing
  deriving DecidableEq, Repr

/-- A held hold object (R183); expiry time in tenths. -/
structure Hold where
  holder : Port
  expiry : Nat
  deriving DecidableEq, Repr

/-! ## The state -/

/-- The state of the part. The last two fields are the model's own: the counter of free values (assumptions 8, 9)
and the queue of waiting commands. -/
structure State where
  settings : Settings
  runs : PerCavity Run
  queues : PerCavity StepQueue
  climates : PerCavity Climate
  pairs : PerCavity Pair
  timers : PerLoad Timer
  arbiter : PerLoad LoadStatus
  gen : Gen
  meter : Meter
  scale : Scale
  proc : Procedure
  store : Store
  staging : Option Staging
  prompts : PerOwner (Option Prompt)
  promptCounter : Nat
  sensors : PerSensor SensorRecord
  doorOpen : PerCavity Bool
  probePresent : PerCavity Bool
  limitActive : PerCavity Bool
  limitLatch : PerCavity Bool
  tankPresent : Bool
  mains : Mains
  ports : PerPort PortRecord
  holds : PerHold (Option Hold)
  attention : PerPort Attention
  resetHeld : Bool
  freeIndex : Nat
  pending : List Instr
  deriving DecidableEq, Repr

/-- Why a step stops with a fault: there is no such reason. The spec gives every command an effect in every state
(refused orders are replies, R180; the generator's FAULT and sensor faults are states), so no meaning raises one. Safe. -/
inductive Fault
  deriving DecidableEq, Repr

/-- Why a step is refused. -/
inductive Refusal
  /-- Raised by `exec` for a command that has no meaning yet, by its mnemonic; no arm raises it now. Safe. -/
  | notModelled (mnemonic : String)
  deriving DecidableEq, Repr

/-! ## Reset values -/

/-- An IDLE run record (R21). -/
def Run.idle : Run :=
  { state := .idle, opened := none, reader := none, pausedFrom := none, current := none, phase := none
    remaining := none, coreCond := none, deferred := false, doorSuspended := false, mainsHeld := false
    doorTime := none, denial := none, pauseReason := none, abortReason := none, delay := none, linked := false
    starveTime := none }

/-- The queue after a device reset (R6). -/
def StepQueue.reset : StepQueue :=
  { pending := [], retained := [], mark := false, loop := none, nextLoad := 1, outstanding := false }

/-- The climate loop after a device reset (R51). -/
def Climate.reset : Climate :=
  { loop := none, updateTime := none, demand := 0, watch1 := none, watch2 := none, restartOwed := false }

/-- A drive timer after a device reset (R61). -/
def Timer.reset : Timer :=
  { on := 0, off := 0, interval := .idle, frozen := false, remaining := none, waited := 0 }

/-- No pair. -/
def Pair.none : Pair := { paired := false, position := Option.none, offHold := 0 }

/-- An absent demand. -/
def DemandReport.none : DemandReport := { status := .absent, level := 0, load := 0 }

/-- The generator before its start-up rule acts (R91, R114): no fill, no drain, no credit; the level flags are the
electrodes' first samples (R92). -/
def Gen.start (lowWet highWet : Bool) : Gen :=
  { state := .empty, levelLowWet := lowWet, levelHighWet := highWet, fill := none, waitPrompt := none
    afterDrain := none, drainTime := none, dryTime := none, heatAccount := none, slowPosted := false
    windowTime := none, serving := none, credit := ⟨0, 0⟩, lastServed := none, idleTime := none
    faultKind := none, faultFrom := none, demand := ⟨DemandReport.none, DemandReport.none⟩, soakUpdate := none }

/-- The meter after a device reset (R115). -/
def Meter.reset : Meter := { fill := none, latest := none, total := 0, stray := 0 }

/-- The procedure record after a device reset, with the rinse owed that R141 gives (R128). -/
def Procedure.reset (rinseOwed : Bool) : Procedure :=
  { phase := .idle, kind := none, rinseOwed := rinseOwed, rinseNumber := none, rinseSource := none
    promptId := none, soakTime := none, solutionVolume := none, lastOutcome := none, savedPhase := none
    saveResult := none }

/-- A port after a device reset (R173). A receive line still held in space is no break taken yet: the bytes of the line are
taken and a LINE_BREAK resets the port (R186; assumption 49). -/
def PortRecord.reset : PortRecord := { receiver := .hunting, inBreak := false, replies := [] }

/-- The store of a part whose memory has never been written (R144; assumption 7). -/
def Store.blank : Store :=
  { slots := Vector.replicate 40 none, settings := none, scale := none, procedure := none, waiting := []
    inFlight := none }

/-- A sensor that a first sample in range has made VALID (R161). -/
def SensorRecord.valid (reading : Nat) : SensorRecord :=
  { status := .valid, reading := some reading, runTime := none, inRange := true }

/-- A core sensor whose probe is not present (R161; `inRange`: assumption 29). -/
def SensorRecord.absent : SensorRecord :=
  { status := .absent, reading := none, runTime := none, inRange := false }

/-- The causes of a start-up with defaults in force and the generator EMPTY: GEN_STATE (code 4) with the unstated
state left (assumption 8), and STARTED (code 1) with reason DEFAULTS (R188, R200). -/
def startCauses : List CauseEntry :=
  [{ code := 4, count := 1, subject := 0, reason := 0, value1 := Config.freeHalf 0, value2 := 0 },
   { code := 1, count := 1, subject := 0, reason := 1, value1 := 0, value2 := 0 }]

/-- The machine right after a device reset (R200) of a part whose memory has never been written (assumption 7),
with the input conditions of assumption 6: doors closed, probes out, tank in, limits inactive, mains normal, both
electrodes dry, 20.0 °C everywhere. -/
def State.reset : State :=
  { settings := Settings.default
    runs := ⟨Run.idle, Run.idle⟩
    queues := ⟨StepQueue.reset, StepQueue.reset⟩
    climates := ⟨Climate.reset, Climate.reset⟩
    pairs := ⟨Pair.none, Pair.none⟩
    timers := PerLoad.all Timer.reset
    arbiter := PerLoad.all .none
    gen := Gen.start false false
    meter := Meter.reset
    scale := { points := 0, carry := 0, warn := false, lock := false, savedPoints := none, saveResult := none }
    proc := Procedure.reset false
    store := Store.blank
    staging := none
    prompts := ⟨none, none, none, none⟩
    promptCounter := 1
    sensors := ⟨SensorRecord.valid 200, SensorRecord.valid 200, SensorRecord.absent, SensorRecord.absent,
      SensorRecord.valid 200⟩
    doorOpen := ⟨false, false⟩
    probePresent := ⟨false, false⟩
    limitActive := ⟨false, false⟩
    limitLatch := ⟨false, false⟩
    tankPresent := true
    mains := { low := false, lowTime := none, expiryGiven := false }
    ports := ⟨PortRecord.reset, PortRecord.reset, PortRecord.reset⟩
    holds := ⟨none, none, none⟩
    attention := ⟨⟨startCauses, defaultMask⟩, ⟨startCauses, defaultMask⟩, ⟨startCauses, defaultMask⟩⟩
    resetHeld := false
    freeIndex := 1
    pending := [] }

end Sys2Proof.Machine
end

