-- ==== Sys2Proof/Machine/Operands.lean ====
section
/-! DEFINITION. Operand forms: how the enumerated values, step records and settings are encoded in bytes and causes
(R174 to R176, R182, R194), the checks of R4 on a record, and the ranges of R194. An enumerated field carries the
position of its value in its list, counting from 0 (R174). -/

namespace Sys2Proof.Machine

/-! ## Positions of enumerated values -/

/-- Cavity: A, B (R176). -/
def cavityCode : Cavity → Nat
  | .A => 0 | .B => 1

/-- The cavity a parameter byte names (R178: none is answered RANGE). -/
def cavityOf? (b : Byte) : Option Cavity :=
  if b = 0 then some .A else if b = 1 then some .B else none

/-- Port: PANEL, LINK, SERVICE (R176). -/
def portCode : Port → Nat
  | .panel => 0 | .link => 1 | .service => 2

/-- Hold object: EDIT_A, EDIT_B, STORE (R176). -/
def holdCode : HoldObject → Nat
  | .editA => 0 | .editB => 1 | .store => 2

/-- The hold object a parameter byte names (R182). -/
def holdOf? (b : Byte) : Option HoldObject :=
  if b = 0 then some .editA else if b = 1 then some .editB else if b = 2 then some .store else none

/-- The EDIT object of a cavity (R178). -/
def editHold : Cavity → HoldObject
  | .A => .editA | .B => .editB

/-- Load: its place in the default chain order (R176). -/
def loadCode : Load → Nat
  | .genHeat => 0 | .aRing => 1 | .bRing => 2 | .aTop => 3 | .bTop => 4 | .aBottom => 5 | .bBottom => 6

/-- The load a byte of CHAIN_ORDER names (R194). -/
def loadOf? (b : Byte) : Option Load :=
  if b = 0 then some .genHeat else if b = 1 then some .aRing else if b = 2 then some .bRing
  else if b = 3 then some .aTop else if b = 4 then some .bTop else if b = 5 then some .aBottom
  else if b = 6 then some .bBottom else none

/-- Sensor, in the list of R161. -/
def sensorCode : Sensor → Nat
  | .cavTempA => 0 | .cavTempB => 1 | .coreA => 2 | .coreB => 3 | .genTemp => 4

/-- Prompt owner, in the list of R154. -/
def ownerCode : Owner → Nat
  | .cavityA => 0 | .cavityB => 1 | .generator => 2 | .descaler => 3

/-- The prompt owner of a cavity (R28). -/
def cavityOwner : Cavity → Owner
  | .A => .cavityA | .B => .cavityB

/-- Heat mode, in the list of R175. -/
def heatCode : HeatMode → Nat
  | .noHeat => 0 | .ring => 1 | .topBottom => 2 | .alternate => 3 | .top => 4 | .bottom => 5 | .ringBottom => 6

/-- The heat mode of a record's byte 2. -/
def heatOf? (b : Byte) : Option HeatMode :=
  if b = 0 then some .noHeat else if b = 1 then some .ring else if b = 2 then some .topBottom
  else if b = 3 then some .alternate else if b = 4 then some .top else if b = 5 then some .bottom
  else if b = 6 then some .ringBottom else none

/-- Fan level: OFF, LOW, HIGH (R175). -/
def fanCode : FanLevel → Nat
  | .off => 0 | .low => 1 | .high => 2

/-- The fan level of a record's byte 7. -/
def fanOf? (b : Byte) : Option FanLevel :=
  if b = 0 then some .off else if b = 1 then some .low else if b = 2 then some .high else none

/-- Time basis: FROM_START, FROM_TARGET (R175). -/
def basisCode : TimeBasis → Nat
  | .fromStart => 0 | .fromTarget => 1

/-- The time basis of a record's byte 10. -/
def basisOf? (b : Byte) : Option TimeBasis :=
  if b = 0 then some .fromStart else if b = 1 then some .fromTarget else none

/-- Placement: BEFORE, AFTER, NOTICE, and DEVICE in PROMPT_RAISED (R175, R193). -/
def placementCode : Placement → Nat
  | .before => 0 | .after => 1 | .notice => 2 | .device => 3

/-- The placement of a record's byte 13. -/
def placementOf? (b : Byte) : Option Placement :=
  if b = 0 then some .before else if b = 1 then some .after else if b = 2 then some .notice else none

/-- On timeout: CONTINUE, PAUSE, ABORT (R175). -/
def onTimeoutCode : OnTimeout → Nat
  | .cont => 0 | .pause => 1 | .abort => 2

/-- The on-timeout action of a record's byte 15. -/
def onTimeoutOf? (b : Byte) : Option OnTimeout :=
  if b = 0 then some .cont else if b = 1 then some .pause else if b = 2 then some .abort else none

/-- no, yes (R175, byte 14). -/
def yesOf? (b : Byte) : Option Bool :=
  if b = 0 then some false else if b = 1 then some true else none

/-- no, yes as a byte. -/
def yesByte (x : Bool) : Byte := if x then 1 else 0

/-- Pause reason, in the list of R21. -/
def pauseCode : PauseReason → Nat
  | .order => 0 | .door => 1 | .prompt => 2 | .probe => 3 | .watch => 4

/-- Abort reason, in the list of R21. -/
def abortCode : AbortReason → Nat
  | .stop => 0 | .limit => 1 | .mainsLoss => 2 | .sensor => 3 | .feedLost => 4 | .prompt => 5

/-- Denial reason, in the list of R21. -/
def denialCode : DenialReason → Nat
  | .lock => 0 | .descale => 1 | .rinseOwed => 2 | .genFault => 3

/-- Watch action: NOTIFY, END_STEP, PAUSE_RUN (R70). -/
def watchActionCode : WatchAction → Nat
  | .notify => 0 | .endStep => 1 | .pauseRun => 2

/-- The watch action of a parameter byte (R182). -/
def watchActionOf? (b : Byte) : Option WatchAction :=
  if b = 0 then some .notify else if b = 1 then some .endStep else if b = 2 then some .pauseRun else none

/-- The watch source of a parameter byte (R182). -/
def watchSourceOf? (b : Byte) : Option WatchSource :=
  if b = 0 then some .cavity else if b = 1 then some .core else none

/-- The watch relation of a parameter byte (R182). -/
def watchRelationOf? (b : Byte) : Option WatchRelation :=
  if b = 0 then some .atOrAbove else if b = 1 then some .atOrBelow else none

/-- Generator state, in the list of R91. -/
def genStateCode : GenState → Nat
  | .empty => 0 | .filling => 1 | .heating => 2 | .ready => 3 | .delivering => 4 | .waterWait => 5
  | .draining => 6 | .descale => 7 | .rinseOwed => 8 | .fault => 9

/-- Owner: STEAM, DESCALER (R91). -/
def genOwnerCode : GenOwner → Nat
  | .steam => 0 | .descaler => 1

/-- Fault kind, in the list of R91. -/
def faultCode : FaultKind → Nat
  | .dryBoil => 0 | .overfill => 1 | .noWater => 2 | .drainFail => 3 | .sensor => 4

/-- What brought a scale cause: ACCRUAL, HEAT_SLOW, SETTING (R193). -/
def scaleReasonCode : ScaleReason → Nat
  | .accrual => 0 | .heatSlow => 1 | .setting => 2

/-- Procedure phase, in the list of R128. -/
def procPhaseCode : ProcPhase → Nat
  | .idle => 0 | .prepDrain => 1 | .waitSolution => 2 | .fillSolution => 3 | .heatSoak => 4 | .soak => 5
  | .drainSolution => 6 | .waitRinse => 7 | .rinseFill => 8 | .rinseDrain => 9 | .done => 10

/-- Procedure kind: DESCALE, RINSE (R128). -/
def procKindCode : ProcKind → Nat
  | .descale => 0 | .rinse => 1

/-- Procedure abort reason: ORDER, FAULT, MAINS_LOSS, NO_WATER (R128). -/
def procAbortCode : ProcAbort → Nat
  | .order => 0 | .fault => 1 | .mainsLoss => 2 | .noWater => 3

/-- Last outcome in DESCALE_PHASE (R193): 0 none, 1 COMPLETE, 2 to 5 ABORTED with its reason. -/
def outcomeCode : Option Outcome → Nat
  | none => 0
  | some (.complete _) => 1
  | some (.aborted _ r _) => 2 + procAbortCode r

/-- Removal reason of a prompt (R159): ACK, DOOR, TANK, PROBE, TIMEOUT, REPLACED, CANCELLED. -/
def clearCode : ClearReason → Nat
  | .ack _ => 0 | .door => 1 | .tank => 2 | .probe => 3 | .timeout => 4 | .replaced => 5 | .cancelled => 6

/-- Answer codes (R180). -/
def answerCode : Answer → Nat
  | .done => 0 | .busy => 1 | .held => 2 | .notHolder => 3 | .notFeeder => 4 | .state => 5 | .range => 6
  | .fence => 7 | .inUse => 8 | .full => 9 | .poolFull => 10 | .storeBusy => 11 | .denied => 12 | .tooLate => 13
  | .unknown => 14 | .locked => 15 | .genBusy => 16 | .steamInUse => 17 | .loopTooLong => 18

/-! ## Step records in bytes (R175, R176) -/

/-- The high byte of a two-byte value (R174). -/
def highByte (n : Nat) : Byte := toByte (n / 256)

/-- A two-byte value, most significant byte first (R174). -/
def pairBytes (n : Nat) : List Byte := [highByte n, toByte n]

/-- The two-byte value of two bytes, most significant first (R174). -/
def pairNat (hi lo : Byte) : Nat := hi.toNat * 256 + lo.toNat

/-- Decode bytes 12 to 17 of an ACTION record, read only when the prompt flag is set (R176). -/
def decodePrompt (code placement door onTime hi lo : Byte) : Option PromptSub :=
  match placementOf? placement, yesOf? door, onTimeoutOf? onTime with
  | some pl, some d, some o =>
    some { code := code.toNat, placement := pl, doorAck := d, timeout := pairNat hi lo, onTimeout := o }
  | _, _, _ => none

/-- Decode an ACTION record (R176): a clear presence flag makes its field absent and its bytes ignored. `none` is a
failure of decoding. -/
def decodeAction (presence heat target ramp band steam fan durHi durLo basis core pCode pPlace pDoor pOn pHi pLo
    : Byte) : Option Action :=
  if presence.getLsbD 6 || presence.getLsbD 7 then none
  else
    match heatOf? heat, fanOf? fan with
    | some h, some f =>
      let b : Option (Option TimeBasis) :=
        if presence.getLsbD 3 then (basisOf? basis).map some else some none
      let p : Option (Option PromptSub) :=
        if presence.getLsbD 5 then (decodePrompt pCode pPlace pDoor pOn pHi pLo).map some else some none
      match b, p with
      | some b, some p =>
        some
          { heat := h
            target := if presence.getLsbD 0 then some target.toNat else none
            ramp := ramp.toNat
            band := if presence.getLsbD 1 then some band.toNat else none
            steam := steam.toNat
            fan := f
            duration := if presence.getLsbD 2 then some (pairNat durHi durLo) else none
            basis := b
            core := if presence.getLsbD 4 then some core.toNat else none
            prompt := p }
      | _, _ => none
    | _, _ => none

/-- Decode the 18 bytes of a step record (R175, R176); `none` is a failure of decoding, answered RANGE. -/
def decodeRecord : List Byte → Option Record
  | [kind, b1, b2, b3, b4, b5, b6, b7, b8, b9, b10, b11, b12, b13, b14, b15, b16, b17] =>
    let rest := [b3, b4, b5, b6, b7, b8, b9, b10, b11, b12, b13, b14, b15, b16, b17]
    if kind = 0 then
      (decodeAction b1 b2 b3 b4 b5 b6 b7 b8 b9 b10 b11 b12 b13 b14 b15 b16 b17).map .action
    else if kind = 1 then
      if (b1 :: b2 :: rest).all (· = 0) then some .mark else none
    else if kind = 2 then
      if (b1 :: rest).all (· = 0) then some (.rep b2.toNat) else none
    else none
  | _ => none

/-- The presence byte of an ACTION record (R175). -/
def presenceByte (a : Action) : Byte :=
  toByte ((if a.target.isSome then 1 else 0) + (if a.band.isSome then 2 else 0)
    + (if a.duration.isSome then 4 else 0) + (if a.basis.isSome then 8 else 0)
    + (if a.core.isSome then 16 else 0) + (if a.prompt.isSome then 32 else 0))

/-- Bytes 12 to 17 of a record: 0 in every byte of an absent prompt (R176). -/
def promptBytes : Option PromptSub → List Byte
  | none => [0, 0, 0, 0, 0, 0]
  | some p =>
    [toByte p.code, toByte (placementCode p.placement), yesByte p.doorAck, toByte (onTimeoutCode p.onTimeout),
      highByte p.timeout, toByte p.timeout]

/-- A record as the part sends it in READ_PROGRAM and READ_RUN: 0 in every byte of an absent field and in every
unused byte (R176). -/
def encodeRecord : Record → List Byte
  | .action a =>
    [0, presenceByte a, toByte (heatCode a.heat), toByte (a.target.getD 0), toByte a.ramp, toByte (a.band.getD 0),
      toByte a.steam, toByte (fanCode a.fan), highByte (a.duration.getD 0), toByte (a.duration.getD 0),
      toByte ((a.basis.map basisCode).getD 0), toByte (a.core.getD 0)] ++ promptBytes a.prompt
  | .mark => [1, 0, 0, 0, 0, 0, 0, 0, 0, 0, 0, 0, 0, 0, 0, 0, 0, 0]
  | .rep n => [2, 0, toByte n, 0, 0, 0, 0, 0, 0, 0, 0, 0, 0, 0, 0, 0, 0, 0]

/-! ## The checks of R4 -/

/-- An optional field is absent or in its range. -/
def optIn (lo hi : Nat) (x : Option Nat) : Bool :=
  match x with
  | none => true
  | some n => decide (lo ≤ n ∧ n ≤ hi)

/-- A steam level: 0, 10, … 100 (R1). -/
def steamOk (n : Nat) : Bool := decide (n % 10 = 0 ∧ n ≤ 100)

/-- The numeric ranges of a prompt sub-record (R2). -/
def promptOk (p : PromptSub) : Bool := decide (1 ≤ p.code ∧ p.code ≤ 199 ∧ p.timeout ≤ 3600)

/-- The checks of R4 on an ACTION record. -/
def actionOk (a : Action) : Bool :=
  optIn 30 250 a.target && decide (a.ramp ≤ 20) && optIn 1 20 a.band && steamOk a.steam
    && optIn 1 65535 a.duration && optIn 30 99 a.core
    && (match a.prompt with | none => true | some p => promptOk p)
    && (if a.heat = .noHeat
        then a.target.isNone && a.band.isNone && decide (a.ramp = 0) && decide (a.basis ≠ some .fromTarget)
        else a.target.isSome)
    && (a.basis.isNone || a.duration.isSome)
    && (match a.prompt with
        | some p => decide (p.placement ≠ .after) || a.duration.isSome || a.core.isSome
        | none => true)

/-- The checks of R4. -/
def recordOk : Record → Bool
  | .action a => actionOk a
  | .mark => true
  | .rep n => decide (1 ≤ n ∧ n ≤ 15)

/-- Decode a received record and check it (R176, then R4). -/
def acceptRecord (bytes : List Byte) : Option Record :=
  match decodeRecord bytes with
  | some r => if recordOk r then some r else none
  | none => none

/-! ## Settings (R194) -/

/-- The settings of R194. -/
inductive SettingId
  | budget | rating (l : Load) | chain | fence | waterSource | hardness | scaleWarn | scaleLock | flowCal | propBand
  | holdBias (c : Cavity) | approachBand | doorTimeout | feedTimeout | idleDrain | readyTemp | soakTemp | soakTime
  | rinseCount | holdTimeout
  deriving DecidableEq, Repr

/-- The setting an identifier byte names (R194). The ratings stand in the order GEN_HEAT to B_BOTTOM. -/
def settingOf? (b : Byte) : Option SettingId :=
  if b = 0x01 then some .budget
  else if b = 0x02 then some (.rating .genHeat)
  else if b = 0x03 then some (.rating .aRing)
  else if b = 0x04 then some (.rating .bRing)
  else if b = 0x05 then some (.rating .aTop)
  else if b = 0x06 then some (.rating .bTop)
  else if b = 0x07 then some (.rating .aBottom)
  else if b = 0x08 then some (.rating .bBottom)
  else if b = 0x09 then some .chain
  else if b = 0x0A then some .fence
  else if b = 0x0B then some .waterSource
  else if b = 0x0C then some .hardness
  else if b = 0x0D then some .scaleWarn
  else if b = 0x0E then some .scaleLock
  else if b = 0x0F then some .flowCal
  else if b = 0x10 then some .propBand
  else if b = 0x11 then some (.holdBias .A)
  else if b = 0x12 then some (.holdBias .B)
  else if b = 0x13 then some .approachBand
  else if b = 0x14 then some .doorTimeout
  else if b = 0x15 then some .feedTimeout
  else if b = 0x16 then some .idleDrain
  else if b = 0x17 then some .readyTemp
  else if b = 0x18 then some .soakTemp
  else if b = 0x19 then some .soakTime
  else if b = 0x1A then some .rinseCount
  else if b = 0x1B then some .holdTimeout
  else none

/-- Settings that only SERVICE may change (R194). -/
def serviceOnly : SettingId → Bool
  | .waterSource | .hardness | .doorTimeout | .feedTimeout => false
  | .budget | .rating _ | .chain | .fence | .scaleWarn | .scaleLock | .flowCal | .propBand | .holdBias _
  | .approachBand | .idleDrain | .readyTemp | .soakTemp | .soakTime | .rinseCount | .holdTimeout => true

/-- The range of R194, SCALE_LOCK's low end following SCALE_WARN; CHAIN_ORDER has none. -/
def settingRange (v : Settings) : SettingId → Option (Nat × Nat)
  | .budget => some (2000, 7400)
  | .rating _ => some (0, 3500)
  | .chain => none
  | .fence => some (0, 40)
  | .waterSource => some (0, 1)
  | .hardness => some (0, 7)
  | .scaleWarn => some (1000, 60000)
  | .scaleLock => some (v.scaleWarn + 1000, 65000)
  | .flowCal => some (50, 500)
  | .propBand => some (2, 50)
  | .holdBias _ => some (0, 50)
  | .approachBand => some (1, 20)
  | .doorTimeout => some (60, 1800)
  | .feedTimeout => some (30, 1800)
  | .idleDrain => some (60, 3600)
  | .readyTemp => some (90, 100)
  | .soakTemp => some (50, 80)
  | .soakTime => some (300, 3600)
  | .rinseCount => some (1, 3)
  | .holdTimeout => some (10, 120)

/-- WATER_SOURCE as a number: TANK, PLUMBED (R194). -/
def sourceCode : WaterSource → Nat
  | .tank => 0 | .plumbed => 1

/-- The value in force of a setting. -/
def settingValue (v : Settings) : SettingId → SettingValue
  | .budget => .num v.budget
  | .rating l => .num (v.rating.get l)
  | .chain => .chain v.chain
  | .fence => .num v.fence
  | .waterSource => .num (sourceCode v.waterSource)
  | .hardness => .num v.hardness
  | .scaleWarn => .num v.scaleWarn
  | .scaleLock => .num v.scaleLock
  | .flowCal => .num v.flowCal
  | .propBand => .num v.propBand
  | .holdBias c => .num (v.holdBias.get c)
  | .approachBand => .num v.approachBand
  | .doorTimeout => .num v.doorTimeout
  | .feedTimeout => .num v.feedTimeout
  | .idleDrain => .num v.idleDrain
  | .readyTemp => .num v.readyTemp
  | .soakTemp => .num v.soakTemp
  | .soakTime => .num v.soakTime
  | .rinseCount => .num v.rinseCount
  | .holdTimeout => .num v.holdTimeout

/-- Replace the value in force of a setting that takes a number. -/
def setNumber (v : Settings) (id : SettingId) (n : Nat) : Settings :=
  match id with
  | .budget => { v with budget := n }
  | .rating l => { v with rating := v.rating.set l n }
  | .chain => v
  | .fence => { v with fence := n }
  | .waterSource => { v with waterSource := if n = 0 then .tank else .plumbed }
  | .hardness => { v with hardness := n }
  | .scaleWarn => { v with scaleWarn := n }
  | .scaleLock => { v with scaleLock := n }
  | .flowCal => { v with flowCal := n }
  | .propBand => { v with propBand := n }
  | .holdBias c => { v with holdBias := v.holdBias.set c n }
  | .approachBand => { v with approachBand := n }
  | .doorTimeout => { v with doorTimeout := n }
  | .feedTimeout => { v with feedTimeout := n }
  | .idleDrain => { v with idleDrain := n }
  | .readyTemp => { v with readyTemp := n }
  | .soakTemp => { v with soakTemp := n }
  | .soakTime => { v with soakTime := n }
  | .rinseCount => { v with rinseCount := n }
  | .holdTimeout => { v with holdTimeout := n }

/-- Every load. -/
def allLoads : List Load := [.genHeat, .aRing, .bRing, .aTop, .bTop, .aBottom, .bBottom]

/-- A list names each of the seven loads exactly once (R87). -/
def chainOk (l : List Load) : Bool := decide (l.length = 7) && allLoads.all (fun x => l.contains x)

/-- The load a chain lists at each of its bytes; `none` for an unknown load name (R87). -/
def chainOf? : List Byte → Option (List Load)
  | [] => some []
  | b :: bs =>
    match loadOf? b, chainOf? bs with
    | some l, some ls => some (l :: ls)
    | _, _ => none

/-- Every rating is at most the budget limit (R74, R85). -/
def ratingsWithin (v : Settings) : Bool := allLoads.all (fun l => decide (v.rating.get l ≤ v.budget))

/-- The settings that R194 gives a numeric range. -/
def numberSettings : List SettingId :=
  [.budget, .rating .genHeat, .rating .aRing, .rating .bRing, .rating .aTop, .rating .bTop, .rating .aBottom,
    .rating .bBottom, .fence, .waterSource, .hardness, .scaleWarn, .scaleLock, .flowCal, .propBand, .holdBias .A,
    .holdBias .B, .approachBand, .doorTimeout, .feedTimeout, .idleDrain, .readyTemp, .soakTemp, .soakTime,
    .rinseCount, .holdTimeout]

/-- A number lies in the range of a setting (R194). -/
def inSettingRange (v : Settings) (id : SettingId) (n : Nat) : Bool :=
  match settingRange v id with
  | some (lo, hi) => decide (lo ≤ n ∧ n ≤ hi)
  | none => false

/-- Every value of a settings record lies in its range, CHAIN_ORDER names each load once, no rating exceeds
BUDGET_LIMIT and SCALE_LOCK is at least SCALE_WARN + 1000 (R199). -/
def settingsValid (v : Settings) : Bool :=
  numberSettings.all (fun id =>
    match settingValue v id with
    | .num n => inSettingRange v id n
    | .chain _ => false)
  && chainOk v.chain && ratingsWithin v

/-- A value may replace the one in force (R85 to R87, R124, R194, R195): its own range, and for the tied settings
the current value of the other. -/
def settingAccepts (v : Settings) (id : SettingId) (n : Nat) : Bool :=
  match id with
  | .budget => inSettingRange v id n && allLoads.all (fun l => decide (v.rating.get l ≤ n))
  | .rating _ => inSettingRange v id n && decide (n ≤ v.budget)
  | .scaleWarn => inSettingRange v id n && decide (n + 1000 ≤ v.scaleLock)
  | .scaleLock => inSettingRange v id n
  | .chain => false
  | .fence | .waterSource | .hardness | .flowCal | .propBand | .holdBias _ | .approachBand | .doorTimeout
  | .feedTimeout | .idleDrain | .readyTemp | .soakTemp | .soakTime | .rinseCount | .holdTimeout =>
    inSettingRange v id n

end Sys2Proof.Machine
end

