-- ==== Sys2Proof/Machine/Flags.lean ====
section
/-! DEFINITION. What is computed from the state and not stored (assumption 30): the arbiter's sums, use counts and
projected content, the owner, the steam demand, the conditions other rules test, and every output pin. -/

namespace Sys2Proof.Machine

/-! ## Seconds of a count in tenths -/

/-- The seconds of a count that grows: whole seconds counted (assumption 34). -/
def wholeSeconds (tenths : Nat) : Nat := tenths / Config.second

/-- The seconds of a count that falls: those not yet wholly counted (assumption 34). -/
def secondsLeft (tenths : Nat) : Nat := (tenths + (Config.second - 1)) / Config.second

/-! ## Loads of a cavity -/

/-- The top, bottom and ring loads of a cavity (R61). -/
def topOf : Cavity → Load
  | .A => .aTop | .B => .bTop
/-- The bottom load of a cavity. -/
def bottomOf : Cavity → Load
  | .A => .aBottom | .B => .bBottom
/-- The ring load of a cavity. -/
def ringOf : Cavity → Load
  | .A => .aRing | .B => .bRing

/-- The cavity of a load that may be a member of an alternate pair, and whether it is the top one (R66). -/
def pairSeat : Load → Option (Cavity × Bool)
  | .aTop => some (.A, true) | .aBottom => some (.A, false)
  | .bTop => some (.B, true) | .bBottom => some (.B, false)
  | .genHeat | .aRing | .bRing => none

/-- The cavity and core sensors of a cavity (R161). -/
def cavitySensor : Cavity → Sensor
  | .A => .cavTempA | .B => .cavTempB
/-- The core sensor of a cavity. -/
def coreSensor : Cavity → Sensor
  | .A => .coreA | .B => .coreB

/-- The other cavity. -/
def otherCavity : Cavity → Cavity
  | .A => .B | .B => .A

/-! ## Runs -/

/-- A run takes part in counting: RUNNING or STARVED with neither overlay set (R52, R72). -/
def counting (r : Run) : Bool :=
  (decide (r.state = .running) || decide (r.state = .starved)) && !r.doorSuspended && !r.mainsHeld

/-- A run carries steps: RUNNING, STARVED or PAUSED (R130, R154). -/
def underway (r : Run) : Bool :=
  decide (r.state = .running) || decide (r.state = .starved) || decide (r.state = .paused)

/-- A run that a limit trip or sensor fault aborts (R48), and for which OPEN_RUN answers BUSY (R23). -/
def inProgress (r : Run) : Bool :=
  decide (r.state = .loading) || decide (r.state = .delayed) || underway r

/-- The steam level of the current step, 0 without one. -/
def stepSteam (r : Run) : Nat := (r.current.map (·.action.steam)).getD 0

/-- The load number of the current step, 0 without one (R41). -/
def stepLoad (r : Run) : Nat := (r.current.map (·.load)).getD 0

/-- The closed flag; an IDLE record has none. -/
def isClosed (r : Run) : Bool := (r.opened.map (·.closed)).getD false

/-- The remaining time counts (R30): RUNNING, no overlay, HEATUP or HOLD for FROM_START, HOLD for FROM_TARGET. -/
def stepCounts (r : Run) : Bool :=
  decide (r.state = .running) && !r.doorSuspended && !r.mainsHeld && r.remaining.isSome
    && (decide (r.phase = some .hold)
      || (decide (r.phase = some .heatup)
        && decide ((r.current.bind (·.action.basis)) ≠ some .fromTarget)))

/-- The phase is HEATUP or HOLD (R31, R49). -/
def inHeatOrHold (r : Run) : Bool := decide (r.phase = some .heatup) || decide (r.phase = some .hold)

/-- The steam demand of a cavity (section 5.2, R22). -/
def demandOf (r : Run) : Demand :=
  if underway r ∧ 0 < stepSteam r then
    if counting r then .present else .suspended
  else .absent

/-! ## Step queues (R6) -/

/-- Occupied slots: pending and retained. -/
def occupied (q : StepQueue) : Nat := q.pending.length + q.retained.length
/-- Free slots (R6). -/
def freeSlots (q : StepQueue) : Nat := Config.queueSlots - occupied q

/-- A record is an ACTION record. -/
def isAction : Record → Bool
  | .action _ => true
  | .mark | .rep _ => false

/-! ## Power chain (R74, R78) -/

/-- The granted sum: the ratings of the granted loads (R74). -/
def grantedSum (s : State) : Nat :=
  (allLoads.map (fun l => if s.arbiter.get l = .granted then s.settings.rating.get l else 0)).sum

/-- A load fits (R78). -/
def fits (s : State) (l : Load) : Bool := decide (grantedSum s + s.settings.rating.get l ≤ s.settings.budget)

/-- The break load (R74): the waiting load of smallest position, none under mains-low. -/
def breakLoad (s : State) : Option Load :=
  if s.mains.low then none else s.settings.chain.find? (fun l => decide (s.arbiter.get l = .waiting))

/-- The cavity's timers are frozen while its run is door-suspended or PAUSED or its limit latch is set (R64). -/
def freezeCondition (c : Cavity) (s : State) : Bool :=
  (s.runs.get c).doorSuspended || decide ((s.runs.get c).state = .paused) || s.limitLatch.get c

/-! ## Sensors -/

/-- The most recent cavity reading in tenths of °C (R58); a free value where none is held (assumption 26). -/
def cavityReading (c : Cavity) (s : State) : Nat :=
  ((s.sensors.get (cavitySensor c)).reading).getD (Config.freeReading s.freeIndex)

/-- The most recent GEN_TEMP reading in tenths of °C (R69); a free value where none is held (assumption 26). -/
def genReading (s : State) : Nat := (s.sensors.genTemp.reading).getD (Config.freeReading s.freeIndex)

/-- A sensor's fault flag (R161). -/
def sensorFaulted (x : Sensor) (s : State) : Bool := decide ((s.sensors.get x).status = .faulted)

/-- The core probe can be used: present with a core sensor not faulted (R28). -/
def probeUsable (c : Cavity) (s : State) : Bool := s.probePresent.get c && !sensorFaulted (coreSensor c) s

/-! ## Steam generator -/

/-- The owner: DESCALER exactly in DESCALE (R91). -/
def genOwner (s : State) : GenOwner := if s.gen.state = .descale then .descaler else .steam

/-- A cavity's demand is present or suspended. -/
def wantsSteam (c : Cavity) (s : State) : Bool := decide ((s.gen.demand.get c).status ≠ .absent)

/-- Some demand is present or suspended. -/
def anyDemand (s : State) : Bool := wantsSteam .A s || wantsSteam .B s

/-- Some demand is present (R95). -/
def anyPresent (s : State) : Bool :=
  decide (s.gen.demand.a.status = .present) || decide (s.gen.demand.b.status = .present)

/-- The refusal in force at the generator, if any (R96). -/
def denialReason (s : State) : Option DenialReason :=
  match s.gen.state with
  | .empty | .draining => if s.scale.lock then some .lock else none
  | .descale => some .descale
  | .rinseOwed => some .rinseOwed
  | .fault => some .genFault
  | .filling | .heating | .ready | .delivering | .waterWait => none

/-- A drain is running (R107): DRAINING, or DESCALE with a drain ordered. -/
def drainRunning (s : State) : Bool :=
  decide (s.gen.state = .draining) || (decide (s.gen.state = .descale) && s.gen.afterDrain.isSome)

/-- A fill is running, its watchdog with it (R98): FILLING, or DESCALE with a fill. -/
def fillRunning (s : State) : Bool :=
  (decide (s.gen.state = .filling) || decide (s.gen.state = .descale)) && s.gen.fill.isSome

/-- The volume of a number of pulses in ml (R116). -/
def pulseVolume (flowCal pulses : Nat) : Nat := pulses * 100 / flowCal

/-- The volume counted so far in the meter's open fill (R116). -/
def openVolume (s : State) : Option Nat := s.meter.fill.map (fun f => pulseVolume s.settings.flowCal f.pulses)

/-- The flow rate in ml/min (R117). -/
def flowRate (s : State) : Nat :=
  match s.meter.fill.bind (·.period) with
  | some t => 6000000 / (s.settings.flowCal * t)
  | none => 0

/-! ## Store -/

/-- The installed content of a slot (R144). -/
def installed (slot : Nat) (s : State) : Option Program := (s.store.slots[slot]?).bind id

/-- A port write (R152). -/
def isPortWrite : WriteEntry → Bool
  | .commit _ _ _ | .erase _ _ | .settings _ _ => true
  | .scale _ | .procedure _ => false

/-- The accepted and not completed writes, oldest first. -/
def accepted (s : State) : List WriteEntry := s.store.inFlight.toList ++ s.store.waiting

/-- The number of port writes accepted and not completed (R152). -/
def portWriteCount (s : State) : Nat := ((accepted s).filter isPortWrite).length

/-- What a write does to a slot's content: `none` when it is not a write of that slot. -/
def writeOf (slot : Nat) : WriteEntry → Option (Option Program)
  | .commit n prog _ => if n = slot then some (some prog) else none
  | .erase n _ => if n = slot then some none else none
  | .settings _ _ | .scale _ | .procedure _ => none

/-- The projected content of a slot (R144): that of the latest accepted write for it, else the installed one. -/
def projected (slot : Nat) (s : State) : Option Program :=
  (((accepted s).reverse.findSome? (writeOf slot))).getD (installed slot s)

/-- A write for the slot is accepted and not completed (R151). -/
def writePending (slot : Nat) (s : State) : Bool := (accepted s).any (fun e => (writeOf slot e).isSome)

/-- Number of records of a slot's content. -/
def recordCount (x : Option Program) : Nat := (x.map (·.records.length)).getD 0

/-- The pool use (R144). -/
def poolUse (s : State) : Nat := ((List.range Config.programSlots).map (fun n => recordCount (installed n s))).sum

/-- The projected pool use (R144). -/
def projectedUse (s : State) : Nat :=
  ((List.range Config.programSlots).map (fun n => recordCount (projected n s))).sum

/-- The slot a cavity's reader holds (R146). -/
def heldSlot (r : Run) : Option Nat :=
  match r.reader, r.opened with
  | some _, some o => (match o.source with | .program n => some n | .stream _ => none)
  | _, _ => none

/-- The use count of a slot (R146): the readers that hold it. -/
def useCount (slot : Nat) (s : State) : Nat :=
  (if heldSlot s.runs.a = some slot then 1 else 0) + (if heldSlot s.runs.b = some slot then 1 else 0)

/-- A slot is protected (R145). -/
def isProtected (slot : Nat) (s : State) : Bool := decide (slot < s.settings.fence)

/-- The valid stored settings, if any (R199). -/
def validStored (s : State) : Option Settings :=
  match s.store.settings with
  | some r => if r.intact && settingsValid r.value then some r.value else none
  | none => none

/-- A scale save is waiting or in flight (R120). -/
def scaleSaveBusy (s : State) : Bool :=
  (accepted s).any (fun e => match e with
    | .scale _ => true
    | .commit _ _ _ | .erase _ _ | .settings _ _ | .procedure _ => false)

/-- A procedure save is waiting or in flight (R129). -/
def procSaveBusy (s : State) : Bool :=
  (accepted s).any (fun e => match e with
    | .procedure _ => true
    | .commit _ _ _ | .erase _ _ | .settings _ _ | .scale _ => false)

/-! ## Prompts (R154) -/

/-- REFILL_TANK, ADD_DESCALER and RINSE_WATER are acknowledged by the tank. -/
def tankAck (p : Prompt) : Bool := decide (240 ≤ p.code ∧ p.code ≤ 242)
/-- INSERT_PROBE is acknowledged by the probe. -/
def probeAck (p : Prompt) : Bool := decide (p.code = 243)

/-! ## Ports -/

/-- The port's pending order's reply is on its transmit line: the port holds a pending order (R177). -/
def orderPending (r : PortRecord) : Bool := r.replies.any (fun o => decide (o.kind = .order))

/-- The port owes a BUSY reply that has not begun to leave (R177): one that is not the first on the line. -/
def busyOwed (r : PortRecord) : Bool := r.replies.tail.any (fun o => decide (o.kind = .busy))

/-! ## Output pins -/

/-- A load's output (R88, R198). -/
def loadOutput (l : Load) (s : State) : Bool :=
  !s.resetHeld && decide (s.arbiter.get l = .granted) && decide ((s.timers.get l).interval = .onInterval)
    && !(s.timers.get l).frozen

/-- TANK_PUMP (R93). -/
def tankPump (s : State) : Bool :=
  !s.resetHeld && fillRunning s && decide ((s.gen.fill.map (·.source)) = some .tank)

/-- INLET_VALVE (R93). -/
def inletValve (s : State) : Bool :=
  !s.resetHeld && fillRunning s && decide ((s.gen.fill.map (·.source)) = some .plumbed)

/-- DRAIN_PUMP (R93). -/
def drainPump (s : State) : Bool := !s.resetHeld && drainRunning s

/-- STEAM_VALVE_A and STEAM_VALVE_B (R93). -/
def steamValve (c : Cavity) (s : State) : Bool :=
  !s.resetHeld && decide (s.gen.state = .delivering) && decide (s.gen.serving = some c)

/-- The fan of a cavity runs, and its level (R72). -/
def fanLevel (c : Cavity) (s : State) : FanLevel :=
  if !s.resetHeld && counting (s.runs.get c) && !s.doorOpen.get c then
    (((s.runs.get c).current).map (·.action.fan)).getD .off
  else .off

/-- FAN_x_LOW (R72). -/
def fanLow (c : Cavity) (s : State) : Bool := decide (fanLevel c s = .low)
/-- FAN_x_HIGH (R72). -/
def fanHigh (c : Cavity) (s : State) : Bool := decide (fanLevel c s = .high)

/-- A port's ATTN line is asserted (R190), released while RESET is held (R198). -/
def attn (p : Port) (s : State) : Bool := !s.resetHeld && !(s.attention.get p).causes.isEmpty

end Sys2Proof.Machine
end

