-- ==== Sys2Proof/Machine/Ops.lean ====
section
/-! DEFINITION. Operations shared by every block: taking an event, changing one member of a family, posting causes
(R189, R193), the prompt table's raising and removing (R155, R159), replies and the taking of an order (R177, R178),
and handing writes to the store queue (R152). -/

namespace Sys2Proof.Machine

/-- Take an event: its effect, or nothing while RESET is held (R198; assumption 23). -/
def event (f : State → State) (s : State) : Host.Outcome State Fault Refusal :=
  if s.resetHeld then .next s else .next (f s)

/-! ## Changing one member -/

/-- Change a cavity's run record. -/
def modRun (c : Cavity) (f : Run → Run) (s : State) : State := { s with runs := s.runs.set c (f (s.runs.get c)) }
/-- Change a cavity's step queue. -/
def modQueue (c : Cavity) (f : StepQueue → StepQueue) (s : State) : State :=
  { s with queues := s.queues.set c (f (s.queues.get c)) }
/-- Change a cavity's climate loop. -/
def modClimate (c : Cavity) (f : Climate → Climate) (s : State) : State :=
  { s with climates := s.climates.set c (f (s.climates.get c)) }
/-- Change a cavity's alternate pair. -/
def modPair (c : Cavity) (f : Pair → Pair) (s : State) : State := { s with pairs := s.pairs.set c (f (s.pairs.get c)) }
/-- Change a load's drive timer. -/
def modTimer (l : Load) (f : Timer → Timer) (s : State) : State :=
  { s with timers := s.timers.set l (f (s.timers.get l)) }
/-- Set a load's arbiter status. -/
def setStatus (l : Load) (x : LoadStatus) (s : State) : State := { s with arbiter := s.arbiter.set l x }
/-- Change the generator record. -/
def modGen (f : Gen → Gen) (s : State) : State := { s with gen := f s.gen }
/-- Change the procedure record. -/
def modProc (f : Procedure → Procedure) (s : State) : State := { s with proc := f s.proc }
/-- Change the scale account. -/
def modScale (f : Scale → Scale) (s : State) : State := { s with scale := f s.scale }
/-- Change the store. -/
def modStore (f : Store → Store) (s : State) : State := { s with store := f s.store }
/-- Change a sensor record. -/
def modSensor (x : Sensor) (f : SensorRecord → SensorRecord) (s : State) : State :=
  { s with sensors := s.sensors.set x (f (s.sensors.get x)) }
/-- Change a port. -/
def modPort (p : Port) (f : PortRecord → PortRecord) (s : State) : State :=
  { s with ports := s.ports.set p (f (s.ports.get p)) }
/-- Set a hold object. -/
def setHold (h : HoldObject) (x : Option Hold) (s : State) : State := { s with holds := s.holds.set h x }
/-- Set a prompt entry. -/
def setPrompt (o : Owner) (x : Option Prompt) (s : State) : State := { s with prompts := s.prompts.set o x }

/-! ## Causes (R189, R193) -/

/-- The causes of R193 with what their details carry. -/
inductive Cause
  | mainsLow
  | limitTrip (c : Cavity)
  | genFault (kind : FaultKind) (left : GenState)
  | sensorFault (x : Sensor) (cleared : Bool) (reading : Nat)
  | runAborted (c : Cavity) (reason : AbortReason) (load : Nat)
  | promptRaised (o : Owner) (code id timeout : Nat) (placement : Placement)
  | promptCleared (o : Owner) (code id : Nat) (reason : ClearReason)
  | runPaused (c : Cavity) (reason : PauseReason) (load : Nat)
  | feedStarved (c : Cavity) (feeder : Port) (load : Nat)
  | refill (c : Cavity) (pending : Nat)
  | markLost (c : Cavity) (freed : Nat)
  | loopError (c : Cavity) (load : Nat)
  | steamDenied (c : Cavity) (reason : DenialReason) (load : Nat)
  | scaleLock (reason : ScaleReason) (points threshold : Nat)
  | scaleWarn (reason : ScaleReason) (points threshold : Nat)
  | heatSlow (account reading : Nat)
  | descalePhase (kind : ProcKind) (phase : ProcPhase) (rinse : Half) (outcome : Option Outcome)
  | descaleDone (volume rinses : Nat)
  | descaleAborted (kind : ProcKind) (reason : ProcAbort) (phase : ProcPhase)
  | runFinished (c : Cavity) (source : Source)
  | stepStarted (c : Cavity) (load : Nat)
  | targetReached (c : Cavity) (load reading : Nat)
  | watchTrip (c : Cavity) (slot : Nat) (source : WatchSource) (reading : Nat) (action : WatchAction)
  | probeChange (c : Cavity) (present : Bool)
  | doorChange (c : Cavity) (isOpen : Bool)
  | holdLost (h : HoldObject)
  | storeDone (slot kind : Nat) (failed : Option Nat)
  | genState (owner : GenOwner) (new : GenState) (left : Half) (kind : Option FaultKind)
  | mainsBack
  | feedMoved (c : Cavity) (port : Port)
  | started (reason : Nat)
  deriving DecidableEq, Repr

/-- A cause set entry with count 1. -/
def detail (code subject reason : Nat) (value1 value2 : Half) : CauseEntry :=
  { code := code, count := 1, subject := toByte subject, reason := toByte reason, value1 := value1, value2 := value2 }

/-- The code and detail of a cause (R193). A value 2 that R193 gives under a condition only is 0 outside it
(assumption 46): STORE_DONE with OK, GEN_STATE but for FAULT, DESCALE_PHASE but for IDLE. -/
def causeEntry : Cause → CauseEntry
  | .mainsLow => detail 31 0 0 0 0
  | .limitTrip c => detail 30 (cavityCode c) 0 0 0
  | .genFault k left => detail 29 0 (faultCode k) (toHalf (genStateCode left)) 0
  | .sensorFault x cleared r => detail 28 (sensorCode x) (if cleared then 1 else 0) (toHalf r) 0
  | .runAborted c r load => detail 27 (cavityCode c) (abortCode r) (toHalf load) 0
  | .promptRaised o code id t pl =>
    detail 26 (ownerCode o) code (toHalf id) (toHalf (t + 4096 * placementCode pl))
  | .promptCleared o code id r =>
    detail 25 (ownerCode o) (clearCode r) (toHalf id)
      (toHalf (code + 256 * (match r with
        | .ack p => portCode p
        | .door | .tank | .probe | .timeout | .replaced | .cancelled => 0)))
  | .runPaused c r load => detail 24 (cavityCode c) (pauseCode r) (toHalf load) 0
  | .feedStarved c p load => detail 23 (cavityCode c) (portCode p) (toHalf load) 0
  | .refill c n => detail 22 (cavityCode c) 0 (toHalf n) 0
  | .markLost c n => detail 21 (cavityCode c) 0 (toHalf n) 0
  | .loopError c load => detail 20 (cavityCode c) 0 (toHalf load) 0
  | .steamDenied c r load => detail 19 (cavityCode c) (denialCode r) (toHalf load) 0
  | .scaleLock r n t => detail 18 0 (scaleReasonCode r) (toHalf n) (toHalf t)
  | .scaleWarn r n t => detail 17 0 (scaleReasonCode r) (toHalf n) (toHalf t)
  | .heatSlow a r => detail 16 0 0 (toHalf a) (toHalf r)
  | .descalePhase k ph rinse out =>
    detail 15 (procKindCode k) (procPhaseCode ph) rinse (toHalf (if ph = .idle then outcomeCode out else 0))
  | .descaleDone v n => detail 14 0 0 (toHalf v) (toHalf n)
  | .descaleAborted k r ph => detail 13 (procKindCode k) (procAbortCode r) (toHalf (procPhaseCode ph)) 0
  | .runFinished c src =>
    match src with
    | .stream p => detail 12 (cavityCode c) 0 (toHalf (portCode p)) 0
    | .program n => detail 12 (cavityCode c) 1 (toHalf n) 0
  | .stepStarted c load => detail 11 (cavityCode c) 0 (toHalf load) 0
  | .targetReached c load r => detail 10 (cavityCode c) 0 (toHalf load) (toHalf r)
  | .watchTrip c slot src r a =>
    detail 9 (cavityCode c) (watchActionCode a) (toHalf r) (toHalf (slot + (if src = .core then 16 else 0)))
  | .probeChange c present => detail 8 (cavityCode c) (if present then 0 else 1) 0 0
  | .doorChange c isOpen => detail 7 (cavityCode c) (if isOpen then 0 else 1) 0 0
  | .holdLost h => detail 6 (holdCode h) 0 0 0
  | .storeDone slot kind failed =>
    match failed with
    | none => detail 5 slot 0 (toHalf kind) 0
    | some r => detail 5 slot 1 (toHalf kind) (toHalf r)
  | .genState o new left k =>
    detail 4 (genOwnerCode o) (genStateCode new) left (toHalf (if new = .fault then (k.map faultCode).getD 0 else 0))
  | .mainsBack => detail 3 0 0 0 0
  | .feedMoved c p => detail 2 (cavityCode c) 0 (toHalf (portCode p)) 0
  | .started r => detail 1 0 r 0 0

/-- Add an entry to a cause set or coalesce it there (R189); the set stays in falling order of code. -/
def addCause (e : CauseEntry) : List CauseEntry → List CauseEntry
  | [] => [e]
  | x :: xs =>
    if e.code = x.code then { e with count := min 255 (x.count + 1) } :: xs
    else if x.code < e.code then e :: x :: xs
    else x :: addCause e xs

/-- Offer a cause to an attention record: nothing when its code is masked (R189). -/
def offer (e : CauseEntry) (a : Attention) : Attention :=
  if a.mask.getLsbD e.code then { a with causes := addCause e a.causes } else a

/-- Post an owner cause to one port (R189). -/
def post (p : Port) (x : Cause) (s : State) : State :=
  { s with attention := s.attention.set p (offer (causeEntry x) (s.attention.get p)) }

/-- Broadcast a cause: offered to all three ports (R189). -/
def broadcast (x : Cause) (s : State) : State :=
  { s with
    attention :=
      { panel := offer (causeEntry x) s.attention.panel
        link := offer (causeEntry x) s.attention.link
        service := offer (causeEntry x) s.attention.service } }

/-- Draw a free 16-bit value (assumptions 8, 9). -/
def drawFree (s : State) : State × Half :=
  ({ s with freeIndex := s.freeIndex + 1 }, Config.freeHalf s.freeIndex)

/-! ## Prompt table (R155, R159) -/

/-- Remove an owner's entry with a reason and broadcast PROMPT_CLEARED (R159); nothing when there is none. -/
def removePrompt (o : Owner) (reason : ClearReason) (s : State) : State :=
  match s.prompts.get o with
  | some e => broadcast (.promptCleared o e.code e.id reason) (setPrompt o none s)
  | none => s

/-- An owner clears its own entry (R159). -/
def cancelPrompt (o : Owner) (s : State) : State := removePrompt o .cancelled s

/-- The prompt id after another, from 65535 to 1 (R155). -/
def nextPromptId (n : Nat) : Nat := if 65535 ≤ n then 1 else n + 1

/-- An entry in the table holds the id. -/
def idInUse (n : Nat) (s : State) : Bool :=
  decide (s.prompts.cavityA.map (·.id) = some n) || decide (s.prompts.cavityB.map (·.id) = some n)
    || decide (s.prompts.generator.map (·.id) = some n) || decide (s.prompts.descaler.map (·.id) = some n)

/-- Pass over the ids held by entries in the table, at most `k` of them (R155; assumption 32). -/
def passOver : Nat → Nat → State → Nat
  | 0, n, _ => n
  | k + 1, n, s => if idInUse n s then passOver k (nextPromptId n) s else n

/-- Raise a prompt for an owner (R155): replace its entry, take the counter's value, mark the tank's absence, start
the timeout (seconds, 0 for none), broadcast PROMPT_RAISED. -/
def raisePrompt (o : Owner) (code : Nat) (placement : Placement) (doorAck : Bool) (timeout : Nat)
    (onTimeout : Option OnTimeout) (s : State) : State :=
  let s := removePrompt o .replaced s
  let id := s.promptCounter
  let s := setPrompt o (some
    { id := id, code := code, placement := placement, doorAck := doorAck, doorOpened := false
      tankRemoved := !s.tankPresent
      timeout := if 0 < timeout then some (timeout * Config.second) else none
      onTimeout := onTimeout, timedOut := false }) s
  let s := { s with promptCounter := passOver 4 (nextPromptId id) s }
  broadcast (.promptRaised o code id timeout placement) s

/-- Raise a device prompt: no timeout, not acknowledged by doors (R154, R155). -/
def raiseDevice (o : Owner) (code : Nat) (s : State) : State := raisePrompt o code .device false 0 none s

/-- Raise a recipe prompt from its sub-record (R155). -/
def raiseRecipe (c : Cavity) (p : PromptSub) (s : State) : State :=
  raisePrompt (cavityOwner c) p.code p.placement p.doorAck p.timeout (some p.onTimeout) s

/-- The id of an owner's entry. -/
def promptIdOf (o : Owner) (s : State) : Option Nat := (s.prompts.get o).map (·.id)

/-! ## Store write queue (R152) -/

/-- The head entry begins its write when none is in flight (R152). -/
def beginWrite (s : State) : State :=
  match s.store.inFlight, s.store.waiting with
  | none, e :: es => modStore (fun t => { t with inFlight := some e, waiting := es }) s
  | none, [] => s
  | some _, _ => s

/-- An entry joins the tail, and begins at once when the queue was empty (R152). -/
def enqueue (e : WriteEntry) (s : State) : State :=
  beginWrite (modStore (fun t => { t with waiting := t.waiting ++ [e] }) s)

/-- Two entries are saves of the same internal kind. -/
def sameInternal : WriteEntry → WriteEntry → Bool
  | .scale _, .scale _ => true
  | .procedure _, .procedure _ => true
  | .scale _, .commit _ _ _ | .scale _, .erase _ _ | .scale _, .settings _ _ | .scale _, .procedure _ => false
  | .procedure _, .commit _ _ _ | .procedure _, .erase _ _ | .procedure _, .settings _ _
  | .procedure _, .scale _ => false
  | .commit _ _ _, _ | .erase _ _, _ | .settings _ _, _ => false

/-- Hand over an internal save (R152): it replaces a waiting one of its kind, which keeps its place, or joins the
tail. -/
def handSave (e : WriteEntry) (s : State) : State :=
  if s.store.waiting.any (sameInternal e) then
    modStore (fun t => { t with waiting := t.waiting.map (fun x => if sameInternal e x then e else x) }) s
  else enqueue e s

/-- Queue a save of the scale account (R126). -/
def saveScale (s : State) : State :=
  let s := modScale (fun a => { a with savedPoints := some a.points }) s
  handSave (.scale { points := s.scale.points, carry := s.scale.carry }) s

/-- Hand a save of the procedure record to the store (R129). -/
def saveProcedure (s : State) : State :=
  let s := modProc (fun r => { r with savedPhase := some r.phase }) s
  handSave (.procedure
    { phase := s.proc.phase, kind := s.proc.kind, rinseNumber := s.proc.rinseNumber, rinseOwed := s.proc.rinseOwed }) s

/-! ## Replies and orders (R177, R178) -/

/-- What a block answers to an order: the state after it, the answer and the results. -/
abbrev Act := State → State × Answer × Results

/-- An answer without results that changes nothing. -/
def deny (a : Answer) : Act := fun s => (s, a, .none)

/-- DONE without results after an effect. -/
def doneAfter (f : State → State) : Act := fun s => (f s, .done, .none)

/-- Put a reply on the port's transmit line, after those already made (R175). -/
def pushReply (p : Port) (kind : ReplyKind) (r : Reply) (s : State) : State :=
  modPort p (fun x => { x with replies := x.replies ++ [{ kind := kind, reply := r }] }) s

/-- Take a received frame of a port (R177): BUSY or dropped while an order is pending, else the order is checked and
acted on and its reply made. No frame arrives while the line is held in space (R186; assumption 36). -/
def takeFrame (p : Port) (seq id : Byte) (act : Act) (s : State) : State :=
  let r := s.ports.get p
  if r.inBreak then s
  else if orderPending r then
    if busyOwed r then s
    else pushReply p .busy { seq := seq, id := id, answer := .busy, results := .none } s
  else
    let x := act s
    pushReply p .order { seq := seq, id := id, answer := x.2.1, results := x.2.2 } x.1

/-- Check the hold an order needs and restart its expiry (R178 check 4, R184). -/
def withHold (p : Port) (need : Option HoldObject) (act : Act) : Act := fun s =>
  match need with
  | none => act s
  | some h =>
    match s.holds.get h with
    | some k =>
      if k.holder = p then
        act (setHold h (some { holder := p, expiry := s.settings.holdTimeout * Config.second }) s)
      else deny .notHolder s
    | none => deny .notHolder s

/-- An order without a selector (R178). -/
def order (p : Port) (seq id : Byte) (need : Option HoldObject) (act : Act) (s : State) : State :=
  takeFrame p seq id (withHold p need act) s

/-- What an order that names a cavity does: a byte that names none is answered RANGE (R178 check 2). -/
def cavityAct (p : Port) (cavity : Byte) (need : Cavity → Option HoldObject) (act : Cavity → Act) : Act := fun s =>
  match cavityOf? cavity with
  | none => deny .range s
  | some c => withHold p (need c) (act c) s

/-- An order that names a cavity (R178). -/
def cavityOrder (p : Port) (seq id cavity : Byte) (need : Cavity → Option HoldObject) (act : Cavity → Act)
    (s : State) : State :=
  takeFrame p seq id (cavityAct p cavity need act) s

/-- Parameters that do not have the byte count of the order's form are answered RANGE (R178 check 2). -/
def counted (ok : Bool) (act : Act) : Act := fun s => if ok then act s else deny .range s

/-- No hold is needed. -/
def noHold : Cavity → Option HoldObject := fun _ => none
/-- The cavity's EDIT hold is needed (R178). -/
def needEdit : Cavity → Option HoldObject := fun c => some (editHold c)

end Sys2Proof.Machine
end

