-- ==== Sys2Proof/Machine/PowerChain.lean ====
section
/-! DEFINITION. The power chain arbiter (chapter 4): requests, releases and cancels, the grant decision, the
withdrawals under mains-low and on a budget cut. -/

namespace Sys2Proof.Machine

/-- Grant a load: its rating joins the granted sum and its timer enters ON_INTERVAL with its remaining (R78, R79). -/
def grant (l : Load) (s : State) : State :=
  modTimer l (fun t => { t with interval := .onInterval }) (setStatus l .granted s)

/-- The walk of a grant decision down the chain: it stops at the first waiting load that does not fit (R78). -/
def grantWalk : List Load → State → State
  | [], s => s
  | l :: ls, s =>
    if s.arbiter.get l = .waiting then
      if fits s l then grantWalk ls (grant l s) else s
    else grantWalk ls s

/-- A grant decision (R78); none is made while mains-low is present (R82). -/
def grantDecision (s : State) : State :=
  if s.mains.low then s else grantWalk s.settings.chain s

/-- A request (R75): the load joins the waiting set and a decision is made. -/
def request (l : Load) (s : State) : State := grantDecision (setStatus l .waiting s)

/-- A release or a cancel (R76, R77): the load leaves its set and a decision is made; nothing for a load in neither
set. -/
def leave (l : Load) (s : State) : State :=
  if s.arbiter.get l = .none then s else grantDecision (setStatus l .none s)

/-- Withdraw a grant (R82, R84): the load waits and its timer enters WAITING with its remaining kept (R62). -/
def withdraw (l : Load) (s : State) : State :=
  modTimer l (fun t => { t with interval := .waiting }) (setStatus l .waiting s)

/-- Withdraw every grant among some loads. -/
def withdrawAll : List Load → State → State
  | [], s => s
  | l :: ls, s => withdrawAll ls (if s.arbiter.get l = .granted then withdraw l s else s)

/-- The budget cut of R84, from the bottom of the chain: `ls` lists the loads from the greatest position on. -/
def cutWalk : List Load → State → State
  | [], s => s
  | l :: ls, s =>
    if grantedSum s ≤ s.settings.budget then s
    else cutWalk ls (if s.arbiter.get l = .granted then withdraw l s else s)

/-- The cut a settings change calls for, and the decision after it (R79, R84 to R87). -/
def cutAndDecide (s : State) : State := grantDecision (cutWalk s.settings.chain.reverse s)

end Sys2Proof.Machine
end

