-- ==== Sys2Proof/Machine/Timers.lean ====
section
/-! DEFINITION. Drive timers and alternate pairs (sections 3.7 and 3.8): beginning intervals, writing holds, stop,
restart, freezing and thawing, and the events of a timer whose interval runs out. -/

namespace Sys2Proof.Machine

/-- Set a timer's interval state and remaining. -/
def setInterval (l : Load) (i : Interval) (remaining : Option Nat) (s : State) : State :=
  modTimer l (fun t => { t with interval := i, remaining := remaining }) s

/-- Begin an ON interval with a hold above 0 (R61): WAITING with the hold remaining, and a request. -/
def startOn (l : Load) (hold : Nat) (s : State) : State := request l (setInterval l .waiting (some hold) s)

/-- Begin an ON interval (R61): skipped at hold 0, IDLE when both holds are 0. -/
def beginOn (l : Load) (s : State) : State :=
  let t := s.timers.get l
  if 0 < t.on then startOn l t.on s
  else if 0 < t.off then setInterval l .offInterval (some t.off) s
  else setInterval l .idle none s

/-- Begin an OFF interval (R61): skipped at hold 0, IDLE when both holds are 0. -/
def beginOff (l : Load) (s : State) : State :=
  let t := s.timers.get l
  if 0 < t.off then setInterval l .offInterval (some t.off) s
  else if 0 < t.on then startOn l t.on s
  else setInterval l .idle none s

/-- Set a timer's holds. -/
def setHolds (l : Load) (on off : Nat) (s : State) : State := modTimer l (fun t => { t with on := on, off := off }) s

/-- Write holds (R61, R62): kept for the next interval; an IDLE timer begins an ON interval if either is above 0; a
frozen one keeps them (R64). -/
def writeHolds (l : Load) (on off : Nat) (s : State) : State :=
  let s := setHolds l on off s
  let t := s.timers.get l
  if t.interval = .idle ∧ t.frozen = false ∧ (0 < on ∨ 0 < off) then beginOn l s else s

/-- Restart (R63): the holds are written and a timer in IDLE or OFF_INTERVAL begins an ON interval at once. -/
def restartTimer (l : Load) (on off : Nat) (s : State) : State :=
  let s := setHolds l on off s
  let t := s.timers.get l
  if t.frozen = false ∧ (t.interval = .idle ∨ t.interval = .offInterval) then beginOn l s else s

/-- Stop (R63): both holds 0, the interval abandoned, the grant released or the request cancelled; a FROZEN timer
stays FROZEN, from IDLE. -/
def stopTimer (l : Load) (s : State) : State := leave l (setInterval l .idle none (setHolds l 0 0 s))

/-! ## Alternate pairs (R66) -/

/-- The turn that begins at a position, skipping turns and OFF intervals whose hold is 0 (R66). -/
def nextTurn (position : PairPosition) (top bottom off : Nat) : PairPosition :=
  match position with
  | .topTurn => if 0 < top then .topTurn else if 0 < bottom then .bottomTurn else .pairOff
  | .bottomTurn => if 0 < bottom then .bottomTurn else if 0 < off then .pairOff else .topTurn
  | .pairOff => if 0 < off then .pairOff else if 0 < top then .topTurn else .bottomTurn

/-- Begin the pair's next interval at a position (R66): both IDLE and no position when every hold is 0. -/
def beginPair (c : Cavity) (position : PairPosition) (s : State) : State :=
  let top := (s.timers.get (topOf c)).on
  let bottom := (s.timers.get (bottomOf c)).on
  let off := (s.pairs.get c).offHold
  if top = 0 ∧ bottom = 0 ∧ off = 0 then
    modPair c (fun x => { x with position := none })
      (setInterval (topOf c) .idle none (setInterval (bottomOf c) .idle none s))
  else
    let turn := nextTurn position top bottom off
    let s := modPair c (fun x => { x with position := some turn }) s
    match turn with
    | .topTurn => startOn (topOf c) top (setInterval (bottomOf c) .offInterval none s)
    | .bottomTurn => startOn (bottomOf c) bottom (setInterval (topOf c) .offInterval none s)
    | .pairOff => setInterval (topOf c) .offInterval (some off) (setInterval (bottomOf c) .offInterval none s)

/-- Begin TOP_TURN in a pair without a position, when a hold is above 0 and the timers are not frozen (R66, R67). -/
def wakePair (c : Cavity) (s : State) : State :=
  if (s.pairs.get c).paired = true ∧ (s.pairs.get c).position = none ∧ (s.timers.get (topOf c)).frozen = false then
    beginPair c .topTurn s
  else s

/-- Write a pair's holds (R60): equal ON holds and the pair OFF hold. The members' own OFF holds, which no rule gives under
ALTERNATE and READ_LOADS reports (R90), are 0 (assumption 47). -/
def writePair (c : Cavity) (on offHold : Nat) (s : State) : State :=
  wakePair c (modPair c (fun x => { x with offHold := offHold })
    (setHolds (topOf c) on 0 (setHolds (bottomOf c) on 0 s)))

/-- Stop the top and bottom timers and clear the pair position (R63, R66). -/
def stopPair (c : Cavity) (s : State) : State :=
  modPair c (fun x => { x with position := none, offHold := 0 }) (stopTimer (bottomOf c) (stopTimer (topOf c) s))

/-- Stop a cavity's three timers at a run end (R63); no step is left to pair them (R67). -/
def stopCavity (c : Cavity) (s : State) : State :=
  modPair c (fun x => { x with paired := false }) (stopTimer (ringOf c) (stopPair c s))

/-- Re-form the top and bottom timers at a step entry that changes to or from ALTERNATE (R67). -/
def reformPair (c : Cavity) (paired : Bool) (s : State) : State :=
  if (s.pairs.get c).paired = paired then s
  else modPair c (fun x => { x with paired := paired }) (stopPair c s)

/-! ## Freezing (R64) -/

/-- Freeze a timer: it keeps its state and remaining, releases its grant or cancels its request. -/
def freezeTimer (l : Load) (s : State) : State :=
  if (s.timers.get l).frozen then s else leave l (modTimer l (fun t => { t with frozen := true }) s)

/-- Thaw a timer (R64): one frozen from WAITING or ON_INTERVAL requests again with its kept remaining, one frozen
from IDLE begins an ON interval if a held hold is above 0; a paired timer's IDLE is left to its pair. -/
def thawTimer (l : Load) (paired : Bool) (s : State) : State :=
  let t := s.timers.get l
  if t.frozen then
    let s := modTimer l (fun t => { t with frozen := false }) s
    match t.interval with
    | .waiting | .onInterval => request l (setInterval l .waiting t.remaining s)
    | .offInterval => s
    | .idle => if paired = false ∧ (0 < t.on ∨ 0 < t.off) then beginOn l s else s
  else s

/-- Freeze a cavity's three timers, one after another in the order TOP, BOTTOM, RING (assumption 17). The grant decision
that follows a release (R76) is made before the next timer freezes, so it may grant a sibling that waits, which then
freezes from ON_INTERVAL (assumption 48). -/
def freezeCavity (c : Cavity) (s : State) : State :=
  freezeTimer (ringOf c) (freezeTimer (bottomOf c) (freezeTimer (topOf c) s))

/-- Thaw a cavity's three timers, in the order TOP, BOTTOM, RING (assumption 17). -/
def thawCavity (c : Cavity) (s : State) : State :=
  let paired := (s.pairs.get c).paired
  let s := thawTimer (bottomOf c) paired (thawTimer (topOf c) paired s)
  thawTimer (ringOf c) false (wakePair c s)

/-- Freeze or thaw a cavity's timers as the condition of R64 now stands. -/
def syncFreeze (c : Cavity) (s : State) : State :=
  if freezeCondition c s then freezeCavity c s
  else if (s.timers.get (topOf c)).frozen || (s.timers.get (bottomOf c)).frozen || (s.timers.get (ringOf c)).frozen
  then thawCavity c s
  else s

/-! ## Interval ends -/

/-- The ON interval of a single timer ends (R62). -/
def endOn (l : Load) (s : State) : State :=
  let t := s.timers.get l
  if 0 < t.off then leave l (setInterval l .offInterval (some t.off) s)
  else if 0 < t.on then setInterval l .onInterval (some t.on) s
  else leave l (setInterval l .idle none s)

/-- The turn of a pair member ends (R66): its grant is released and the pair goes on. -/
def endTurn (c : Cavity) (isTop : Bool) (l : Load) (s : State) : State :=
  let s := leave l (setInterval l .offInterval none s)
  beginPair c (if isTop then .bottomTurn else .pairOff) s

/-- ON_INTERVAL_EXPIRY at a timer in ON_INTERVAL (R62, R66). -/
def onExpiry (l : Load) (s : State) : State :=
  let t := s.timers.get l
  if t.interval = .onInterval ∧ t.frozen = false then
    match pairSeat l with
    | some (c, isTop) => if (s.pairs.get c).paired then endTurn c isTop l s else endOn l s
    | none => endOn l s
  else s

/-- The timer counts a single OFF interval, not a pair's (R61, R66). -/
def singleOff (l : Load) (s : State) : Bool :=
  match pairSeat l with
  | some (c, _) => !(s.pairs.get c).paired
  | none => true

/-- OFF_INTERVAL_EXPIRY at a timer in OFF_INTERVAL (R61): it begins an ON interval. -/
def offExpiry (l : Load) (s : State) : State :=
  let t := s.timers.get l
  if t.interval = .offInterval ∧ t.frozen = false ∧ singleOff l s then beginOn l s else s

/-- PAIR_OFF_EXPIRY (R66): the pair enters TOP_TURN. -/
def pairOffEnd (c : Cavity) (s : State) : State :=
  if (s.pairs.get c).paired = true ∧ (s.pairs.get c).position = some .pairOff ∧ (s.timers.get (topOf c)).frozen = false
  then beginPair c .topTurn s
  else s

/-- OFF_INTERVAL_EXPIRY (R61). -/
def execOffIntervalExpiry (l : Load) (s : State) : Host.Outcome State Fault Refusal := event (offExpiry l) s

/-- ON_INTERVAL_EXPIRY (R62). -/
def execOnIntervalExpiry (l : Load) (s : State) : Host.Outcome State Fault Refusal := event (onExpiry l) s

/-- PAIR_OFF_EXPIRY (R66). -/
def execPairOffExpiry (c : Cavity) (s : State) : Host.Outcome State Fault Refusal := event (pairOffEnd c) s

end Sys2Proof.Machine
end

