-- ==== Sys2Proof/Machine/Climate.lean ====
section
/-! DEFINITION. The climate loops (sections 3.2 to 3.6): the setpoint, the approach test, the heat demand and the
drive holds of a cavity's elements. -/

namespace Sys2Proof.Machine

/-- The percentage of R58: the difference in hundredths over the band, a half rounded toward the larger value, plus
the bias, limited to 0 to 100. The setpoint is in hundredths, the reading in tenths, the band in degrees. -/
def demandPercent (band bias setpoint reading : Nat) : Nat :=
  let diff : Int := (setpoint : Int) - 10 * (reading : Int)
  let percent : Int := (2 * diff + band) / (2 * band) + bias
  min 100 percent.toNat

/-- The heat demand of a cavity (R58). -/
def heatDemand (c : Cavity) (s : State) : Nat :=
  match (s.runs.get c).current, (s.climates.get c).loop with
  | some step, some l =>
    if step.action.heat = .noHeat then 0
    else if l.case = .cooling ∧ l.reached = false then 0
    else
      demandPercent s.settings.propBand (if l.reached then s.settings.holdBias.get c else 0) l.setpoint
        (cavityReading c s)
  | some _, none | none, some _ | none, none => 0

/-- The heat mode drives the top element on its own holds (R59). -/
def usesTop : HeatMode → Bool
  | .topBottom | .top => true
  | .noHeat | .ring | .alternate | .bottom | .ringBottom => false

/-- The heat mode drives the bottom element on its own holds (R59). -/
def usesBottom : HeatMode → Bool
  | .topBottom | .bottom | .ringBottom => true
  | .noHeat | .ring | .alternate | .top => false

/-- The heat mode drives the ring element (R59). -/
def usesRing : HeatMode → Bool
  | .ring | .ringBottom => true
  | .noHeat | .topBottom | .alternate | .top | .bottom => false

/-- Write one element's holds at demand `d`: 2D and 200 less 2D in use, 0 / 0 out of use (R59). -/
def writeElement (l : Load) (used : Bool) (d : Nat) (s : State) : State :=
  if used then writeHolds l (2 * d) (Config.drivePeriod - 2 * d) s else writeHolds l 0 0 s

/-- Write the holds of a cavity's three elements (R59, R60), in the order TOP, BOTTOM, RING (assumption 17). -/
def writeElements (c : Cavity) (h : HeatMode) (d : Nat) (s : State) : State :=
  let s :=
    if h = .alternate then writePair c (2 * d) (Config.pairPeriod - 4 * d) s
    else writeElement (bottomOf c) (usesBottom h) d (writeElement (topOf c) (usesTop h) d s)
  writeElement (ringOf c) (usesRing h) d s

/-- Compute the heat demand and write the holds (R52, steps 2 and 3); update time returns to 0. -/
def demandComputation (c : Cavity) (s : State) : State :=
  match (s.runs.get c).current with
  | none => s
  | some step =>
    let d := heatDemand c s
    writeElements c step.action.heat d (modClimate c (fun k => { k with demand := d, updateTime := some 0 }) s)

/-- The setpoint's movement toward the target (R54; at the target the remainder is 0, assumption 25). -/
def moveSetpoint (target ramp : Nat) (l : Loop) : Loop :=
  let goal := target * 100
  let sum := ramp * 200 + l.remainder
  if l.setpoint < goal then
    if goal ≤ l.setpoint + sum / 60 then { l with setpoint := goal, remainder := 0 }
    else { l with setpoint := l.setpoint + sum / 60, remainder := sum % 60 }
  else if goal < l.setpoint then
    if l.setpoint ≤ goal + sum / 60 then { l with setpoint := goal, remainder := 0 }
    else { l with setpoint := l.setpoint - sum / 60, remainder := sum % 60 }
  else l

/-- Step 1 of a regulation update (R52): the setpoint moves toward the target. -/
def stepSetpoint (c : Cavity) (s : State) : State :=
  match (s.runs.get c).current with
  | some step =>
    match step.action.target with
    | some t => modClimate c (fun k => { k with loop := k.loop.map (moveSetpoint t step.action.ramp) }) s
    | none => s
  | none => s

/-- A regulation update (R52), at a cavity in counting time with a current step. -/
def regulationUpdate (c : Cavity) (s : State) : State :=
  if counting (s.runs.get c) ∧ (s.runs.get c).current.isSome then demandComputation c (stepSetpoint c s) else s

/-- The setpoint a step sets out from (R53, R55): the target at ramp 0, else the most recent reading. -/
def startSetpoint (a : Action) (target reading : Nat) : Nat := if a.ramp = 0 then target * 100 else reading * 10

/-- The climate loop takes a step's values (R28, R53, R56): the case is UNDECIDED until the approach test. -/
def climateTake (c : Cavity) (a : Action) (s : State) : State :=
  let reading := cavityReading c s
  modClimate c (fun k =>
    { k with
      loop := a.target.map (fun t =>
        { case := .undecided, reached := false, setpoint := startSetpoint a t reading, remainder := 0 }) }) s

/-- The restart after a resumption (R55). -/
def climateRestart (c : Cavity) (s : State) : State :=
  match (s.runs.get c).current with
  | none => modClimate c (fun k => { k with restartOwed := false }) s
  | some step =>
    let reading := cavityReading c s
    demandComputation c (modClimate c (fun k =>
      { k with
        restartOwed := false
        loop :=
          match step.action.target with
          | some t =>
            k.loop.map (fun l => { l with setpoint := startSetpoint step.action t reading, remainder := 0 })
          | none => k.loop }) s)

/-- The restart is made once it is owed and counting time runs (R55). -/
def settleClimate (c : Cavity) (s : State) : State :=
  if (s.climates.get c).restartOwed ∧ counting (s.runs.get c) then climateRestart c s else s

/-- The climate loop at a run end (R51): the watch slots stay. -/
def climateEnd (c : Cavity) (s : State) : State :=
  modClimate c (fun k => { k with loop := none, updateTime := none, demand := 0, restartOwed := false }) s

/-- The approach point is met by a reading (R29, R56). -/
def approachMet (case : Case) (target band reading : Nat) : Bool :=
  match case with
  | .heating => decide ((target - band) * 10 ≤ reading)
  | .cooling => decide (reading ≤ (target + band) * 10)
  | .undecided => false

/-- The case of a target against a reading (R29, R57). -/
def caseOf (target reading : Nat) : Case := if reading < target * 10 then .heating else .cooling

/-- The entry to HOLD by the approach (R29, R56), with TARGET_REACHED. -/
def enterHold (c : Cavity) (case : Case) (reading : Nat) (s : State) : State :=
  let load := stepLoad (s.runs.get c)
  let s := modClimate c (fun k => { k with loop := k.loop.map (fun l => { l with case := case, reached := true }) }) s
  broadcast (.targetReached c load reading) (modRun c (fun r => { r with phase := some .hold }) s)

/-- The approach test at step entry or at the end of ENTRY_PROMPT (R29): it chooses HEATUP or HOLD and decides the
case. -/
def approachTest (c : Cavity) (s : State) : State :=
  match (s.runs.get c).current with
  | none => s
  | some step =>
    match step.action.target with
    | none => modRun c (fun r => { r with phase := some .hold }) s
    | some t =>
      let reading := cavityReading c s
      let case := caseOf t reading
      if approachMet case t step.band reading then enterHold c case reading s
      else
        modRun c (fun r => { r with phase := some .heatup })
          (modClimate c (fun k => { k with loop := k.loop.map (fun l => { l with case := case, reached := false }) }) s)

/-- The approach detection at a cavity sample (R56). -/
def approachSample (c : Cavity) (reading : Nat) (s : State) : State :=
  let r := s.runs.get c
  if r.state = .running ∧ counting r ∧ r.phase = some .heatup then
    match r.current, (s.climates.get c).loop with
    | some step, some l =>
      match step.action.target with
      | some t => if approachMet l.case t step.band reading then enterHold c l.case reading s else s
      | none => s
    | some _, none | none, some _ | none, none => s
  else s

/-- An adjusted target (R43, R55, R57): the setpoint, the case in HEATUP, and a demand computation. -/
def climateAdjust (c : Cavity) (target : Nat) (s : State) : State :=
  let r := s.runs.get c
  let reading := cavityReading c s
  let ramp := (r.current.map (·.action.ramp)).getD 0
  let s := modClimate c (fun k =>
    { k with
      loop := k.loop.map (fun l =>
        { l with
          setpoint := if ramp = 0 then target * 100 else l.setpoint
          remainder := 0
          case := if r.phase = some .heatup then caseOf target reading else l.case }) }) s
  demandComputation c s

/-- REGULATION_UPDATE (R52). -/
def execRegulationUpdate (c : Cavity) (s : State) : Host.Outcome State Fault Refusal := event (regulationUpdate c) s

end Sys2Proof.Machine
end

