-- ==== Sys2Proof/Machine/Generator.lean ====
section
/-! DEFINITION. The water meter, the scale account and the steam generator controller (chapters 5 and 6), but for the
parts that need the descale controller. -/

namespace Sys2Proof.Machine

/-! ## Refusal of steam (R96) -/

/-- Refuse a cavity's demand if a condition of R96 holds: the reason is recorded, and STEAM_DENIED broadcast if the
step had none. -/
def refuse (c : Cavity) (s : State) : State :=
  match denialReason s with
  | none => s
  | some reason =>
    let r := s.runs.get c
    if demandOf r = .absent then s
    else
      let s := modRun c (fun r => { r with denial := some reason }) s
      if r.denial.isSome then s else broadcast (.steamDenied c reason (stepLoad r)) s

/-- Refuse both cavities' demands, A's before B's (assumption 16). -/
def refuseBoth (s : State) : State := refuse .B (refuse .A s)

/-! ## The water meter (R116 to R119) -/

/-- A fill begins (R116): a fill already open is discarded. -/
def meterBegin (src : WaterSource) (purpose : Purpose) (s : State) : State :=
  { s with
    meter := { s.meter with
      fill := some { source := src, purpose := purpose, pulses := 0, period := none, quiet := 0, measuring := false } } }

/-- A fill ends incomplete (R119): its count is discarded. -/
def meterIncomplete (s : State) : State := { s with meter := { s.meter with fill := none } }

/-- A flow pulse at the meter (R116, R117, R119): the gap is the time since the pulse before it, in ms. -/
def meterPulse (gap : Nat) (m : Meter) : Meter :=
  match m.fill with
  | none => { m with stray := min Config.max16 (m.stray + 1) }
  | some f =>
    { m with
      fill := some { f with
        pulses := min Config.max16 (f.pulses + 1)
        period := if f.measuring then some (max 1 (min Config.max16 gap)) else none
        quiet := 0
        measuring := true } }

/-- The meter's quiet time reaches 4 s (R117): the period becomes absent and the next pulse starts afresh. -/
def meterQuiet (m : Meter) : Meter :=
  { m with fill := m.fill.map (fun f => { f with period := none, quiet := 40, measuring := false }) }

/-! ## The scale account (R121 to R125) -/

/-- The threshold test (R122); a lock newly set is handed to the generator, which refuses demands in EMPTY and
DRAINING. -/
def thresholdTest (reason : ScaleReason) (s : State) : State :=
  let s :=
    if s.scale.warn = false ∧ s.settings.scaleWarn ≤ s.scale.points then
      broadcast (.scaleWarn reason s.scale.points s.settings.scaleWarn) (modScale (fun a => { a with warn := true }) s)
    else s
  if s.scale.lock = false ∧ s.settings.scaleLock ≤ s.scale.points then
    let s :=
      broadcast (.scaleLock reason s.scale.points s.settings.scaleLock) (modScale (fun a => { a with lock := true }) s)
    if denialReason s = some .lock then refuseBoth s else s
  else s

/-- Set the points, test the thresholds and queue a save when the points cross a multiple of 256 (R121, R123,
R126). -/
def setPoints (points carry : Nat) (reason : ScaleReason) (s : State) : State :=
  let old := s.scale.points
  let s := thresholdTest reason (modScale (fun a => { a with points := points, carry := carry }) s)
  if points / 256 = old / 256 then s else saveScale s

/-- Accrue a completed steam fill (R121). -/
def accrue (volume : Nat) (s : State) : State :=
  let product := volume * s.settings.hardness + s.scale.carry
  setPoints (min Config.max16 (s.scale.points + product / 100)) (product % 100) .accrual s

/-- A slow-heating report (R123): points below SCALE_WARN are raised to it. -/
def slowReport (s : State) : State :=
  if s.scale.points < s.settings.scaleWarn then setPoints s.settings.scaleWarn s.scale.carry .heatSlow s else s

/-- The zeroing at DONE (R125); the generator is in DESCALE, so the lock's clearing starts no fill here. -/
def zeroScale (s : State) : State :=
  saveScale (modScale (fun a => { a with points := 0, carry := 0, warn := false, lock := false }) s)

/-- A fill is complete at the meter (R118): the fill record, and for STEAM the total and the accrual. -/
def meterComplete (s : State) : State :=
  match s.meter.fill with
  | none => s
  | some f =>
    let volume := min Config.max16 (pulseVolume s.settings.flowCal f.pulses)
    let m := { s.meter with
      fill := none
      latest := some { volume := volume, source := f.source, purpose := f.purpose } }
    if f.purpose = .steam then accrue volume { s with meter := { m with total := min Config.totalMax (m.total + volume) } }
    else { s with meter := m }

/-! ## Generator states -/

/-- The instruction of R68 to the GEN_HEAT timer on entry to a generator state. -/
def heatInstruction (new : GenState) (s : State) : State :=
  match new with
  | .heating | .delivering => restartTimer .genHeat Config.drivePeriod 0 s
  | .ready => writeHolds .genHeat 60 140 s
  | .empty | .filling | .waterWait | .draining | .descale | .rinseOwed | .fault => stopTimer .genHeat s

/-- The fields that a state does not have become absent, and those it starts afresh are started (R91, R101, R103). -/
def genFields (new : GenState) (g : Gen) : Gen :=
  { g with
    state := new
    fill := if new = .filling ∨ new = .waterWait then g.fill else none
    waitPrompt := none
    afterDrain := none
    drainTime := none
    dryTime := none
    heatAccount := if new = .heating then some 0 else none
    slowPosted := false
    windowTime :=
      if new = .ready then (if g.state = .delivering then g.windowTime else some 0)
      else if new = .delivering then g.windowTime else none
    serving := if new = .delivering then g.serving else none
    idleTime := if new = .ready then some 0 else none
    faultKind := none
    faultFrom := none
    soakUpdate := none }

/-- Enter a generator state (R91, R113): its fields, its heater instruction, GEN_STATE, and the refusal of both
demands when the entry brings a condition of R96. `prep` sets the fields the entry gives values to. -/
def enterGen (new : GenState) (prep : Gen → Gen) (s : State) : State :=
  let left := s.gen.state
  let before := denialReason s
  let s := heatInstruction new (modGen (fun g => prep (genFields new g)) s)
  let s := broadcast (.genState (genOwner s) new (toHalf (genStateCode left)) s.gen.faultKind) s
  if denialReason s = before then s else refuseBoth s

/-- A fill in progress is reported to the meter as ended incomplete, and a REFILL_TANK prompt cleared (R97, R99). -/
def abandonFill (s : State) : State :=
  if s.gen.fill.isSome then modGen (fun g => { g with fill := none }) (cancelPrompt .generator (meterIncomplete s)) else s

/-- Enter DRAINING with an after-drain target (R107). -/
def startDrain (after : AfterDrain) (s : State) : State :=
  enterGen .draining (fun g => { g with afterDrain := some after, drainTime := some 0, dryTime := some 0 })
    (abandonFill s)

/-- A fill waiting for water is given up when no demand is present or suspended (R99). -/
def dropWait (s : State) : State :=
  if s.gen.state = .waterWait ∧ anyDemand s = false then startDrain .empty s else s

/-- Enter WATER_WAIT (R99): the fill is kept, the watchdog restarts, REFILL_TANK is raised; a fill whose demand has gone
meanwhile is given up at once. -/
def enterWaterWait (s : State) : State :=
  let s := enterGen .waterWait (fun g => { g with fill := g.fill.map (fun f => { f with watchdog := 0 }) }) s
  let s := raiseDevice .generator 240 s
  dropWait (modGen (fun g => { g with waitPrompt := promptIdOf .generator s }) s)

/-- A steam fill is complete (R97): the meter's record, then HEATING. -/
def completeSteamFill (s : State) : State := enterGen .heating id (cancelPrompt .generator (meterComplete s))

/-- A fill that runs in FILLING waits for water at once when its tank is absent (R98, R99). -/
def waitIfAbsent (s : State) : State :=
  if (s.gen.fill.map (·.source)) = some .tank ∧ s.tankPresent = false then enterWaterWait s else s

/-- Start a steam fill (R95, R97, R98): complete at once with LEVEL_HIGH wet, waiting with the tank absent. -/
def startSteamFill (s : State) : State :=
  let src := s.settings.waterSource
  let s := enterGen .filling (fun g => { g with fill := some { purpose := .steam, source := src, watchdog := 0 } }) s
  let s := meterBegin src .steam s
  if s.gen.levelHighWet then completeSteamFill s else waitIfAbsent s

/-- R95 at an event that may bring its conditions together. -/
def fillIfWanted (s : State) : State :=
  if s.gen.state = .empty ∧ anyPresent s = true ∧ s.scale.lock = false then startSteamFill s else s

/-- Enter EMPTY (R107, R111). -/
def enterEmpty (s : State) : State := fillIfWanted (enterGen .empty id s)

/-- REFILL_TANK is answered (R99): FILLING with the same fill, or WATER_WAIT again with the tank absent. -/
def refillAnswered (s : State) : State :=
  if s.gen.state = .waterWait then
    waitIfAbsent (enterGen .filling (fun g => { g with fill := g.fill.map (fun f => { f with watchdog := 0 }) }) s)
  else s

/-! ## Steam demands (R94, R105) -/

/-- The window in progress is cut short for the cavity served (R105). -/
def cutWindow (c : Cavity) (s : State) : State :=
  if s.gen.state = .delivering ∧ s.gen.serving = some c then enterGen .ready id s else s

/-- Set a cavity's credit. -/
def setCredit (c : Cavity) (n : Nat) (s : State) : State := modGen (fun g => { g with credit := g.credit.set c n }) s

/-- The demand as the run record gives it. -/
def reportOf (r : Run) : DemandReport :=
  if demandOf r = .absent then DemandReport.none
  else { status := demandOf r, level := stepSteam r, load := stepLoad r }

/-- A demand becoming present (R95, R96). -/
def demandPresent (c : Cavity) (s : State) : State := fillIfWanted (refuse c s)

/-- A demand becoming absent (R94, R99, R105). -/
def demandAbsent (c : Cavity) (s : State) : State := dropWait (cutWindow c (setCredit c 0 s))

/-- Idle time is held at 0 by a demand (R106). -/
def holdIdle (s : State) : State :=
  if s.gen.state = .ready ∧ anyDemand s = true then modGen (fun g => { g with idleTime := some 0 }) s else s

/-- The sequencer tells the generator of its cavity's steam demand (section 5.2, R94, R95, R96, R105). -/
def syncDemand (c : Cavity) (s : State) : State :=
  let old := (s.gen.demand.get c).status
  let new := reportOf (s.runs.get c)
  let s := modGen (fun g => { g with demand := g.demand.set c new }) s
  holdIdle (match new.status with
    | .absent => if old = .absent then s else demandAbsent c s
    | .suspended => cutWindow c s
    | .present => if old = .present then s else demandPresent c s)

/-! ## Delivery (R104) -/

/-- A cavity's gain at a window end (R104, step 1). -/
def gainCredit (c : Cavity) (s : State) : State :=
  let d := s.gen.demand.get c
  if d.status = .present then setCredit c (min Config.creditCap (s.gen.credit.get c + d.level)) s else s

/-- A cavity is eligible for a window (R104, step 2). -/
def eligible (c : Cavity) (s : State) : Bool :=
  decide ((s.gen.demand.get c).status = .present) && decide (Config.windowCost ≤ s.gen.credit.get c)

/-- The cavity chosen at a window end (R104, step 3). -/
def chosen (s : State) : Option Cavity :=
  if eligible .A s && eligible .B s then
    match s.gen.lastServed with
    | some c => some (otherCavity c)
    | none => some .A
  else if eligible .A s then some .A
  else if eligible .B s then some .B
  else none

/-- Serve the chosen cavity in the next window (R104, step 4). -/
def serve (c : Cavity) (s : State) : State :=
  let s := setCredit c (s.gen.credit.get c - Config.windowCost) s
  let s := modGen (fun g => { g with lastServed := some c, serving := some c }) s
  if s.gen.state = .delivering then s else enterGen .delivering id s

/-- The window ends (R104). -/
def windowEnd (s : State) : State :=
  if s.gen.state = .ready ∨ s.gen.state = .delivering then
    let s := gainCredit .B (gainCredit .A (modGen (fun g => { g with windowTime := some 0 }) s))
    match chosen s with
    | some c => serve c s
    | none => if s.gen.state = .delivering then enterGen .ready id s else s
  else s

/-- LEVEL_LOW goes dry in HEATING, READY or DELIVERING (R102). -/
def lowDry (s : State) : State :=
  if s.gen.state = .heating ∨ s.gen.state = .ready ∨ s.gen.state = .delivering then
    if s.scale.lock ∨ anyDemand s = false then startDrain .empty s else startSteamFill s
  else s

/-- The generator's part of a fault (R109): the descale controller's part is in Descale.lean. -/
def genFaultCore (kind : FaultKind) (s : State) : State :=
  let left := s.gen.state
  let s := enterGen .fault (fun g => { g with faultKind := some kind, faultFrom := some left }) (abandonFill s)
  broadcast (.genFault kind left) s

end Sys2Proof.Machine
end

