-- ==== Sys2Proof/Machine/Descale.lean ====
section
/-! DEFINITION. The descale controller (chapter 7), with the generator's instructions and reports in DESCALE (R111),
and the generator fault as a whole (R109, R137). -/

namespace Sys2Proof.Machine

/-- Enter a phase other than IDLE (R129): the fields of the phase left become absent, DESCALE_PHASE is posted and the
record saved. -/
def enterPhase (phase : ProcPhase) (s : State) : State :=
  let s := modProc (fun r => { r with phase := phase, promptId := none, soakTime := none }) s
  saveProcedure (broadcast (.descalePhase (s.proc.kind.getD .descale) phase (toHalf (s.proc.rinseNumber.getD 0)) none) s)

/-- Enter IDLE with an outcome (R129, R136, R139): the procedure's fields become absent; the rinse number posted is a
free value (assumption 9). -/
def enterIdle (kind : ProcKind) (outcome : Outcome) (s : State) : State :=
  let s := modProc (fun r =>
    { r with
      phase := .idle, kind := none, rinseNumber := none, rinseSource := none, promptId := none, soakTime := none
      lastOutcome := some outcome }) s
  let x := drawFree s
  saveProcedure (broadcast (.descalePhase kind .idle x.2 (some outcome)) x.1)

/-- Give the generator back (R111). -/
def giveBack (s : State) : State :=
  let s := abandonFill s
  if s.proc.rinseOwed then startDrain .rinseOwed s
  else if s.gen.levelLowWet then startDrain .empty s
  else enterEmpty s

/-- Rinse owed after an abort (R136, step 1). -/
def owedAfterAbort (r : Procedure) : Bool :=
  match r.kind with
  | some .rinse => true
  | some .descale | none =>
    if procPhaseCode .fillSolution ≤ procPhaseCode r.phase then true else r.rinseOwed

/-- An abort, but for the give-back (R136, steps 1 to 5). -/
def abortCore (reason : ProcAbort) (s : State) : State :=
  let kind := s.proc.kind.getD .descale
  let phase := s.proc.phase
  let s := modProc (fun r => { r with rinseOwed := owedAfterAbort r }) s
  let s := enterIdle kind (.aborted kind reason phase) (cancelPrompt .descaler s)
  broadcast (.descaleAborted kind reason phase) s

/-- An abort with its give-back (R136). -/
def abortProcedure (reason : ProcAbort) (s : State) : State := giveBack (abortCore reason s)

/-- A generator fault (R109), nothing in FAULT; found in DESCALE, it aborts the procedure (R137). -/
def genFault (kind : FaultKind) (s : State) : State :=
  if s.gen.state = .fault then s
  else if s.gen.state = .descale then abortCore .fault (genFaultCore kind s)
  else genFaultCore kind s

/-- Take the generator over (R111). -/
def takeOver (s : State) : State := enterGen .descale (fun g => { g with credit := ⟨0, 0⟩ }) (abandonFill s)

/-- Enter a phase with a drain instruction (R107, R111). -/
def enterDrain (phase : ProcPhase) (s : State) : State :=
  stopTimer .genHeat (modGen (fun g =>
    { g with
      fill := none, afterDrain := some .report, drainTime := some 0, dryTime := some 0, soakUpdate := none })
    (enterPhase phase s))

/-- Enter a waiting phase with its device prompt (R132). -/
def enterWaiting (phase : ProcPhase) (s : State) : State :=
  let s := raiseDevice .descaler (if phase = .waitSolution then 241 else 242) (enterPhase phase s)
  modProc (fun r => { r with promptId := promptIdOf .descaler s }) s

/-- Enter HEAT_SOAK with its heat instruction (R134, R68). -/
def enterHeatSoak (s : State) : State := restartTimer .genHeat Config.drivePeriod 0 (enterPhase .heatSoak s)

/-- One soak computation (R69): the heater's holds. -/
def soakCompute (s : State) : State :=
  let d := demandPercent s.settings.propBand 0 (s.settings.soakTemp * 100) (genReading s)
  writeHolds .genHeat (2 * d) (Config.drivePeriod - 2 * d) (modGen (fun g => { g with soakUpdate := some 0 }) s)

/-- Enter SOAK (R134). -/
def enterSoak (s : State) : State :=
  soakCompute (modProc (fun r => { r with soakTime := some 0 }) (enterPhase .soak s))

/-- A fill in DESCALE is complete (R97, R133). -/
def descaleFillDone (s : State) : State :=
  let s := meterComplete (modGen (fun g => { g with fill := none }) s)
  if s.proc.phase = .fillSolution then
    enterHeatSoak (modProc (fun r => { r with solutionVolume := s.meter.latest.map (·.volume) }) s)
  else enterDrain .rinseDrain s

/-- A fill in DESCALE has stalled (R133). -/
def descaleStall (s : State) : State :=
  let src := (s.gen.fill.map (·.source)).getD .tank
  let s := meterIncomplete (modGen (fun g => { g with fill := none }) s)
  if s.proc.phase = .fillSolution then enterWaiting .waitSolution s
  else
    match src with
    | .tank => enterWaiting .waitRinse s
    | .plumbed => abortProcedure .noWater s

/-- Enter a fill phase with its fill instruction (R133, R97, R98): complete at its start with LEVEL_HIGH wet, stalled
at its start with the tank absent. With both, it is complete (assumption 19). -/
def enterFill (phase : ProcPhase) (src : WaterSource) (purpose : Purpose) (s : State) : State :=
  let s := enterPhase phase s
  let s := modGen (fun g => { g with fill := some { purpose := purpose, source := src, watchdog := 0 } }) s
  let s := meterBegin src purpose (stopTimer .genHeat s)
  if s.gen.levelHighWet then descaleFillDone s
  else if src = .tank ∧ s.tankPresent = false then descaleStall s
  else s

/-- Begin a rinse (R131, R135). -/
def enterRinse (s : State) : State :=
  match s.proc.rinseSource with
  | some .plumbed => enterFill .rinseFill .plumbed .rinse s
  | some .tank | none => enterWaiting .waitRinse s

/-- A descale reaches its end (R139). -/
def descaleComplete (s : State) : State :=
  let s := enterPhase .done (modProc (fun r => { r with rinseOwed := false }) s)
  let s := broadcast (.descaleDone (s.proc.solutionVolume.getD 0) (s.proc.rinseNumber.getD 0)) (zeroScale s)
  giveBack (enterIdle .descale (.complete .descale) s)

/-- A rinse reaches its end (R139). -/
def rinseComplete (s : State) : State :=
  giveBack (enterIdle .rinse (.complete .rinse) (modProc (fun r => { r with rinseOwed := false }) s))

/-- A drain in DESCALE is complete (R132, R135). -/
def descaleDrainDone (s : State) : State :=
  let s := modGen (fun g => { g with afterDrain := none, drainTime := none, dryTime := none }) s
  match s.proc.phase with
  | .prepDrain => enterWaiting .waitSolution s
  | .drainSolution => enterRinse (modProc (fun r => { r with rinseNumber := some 1 }) s)
  | .rinseDrain =>
    let n := s.proc.rinseNumber.getD 0
    if n < s.settings.rinseCount then enterRinse (modProc (fun r => { r with rinseNumber := some (n + 1) }) s)
    else
      match s.proc.kind with
      | some .rinse => rinseComplete s
      | some .descale | none => descaleComplete s
  | .idle | .waitSolution | .fillSolution | .heatSoak | .soak | .waitRinse | .rinseFill | .done => s

/-- The controller's prompt is answered (R132). -/
def descaleAnswered (s : State) : State :=
  match s.proc.phase with
  | .waitSolution => enterFill .fillSolution .tank .descaleSolution s
  | .waitRinse => enterFill .rinseFill (s.proc.rinseSource.getD .tank) .rinse s
  | .idle | .prepDrain | .fillSolution | .heatSoak | .soak | .drainSolution | .rinseFill | .rinseDrain | .done => s

/-- Some run's current step asks for steam (R130, R131). -/
def steamInUse (s : State) : Bool :=
  decide (demandOf s.runs.a ≠ .absent) || decide (demandOf s.runs.b ≠ .absent)

/-- START_DESCALE at its block (R130). -/
def startDescale : Act := fun s =>
  if s.proc.phase ≠ .idle then deny .state s
  else if s.gen.state ≠ .empty ∧ s.gen.state ≠ .ready ∧ s.gen.state ≠ .rinseOwed then deny .genBusy s
  else if steamInUse s then deny .steamInUse s
  else
    doneAfter (fun s =>
      enterDrain .prepDrain (takeOver (modProc (fun r =>
        { r with
          kind := some .descale, rinseNumber := some 0, rinseSource := some s.settings.waterSource
          solutionVolume := none }) s))) s

/-- START_RINSE at its block (R131). -/
def startRinse : Act := fun s =>
  if s.proc.phase ≠ .idle then deny .state s
  else if s.gen.state ≠ .empty ∧ s.gen.state ≠ .rinseOwed then deny .genBusy s
  else if s.gen.state = .empty ∧ steamInUse s = true then deny .steamInUse s
  else
    doneAfter (fun s =>
      enterRinse (takeOver (modProc (fun r =>
        { r with
          kind := some .rinse, rinseNumber := some 1, rinseSource := some s.settings.waterSource }) s))) s

/-- ABORT_DESCALE at its block (R138). -/
def abortDescale : Act := fun s =>
  if s.proc.phase = .idle then deny .state s else doneAfter (abortProcedure .order) s

/-- The results of READ_DESCALE (R143). -/
def descaleReport (s : State) : DescaleReport :=
  { phase := s.proc.phase
    kind := s.proc.kind
    rinseNumber := s.proc.rinseNumber
    rinseCount := s.settings.rinseCount
    rinseSource := s.proc.rinseSource
    rinseOwed := s.proc.rinseOwed
    promptId := s.proc.promptId
    soakTime := s.proc.soakTime.map wholeSeconds
    soakTimeSetting := if s.proc.phase = .soak then some s.settings.soakTime else none
    reading := s.sensors.genTemp.reading
    soakTemp := s.settings.soakTemp
    solutionVolume := s.proc.solutionVolume
    lastOutcome := s.proc.lastOutcome
    savedPhase := s.proc.savedPhase
    saveBusy := procSaveBusy s
    saveResult := s.proc.saveResult }

/-- READ_DESCALE at its block (R143). -/
def readDescale : Act := fun s => (s, .done, .descale (descaleReport s))

/-- The 2 s soak update (R69). -/
def soakUpdate (s : State) : State :=
  if s.gen.state = .descale ∧ s.proc.phase = .soak ∧ s.mains.low = false then soakCompute s else s

/-- The soak time reaches SOAK_TIME (R134). -/
def soakEnd (s : State) : State :=
  if s.gen.state = .descale ∧ s.proc.phase = .soak ∧ s.mains.low = false then enterDrain .drainSolution s else s

/-- START_DESCALE (R130). -/
def execStartDescale (p : Port) (seq : Byte) (s : State) : Host.Outcome State Fault Refusal :=
  event (order p seq 0x38 none startDescale) s

/-- ABORT_DESCALE (R138). -/
def execAbortDescale (p : Port) (seq : Byte) (s : State) : Host.Outcome State Fault Refusal :=
  event (order p seq 0x39 none abortDescale) s

/-- START_RINSE (R131). -/
def execStartRinse (p : Port) (seq : Byte) (s : State) : Host.Outcome State Fault Refusal :=
  event (order p seq 0x3A none startRinse) s

/-- READ_DESCALE (R143). -/
def execReadDescale (p : Port) (seq : Byte) (s : State) : Host.Outcome State Fault Refusal :=
  event (order p seq 0x3B none readDescale) s

/-- SOAK_UPDATE (R69). -/
def execSoakUpdate (s : State) : Host.Outcome State Fault Refusal := event soakUpdate s

/-- SOAK_TIME_EXPIRY (R134). -/
def execSoakTimeExpiry (s : State) : Host.Outcome State Fault Refusal := event soakEnd s

end Sys2Proof.Machine
end

