-- ==== Sys2Proof/Machine/Steam.lean ====
section
/-! DEFINITION. The commands of the steam generator, the water meter and the level electrodes (chapters 5 and 6). -/

namespace Sys2Proof.Machine

/-- The overfill test (R100), made on the volume of the open fill. -/
def overfillTest (s : State) : State :=
  match openVolume s with
  | some v => if Config.overfill < v ∧ s.gen.levelHighWet = false then genFault .overfill s else s
  | none => s

/-- Each flow pulse sets the watchdog of a running fill back to 0, but under mains-low (R98). -/
def feedWatchdog (s : State) : State :=
  if fillRunning s ∧ s.mains.low = false then
    modGen (fun g => { g with fill := g.fill.map (fun f => { f with watchdog := 0 }) }) s
  else s

/-- A flow pulse (R116, R98, R100, R119). -/
def flowPulse (gap : Nat) (s : State) : State :=
  overfillTest (feedWatchdog { s with meter := meterPulse gap s.meter })

/-- The quiet time of an open fill reaches 4 s (R117). -/
def quietEnd (s : State) : State := { s with meter := meterQuiet s.meter }

/-- A running fill stalls (R98, R133). -/
def fillStall (s : State) : State :=
  if s.gen.state = .descale then descaleStall s
  else
    match s.gen.fill with
    | some f => if f.source = .plumbed then genFault .noWater s else enterWaterWait s
    | none => s

/-- The no-flow watchdog of a running fill reaches 4 s (R98). -/
def watchdogStall (s : State) : State := if fillRunning s ∧ s.mains.low = false then fillStall s else s

/-- A tank removal at the generator (R98). -/
def tankRemovedAtGen (s : State) : State :=
  if fillRunning s ∧ (s.gen.fill.map (·.source)) = some .tank then fillStall s else s

/-- LEVEL_HIGH wets (R97, R99): a fill is complete. -/
def highWet (s : State) : State :=
  if s.gen.levelHighWet then s
  else
    let s := modGen (fun g => { g with levelHighWet := true }) s
    if s.gen.fill.isNone then s
    else if s.gen.state = .descale then descaleFillDone s
    else if s.gen.state = .filling ∨ s.gen.state = .waterWait then completeSteamFill s
    else s

/-- LEVEL_HIGH's flag goes dry, where the command says so (assumption 12). -/
def dryHigh (highDried : Bool) (s : State) : State :=
  if highDried then modGen (fun g => { g with levelHighWet := false }) s else s

/-- LEVEL_LOW goes dry (R102). Where it stands dry already, only LEVEL_HIGH's drying is taken (assumption 12). -/
def levelLowDry (highDried : Bool) (s : State) : State :=
  let s := dryHigh highDried s
  if s.gen.levelLowWet then lowDry (modGen (fun g => { g with levelLowWet := false }) s) else s

/-- LEVEL_LOW goes wet (R107): in a drain, dry time returns to 0. Where it stands wet already, only LEVEL_HIGH's
drying is taken (assumption 12): a vessel that boils down dries LEVEL_HIGH first (R92). -/
def levelLowWets (highDried : Bool) (s : State) : State :=
  let s := dryHigh highDried s
  if s.gen.levelLowWet then s
  else
    let s := modGen (fun g => { g with levelLowWet := true }) s
    if drainRunning s then modGen (fun g => { g with dryTime := some 0 }) s else s

/-- The idle time of R106 reaches IDLE_DRAIN. -/
def idleDrain (s : State) : State :=
  if s.gen.state = .ready ∧ anyDemand s = false then startDrain .empty s else s

/-- The dry time of a drain reaches 20 s (R107). -/
def drainComplete (s : State) : State :=
  if drainRunning s ∧ s.gen.levelLowWet = false ∧ s.mains.low = false then
    match s.gen.afterDrain with
    | some .report => descaleDrainDone s
    | some .rinseOwed => enterGen .rinseOwed id s
    | some .empty | none => enterEmpty s
  else s

/-- The drain time reaches 90 s with LEVEL_LOW wet (R107). -/
def drainFail (s : State) : State :=
  if drainRunning s ∧ s.gen.levelLowWet = true ∧ s.mains.low = false then genFault .drainFail s else s

/-- The heat account reaches 300 s (R101, R123). -/
def heatSlow (s : State) : State :=
  if s.gen.state = .heating ∧ s.arbiter.genHeat = .granted ∧ s.gen.slowPosted = false then
    let s := modGen (fun g => { g with heatAccount := some 3000, slowPosted := true }) s
    slowReport (broadcast (.heatSlow 300 (genReading s)) s)
  else s

/-- A delivered GEN_TEMP sample (R101, R109, R134): the dry-boil test first (assumption 20). -/
def genSample (reading : Nat) (s : State) : State :=
  if Config.dryBoil ≤ reading ∧ s.arbiter.genHeat = .granted ∧ s.gen.state ≠ .fault then genFault .dryBoil s
  else if s.gen.state = .heating then
    if s.settings.readyTemp * 10 ≤ reading then enterGen .ready id s else s
  else if s.gen.state = .descale ∧ s.proc.phase = .heatSoak then
    if s.settings.soakTemp * 10 ≤ reading then enterSoak s else s
  else s

/-- DRAIN_GEN at its block (R108). -/
def drainGen : Act := fun s =>
  match s.gen.state with
  | .filling | .waterWait | .heating | .ready | .delivering =>
    if anyDemand s then deny .steamInUse s else doneAfter (startDrain .empty) s
  | .draining => doneAfter id s
  | .empty | .rinseOwed | .fault => deny .state s
  | .descale => deny .genBusy s

/-- GEN_RESET at its block (R110). -/
def genReset : Act := fun s =>
  if s.gen.state = .fault ∧ sensorFaulted .genTemp s = false then
    doneAfter (startDrain (if s.proc.rinseOwed then .rinseOwed else .empty)) s
  else deny .state s

/-- The results of READ_GEN (R113). -/
def genReport (s : State) : GenReport :=
  { state := s.gen.state
    owner := genOwner s
    faultKind := s.gen.faultKind
    faultFrom := s.gen.faultFrom
    levelLowWet := s.gen.levelLowWet
    levelHighWet := s.gen.levelHighWet
    reading := s.sensors.genTemp.reading
    fill := s.gen.fill.map (fun f => { f with watchdog := wholeSeconds f.watchdog })
    volume := openVolume s
    windowTime := s.gen.windowTime.map wholeSeconds
    serving := s.gen.serving
    credit := s.gen.credit
    lastServed := s.gen.lastServed
    idleTime := s.gen.idleTime.map wholeSeconds
    drainTime := s.gen.drainTime.map wholeSeconds
    dryTime := s.gen.dryTime.map wholeSeconds
    heatAccount := s.gen.heatAccount.map wholeSeconds
    slowPosted := s.gen.slowPosted
    waitPrompt := s.gen.waitPrompt
    tankPump := tankPump s
    inletValve := inletValve s
    drainPump := drainPump s
    steamValveA := steamValve .A s
    steamValveB := steamValve .B s
    lock := s.scale.lock }

/-- READ_GEN at its block (R113). -/
def readGen : Act := fun s => (s, .done, .gen (genReport s))

/-- The results of READ_WATER (R127). -/
def waterReport (s : State) : WaterReport :=
  { fill := s.meter.fill.map (fun f => { source := f.source, purpose := f.purpose, pulses := f.pulses })
    volume := openVolume s
    period := s.meter.fill.bind (·.period)
    flowRate := flowRate s
    latest := s.meter.latest
    litres := s.meter.total / 1000
    stray := s.meter.stray
    points := s.scale.points
    carry := s.scale.carry
    warn := s.scale.warn
    lock := s.scale.lock
    scaleWarn := s.settings.scaleWarn
    scaleLock := s.settings.scaleLock
    hardness := s.settings.hardness
    flowCal := s.settings.flowCal
    savedPoints := s.scale.savedPoints
    saveBusy := scaleSaveBusy s
    saveResult := s.scale.saveResult }

/-- READ_WATER at its block (R127). -/
def readWater : Act := fun s => (s, .done, .water (waterReport s))

/-- DRAIN_GEN (R108). -/
def execDrainGen (p : Port) (seq : Byte) (s : State) : Host.Outcome State Fault Refusal :=
  event (order p seq 0x30 none drainGen) s

/-- GEN_RESET (R110). -/
def execGenReset (p : Port) (seq : Byte) (s : State) : Host.Outcome State Fault Refusal :=
  event (order p seq 0x31 none genReset) s

/-- READ_GEN (R113). -/
def execReadGen (p : Port) (seq : Byte) (s : State) : Host.Outcome State Fault Refusal :=
  event (order p seq 0x32 none readGen) s

/-- READ_WATER (R127). -/
def execReadWater (p : Port) (seq : Byte) (s : State) : Host.Outcome State Fault Refusal :=
  event (order p seq 0x40 none readWater) s

/-- LEVEL_HIGH_WET (R97). -/
def execLevelHighWet (s : State) : Host.Outcome State Fault Refusal := event highWet s

/-- LEVEL_LOW_DRY (R102). -/
def execLevelLowDry (highDried : Bool) (s : State) : Host.Outcome State Fault Refusal := event (levelLowDry highDried) s

/-- LEVEL_LOW_WET (R107). -/
def execLevelLowWet (highDried : Bool) (s : State) : Host.Outcome State Fault Refusal :=
  event (levelLowWets highDried) s

/-- FILL_WATCHDOG_STALL (R98). -/
def execFillWatchdogStall (s : State) : Host.Outcome State Fault Refusal := event watchdogStall s

/-- WINDOW_END (R104). -/
def execWindowEnd (s : State) : Host.Outcome State Fault Refusal := event windowEnd s

/-- IDLE_DRAIN (R106). -/
def execIdleDrain (s : State) : Host.Outcome State Fault Refusal := event idleDrain s

/-- DRAIN_COMPLETE (R107). -/
def execDrainComplete (s : State) : Host.Outcome State Fault Refusal := event drainComplete s

/-- DRAIN_FAIL (R107). -/
def execDrainFail (s : State) : Host.Outcome State Fault Refusal := event drainFail s

/-- HEAT_SLOW (R101). -/
def execHeatSlow (s : State) : Host.Outcome State Fault Refusal := event heatSlow s

/-- FLOW_PULSE (R116). -/
def execFlowPulse (gap : Nat) (s : State) : Host.Outcome State Fault Refusal := event (flowPulse gap) s

/-- QUIET_TIME_EXPIRY (R117). -/
def execQuietTimeExpiry (s : State) : Host.Outcome State Fault Refusal := event quietEnd s

end Sys2Proof.Machine
end

