-- ==== Sys2Proof/Machine/Queue.lean ====
section
/-! DEFINITION. The step queues (chapter 1): the program reader, refill requests, and the walk. -/

namespace Sys2Proof.Machine

/-- The load number after another, from 65535 to 1 (R7). -/
def nextLoadNumber (n : Nat) : Nat := if 65535 ≤ n then 1 else n + 1

/-- Append a record at the tail with the next load number (R7, R8). -/
def append (c : Cavity) (record : Record) (s : State) : State :=
  modQueue c (fun q =>
    { q with
      pending := q.pending ++ [{ load := q.nextLoad, record := record }], nextLoad := nextLoadNumber q.nextLoad }) s

/-- The run is open: it has a source and is not closed (R17). -/
def isOpen (r : Run) : Bool := r.opened.isSome && !isClosed r

/-- The watermark of the run (R17). -/
def watermarkOf (r : Run) : Nat := (r.opened.map (·.watermark)).getD 0

/-- The feeder port of a streamed run. -/
def feederOf (r : Run) : Option Port :=
  match r.opened with
  | some o => (match o.source with | .stream p => some p | .program _ => none)
  | none => none

/-- The slot of a program run. -/
def programOf (r : Run) : Option Nat :=
  match r.opened with
  | some o => (match o.source with | .program n => some n | .stream _ => none)
  | none => none

/-- Set the closed flag (R24, R19). -/
def close (c : Cavity) (s : State) : State :=
  modRun c (fun r => { r with opened := r.opened.map (fun o => { o with closed := true }) }) s

/-- The pending count is at or below the watermark. -/
def runsLow (c : Cavity) (s : State) : Bool :=
  decide ((s.queues.get c).pending.length ≤ watermarkOf (s.runs.get c))

/-! ## The program reader (R9, R19, R146) -/

/-- Copy the record at the reader's index; the copy that reaches the program end closes the run and releases the
slot (R146). -/
def copyOne (c : Cavity) (i : Nat) (s : State) : State :=
  let records := ((programOf (s.runs.get c)).bind (fun n => installed n s)).map (·.records) |>.getD []
  let s := match records[i]? with
    | some r => append c r s
    | none => s
  if i + 1 < records.length then modRun c (fun r => { r with reader := some (i + 1) }) s
  else close c (modRun c (fun r => { r with reader := none }) s)

/-- Copy while the queue has a free slot and the program has records left (R9); a copy for an outstanding request also
stops above the watermark (R19). -/
def copyWhile : Nat → Bool → Cavity → State → State
  | 0, _, _, s => s
  | k + 1, outstanding, c, s =>
    match (s.runs.get c).reader with
    | none => s
    | some i =>
      if Config.queueSlots ≤ occupied (s.queues.get c) then s
      else if outstanding ∧ runsLow c s = false then s
      else copyWhile k outstanding c (copyOne c i s)

/-- The outstanding flag after a copy (R19): records left, and the pending count still at or below the watermark. -/
def noteOutstanding (c : Cavity) (s : State) : State :=
  modQueue c (fun q => { q with outstanding := (s.runs.get c).reader.isSome && runsLow c s }) s

/-- The reader's answer to a refill request (R19). -/
def readerRefill (c : Cavity) (s : State) : State := noteOutstanding c (copyWhile Config.queueSlots false c s)

/-- The reader copies again for an outstanding request (R19). -/
def readerAgain (c : Cavity) (s : State) : State :=
  if (s.queues.get c).outstanding then noteOutstanding c (copyWhile Config.queueSlots true c s) else s

/-- Raise a refill request (R18, R19). -/
def requestRefill (c : Cavity) (s : State) : State :=
  match feederOf (s.runs.get c) with
  | some p => post p (.refill c (s.queues.get c).pending.length) s
  | none => readerRefill c s

/-- What follows a change of the pending count from `before` (R17, R19): a request at a crossing of the watermark of
an open run, else a copy for an outstanding request. -/
def afterChange (c : Cavity) (before : Nat) (s : State) : State :=
  if isOpen (s.runs.get c) ∧ watermarkOf (s.runs.get c) < before ∧ runsLow c s = true then requestRefill c s
  else readerAgain c s

/-! ## The walk (R10 to R16) -/

/-- Drop the mark and free the retained records (R16). -/
def dropMark (q : StepQueue) : StepQueue := { q with retained := [], mark := false, loop := none }

/-- The condition of a mark overrun, once no record is pending (R16). -/
def overrun (q : StepQueue) : Bool := q.mark && decide (q.retained.length = Config.queueSlots)

/-- Apply a mark overrun (R16): the mark is dropped and MARK_LOST broadcast. -/
def loseMark (c : Cavity) (s : State) : State :=
  broadcast (.markLost c (s.queues.get c).retained.length) (modQueue c dropMark s)

/-- Consume an ACTION record at the head (R10). -/
def consumeAction (load : Nat) (a : Action) (rest : List Loaded) (q : StepQueue) : StepQueue :=
  { q with pending := rest, retained := if q.mark then q.retained ++ [{ load := load, action := a }] else q.retained }

/-- Consume a MARK record at the head (R12). -/
def consumeMark (rest : List Loaded) (q : StepQueue) : StepQueue :=
  { q with pending := rest, retained := [], mark := true, loop := none }

/-- Return the retained records ahead of the REPEAT record, with a loop counter (R13, R14). -/
def returnBody (counter : Nat) (q : StepQueue) : StepQueue :=
  { q with
    pending := q.retained.map (fun k => { load := k.load, record := .action k.action }) ++ q.pending
    retained := []
    loop := some counter }

/-- Handle a REPEAT record at the head (R13, R14, R15), LOOP_ERROR apart. At counter 0 the retained records and the REPEAT
record are freed as one change, which the reader answers once (R14, R19; assumption 44). -/
def consumeRepeat (count : Nat) (rest : List Loaded) (q : StepQueue) : StepQueue :=
  if q.mark then
    match q.loop with
    | none => returnBody (count - 1) q
    | some (n + 1) => returnBody n q
    | some 0 => { dropMark q with pending := rest }
  else { q with pending := rest }

/-- One walk along the queue (R10): the ACTION record consumed, if any. The retained records that a MARK, or a REPEAT at
counter 0, frees are freed before the reader answers the fall of the pending count that its leaving brings, so their slots
are copied into (R12, R14, R19; assumption 44). For a program run the overrun is tested at an end without a record, and
the walk goes on with what the reader copies (R16; assumption 22). -/
def walk : Nat → Cavity → State → State × Option (Nat × Action)
  | 0, _, s => (s, none)
  | k + 1, c, s =>
    let q := s.queues.get c
    match q.pending with
    | [] =>
      if (programOf (s.runs.get c)).isSome ∧ overrun q = true then
        walk k c (noteOutstanding c (copyWhile Config.queueSlots true c (loseMark c s)))
      else (s, none)
    | x :: rest =>
      match x.record with
      | .action a =>
        (afterChange c q.pending.length (modQueue c (consumeAction x.load a rest) s), some (x.load, a))
      | .mark => walk k c (afterChange c q.pending.length (modQueue c (consumeMark rest) s))
      | .rep n =>
        let s := if q.mark then s else broadcast (.loopError c x.load) s
        walk k c (afterChange c q.pending.length (modQueue c (consumeRepeat n rest) s))

/-- More records than a walk can handle: 16 queued and 48 still to be copied, each REPEAT reached at most 16 times. -/
def walkLimit : Nat := 1200

/-- Empty the queue (R20); the load counter keeps its value. The fall of the pending count raises no refill request, also
where the run was open (R17; assumption 45). -/
def emptyQueue (c : Cavity) (s : State) : State :=
  modQueue c (fun q =>
    { pending := [], retained := [], mark := false, loop := none, nextLoad := q.nextLoad, outstanding := false }) s

/-- Some pending record is an ACTION record (R25). -/
def hasAction (c : Cavity) (s : State) : Bool := (s.queues.get c).pending.any (fun x => isAction x.record)

end Sys2Proof.Machine
end

