-- ==== Sys2Proof/Machine/Runs.lean ====
section
/-! DEFINITION. The cavity sequencers (chapter 2): step entry and end, starving, finishing, pause, resume and abort,
overlays, prompt and probe reports, watch trips. -/

namespace Sys2Proof.Machine

/-- What a change of a run hands to the climate loop, the drive timers and the generator (R22, R39, R64, R94). -/
def settle (c : Cavity) (s : State) : State := syncDemand c (syncFreeze c (settleClimate c s))

/-! ## Step entry (R28, R29) -/

/-- The core condition when ENTRY_PROMPT does not hold it back (R28): LIVE, or INSERT_PROBE raised. -/
def coreEntry (c : Cavity) (s : State) : State :=
  if ((s.runs.get c).current.bind (·.action.core)).isSome then
    if probeUsable c s then modRun c (fun r => { r with coreCond := some .live }) s
    else raiseDevice (cavityOwner c) 243 s
  else s

/-- The step's prompt, if it is raised at entry: BEFORE or NOTICE (R28). -/
def entryPrompt (a : Action) (placement : Placement) : Option PromptSub :=
  match a.prompt with
  | some p => if p.placement = placement then some p else none
  | none => none

/-- The phase and prompts of a step entry (R28). -/
def enterPhases (c : Cavity) (a : Action) (s : State) : State :=
  match entryPrompt a .before with
  | some p => raiseRecipe c p (modRun c (fun r => { r with phase := some .entryPrompt }) s)
  | none =>
    match entryPrompt a .notice with
    | some p => coreEntry c (raiseRecipe c p (approachTest c s))
    | none => coreEntry c (approachTest c s)

/-- The run record at a step entry (R28). -/
def stepRecord (load : Nat) (a : Action) (band : Nat) (r : Run) : Run :=
  { r with
    current := some { load := load, action := a, band := a.band.getD band }
    phase := none
    remaining := a.duration.map (· * Config.second)
    coreCond := if a.core.isSome then some .waitingProbe else none
    denial := none }

/-- Enter an ACTION record as the current step (R28, R52, R67, R96). -/
def enterStep (c : Cavity) (load : Nat) (a : Action) (s : State) : State :=
  let s := modRun c (stepRecord load a s.settings.approachBand) s
  let s := broadcast (.stepStarted c load) (climateTake c a s)
  let s := reformPair c (decide (a.heat = .alternate)) (enterPhases c a s)
  let s := demandComputation c s
  if 0 < a.steam then refuse c s else s

/-- The phase leaves ENTRY_PROMPT (R28, R29). -/
def leaveEntry (c : Cavity) (s : State) : State :=
  if (s.runs.get c).phase = some .entryPrompt then coreEntry c (approachTest c s) else s

/-! ## Run ends (R33, R40, R41) -/

/-- The fields that a run end makes absent or clear (R33, R41); source, watermark and closed stay. -/
def endedRecord (state : RunState) (abort : Option AbortReason) (r : Run) : Run :=
  { Run.idle with state := state, opened := r.opened, denial := r.denial, abortReason := abort }

/-- What a run end does to the timers, the climate loop and the queue (R20, R51, R63). -/
def endRun (c : Cavity) (state : RunState) (abort : Option AbortReason) (s : State) : State :=
  emptyQueue c (climateEnd c (stopCavity c (modRun c (endedRecord state abort) s)))

/-- Clear the cavity's entry when it is a NOTICE or INSERT_PROBE prompt (R33). -/
def clearStepPrompts (c : Cavity) (s : State) : State :=
  match s.prompts.get (cavityOwner c) with
  | some e => if e.placement = .notice ∨ probeAck e = true then cancelPrompt (cavityOwner c) s else s
  | none => s

/-- Enter FINISHED (R33). -/
def finish (c : Cavity) (s : State) : State :=
  let source := ((s.runs.get c).opened.map (·.source)).getD (.program 0)
  broadcast (.runFinished c source) (endRun c .finished none s)

/-- The mark overrun as a streamed run enters STARVED, with its REFILL (R16). -/
def starveOverrun (c : Cavity) (s : State) : State :=
  if overrun (s.queues.get c) then
    let s := loseMark c s
    match feederOf (s.runs.get c) with
    | some p => post p (.refill c 0) s
    | none => s
  else s

/-- Enter STARVED (R34, R56). -/
def starve (c : Cavity) (s : State) : State :=
  let s := starveOverrun c s
  let s := modRun c (fun r => { r with state := .starved, phase := some .hold, starveTime := some 0 }) s
  let s := modClimate c (fun k => { k with loop := k.loop.map (fun l => { l with reached := true }) }) s
  match feederOf (s.runs.get c) with
  | some p => broadcast (.feedStarved c p (stepLoad (s.runs.get c))) s
  | none => s

/-- Act on what a walk gave (R33). -/
def afterWalk (c : Cavity) (x : State × Option (Nat × Action)) : State :=
  match x.2 with
  | some (load, a) => enterStep c load a x.1
  | none => if isClosed (x.1.runs.get c) then finish c x.1 else starve c x.1

/-- The step ends (R33). -/
def stepEnd (c : Cavity) (s : State) : State := afterWalk c (walk walkLimit c (clearStepPrompts c s))

/-- Cancel the cavity's INSERT_PROBE entry, if it is in the table (R31). -/
def cancelProbePrompt (c : Cavity) (s : State) : State :=
  match s.prompts.get (cavityOwner c) with
  | some e => if probeAck e then cancelPrompt (cavityOwner c) s else s
  | none => s

/-- The end condition of a step is met (R31): EXIT_PROMPT for a step with an AFTER prompt, else its end. -/
def endCondition (c : Cavity) (s : State) : State :=
  match (s.runs.get c).current.bind (fun step => entryPrompt step.action .after) with
  | some p => raiseRecipe c p (cancelProbePrompt c (modRun c (fun r => { r with phase := some .exitPrompt }) s))
  | none => stepEnd c s

/-- An end condition arrives (R31): it counts in HEATUP and HOLD of a RUNNING run. -/
def tryEnd (c : Cavity) (s : State) : State :=
  if (s.runs.get c).state = .running ∧ inHeatOrHold (s.runs.get c) = true then endCondition c s else s

/-- Abort a run (R41). -/
def abortRun (c : Cavity) (reason : AbortReason) (s : State) : State :=
  let load := stepLoad (s.runs.get c)
  let s := endRun c .aborted (some reason) (cancelPrompt (cavityOwner c) s)
  broadcast (.runAborted c reason load) s

/-- Abort a run that is in progress (R48). -/
def abortInProgress (c : Cavity) (reason : AbortReason) (s : State) : State :=
  if inProgress (s.runs.get c) then abortRun c reason s else s

/-! ## Pause and resume (R38, R39) -/

/-- Enter PAUSED (R38), from RUNNING or STARVED. -/
def pause (c : Cavity) (reason : PauseReason) (s : State) : State :=
  let r := s.runs.get c
  let go (x : PausedFrom) : State :=
    broadcast (.runPaused c reason (stepLoad r)) (modRun c (fun r =>
      { r with
        state := .paused, pausedFrom := some x, pauseReason := some reason, deferred := false
        doorSuspended := false, mainsHeld := false, doorTime := none }) s)
  match r.state with
  | .running => go .running
  | .starved => go .starved
  | .idle | .loading | .delayed | .paused | .finished | .aborted => s

/-- Take up the overlays the inputs call for (R27, R39, R47). -/
def takeOverlays (c : Cavity) (s : State) : State :=
  modRun c (fun r =>
    if r.state = .running ∨ r.state = .starved then
      { r with
        doorSuspended := s.doorOpen.get c
        doorTime := if s.doorOpen.get c then some 0 else none
        mainsHeld := s.mains.low }
    else r) s

/-- The change that a deferred answer makes at the resumption (R32, R39 step 1). -/
def makeDeferred (c : Cavity) (s : State) : State :=
  match (s.runs.get c).phase with
  | some .entryPrompt => leaveEntry c s
  | some .exitPrompt => stepEnd c s
  | some .heatup | some .hold | none => s

/-- A starved run whose starve time has reached FEED_TIMEOUT is aborted (R34). -/
def feedCheck (c : Cavity) (s : State) : State :=
  let r := s.runs.get c
  if r.state = .starved ∧ s.settings.feedTimeout * Config.second ≤ r.starveTime.getD 0 then
    settle c (abortRun c .feedLost s)
  else s

/-- Resume a PAUSED run (R39), whole, with what it hands over. -/
def resume (c : Cavity) (s : State) : State :=
  let r := s.runs.get c
  let back : RunState := if r.pausedFrom = some .starved then .starved else .running
  let s := modRun c (fun r =>
    { r with state := back, pausedFrom := none, pauseReason := none, deferred := false }) s
  let s := takeOverlays c (if r.deferred then makeDeferred c s else s)
  let s :=
    if underway (s.runs.get c) then modClimate c (fun k => { k with restartOwed := true }) s else s
  feedCheck c (settle c s)

/-! ## Starting (R25 to R27) -/

/-- The refill request of a start (R17). -/
def startRefill (c : Cavity) (s : State) : State :=
  if isOpen (s.runs.get c) ∧ runsLow c s = true then requestRefill c s else s

/-- Enter RUNNING from LOADING or DELAYED (R25, R27): the overlays and the freeze they bring, then the first walk
(that order: assumption 18), so that the holds the step entry writes wait in frozen timers (R52, R64). -/
def enterRunning (c : Cavity) (s : State) : State :=
  let s := takeOverlays c (modRun c (fun r => { r with state := .running, delay := none, linked := false }) s)
  settle c (afterWalk c (walk walkLimit c (syncFreeze c s)))

/-- Enter DELAYED (R25, R26). -/
def enterDelayed (c : Cavity) (delay : Nat) (linked : Bool) (s : State) : State :=
  modRun c (fun r => { r with state := .delayed, delay := some (delay * Config.second), linked := linked }) s

/-- The delay of a DELAYED run reaches 0 (R27). -/
def delayEnd (c : Cavity) (s : State) : State := if (s.runs.get c).state = .delayed then enterRunning c s else s

/-- DELAY_EXPIRY: one event for both runs of a linked start that are still DELAYED (R26), cavity A whole before cavity B
(assumption 16). -/
def delayExpiry (c : Cavity) (s : State) : State :=
  let o := s.runs.get (otherCavity c)
  if (s.runs.get c).state = .delayed ∧ (s.runs.get c).linked = true ∧ o.state = .delayed ∧ o.linked = true then
    delayEnd .B (delayEnd .A s)
  else delayEnd c s

/-! ## Timed events -/

/-- The remaining time reaches 0 (R30, R31). -/
def stepTimeEnd (c : Cavity) (s : State) : State :=
  if stepCounts (s.runs.get c) then settle c (tryEnd c (modRun c (fun r => { r with remaining := some 0 }) s)) else s

/-- The feeder timeout (R34). -/
def feederEnd (c : Cavity) (s : State) : State :=
  if (s.runs.get c).state = .starved then settle c (abortRun c .feedLost s) else s

/-- The door timeout (R46). -/
def doorTimeoutEnd (c : Cavity) (s : State) : State :=
  if (s.runs.get c).doorSuspended then settle c (pause c .door s) else s

/-! ## Prompt reports (R32, R49) -/

/-- An answer or CONTINUE timeout of a recipe prompt (R32). -/
def recipeAnswered (c : Cavity) (placement : Placement) (s : State) : State :=
  let r := s.runs.get c
  match placement with
  | .before =>
    if r.state = .paused then modRun c (fun r => { r with deferred := true }) s
    else if r.state = .running then settle c (leaveEntry c s) else s
  | .after =>
    if r.state = .paused then modRun c (fun r => { r with deferred := true }) s
    else if r.state = .running ∧ r.phase = some .exitPrompt then settle c (stepEnd c s) else s
  | .notice | .device => s

/-- A run PAUSED for its probe is resumed by the answer of INSERT_PROBE (R49). -/
def resumeForProbe (c : Cavity) (s : State) : State :=
  if (s.runs.get c).state = .paused ∧ (s.runs.get c).pauseReason = some .probe then resume c s else s

/-- The step that the probe inputs act on (R49): HEATUP or HOLD, with a core target, in RUNNING or PAUSED. -/
def probeStep (r : Run) : Bool :=
  (decide (r.state = .running) || decide (r.state = .paused)) && inHeatOrHold r
    && (r.current.bind (·.action.core)).isSome

/-- ACK_PROMPT of INSERT_PROBE (R49). -/
def probePromptAcked (c : Cavity) (s : State) : State :=
  let r := s.runs.get c
  let s :=
    if probeStep r ∧ r.coreCond = some .waitingProbe ∧ probeUsable c s = false then
      modRun c (fun r => { r with coreCond := some .dropped }) s
    else s
  resumeForProbe c s

/-- A probe removal, or a core sensor fault, at the sequencer (R49). -/
def probeLost (c : Cavity) (s : State) : State :=
  let r := s.runs.get c
  if probeStep r ∧ r.coreCond = some .live then
    if (r.current.bind (·.action.duration)).isSome then modRun c (fun r => { r with coreCond := some .suspended }) s
    else
      let s := raiseDevice (cavityOwner c) 243 (modRun c (fun r => { r with coreCond := some .waitingProbe }) s)
      if r.state = .running then settle c (pause c .probe s) else s
  else s

/-- A probe insertion, or a core sensor fault cleared, at the sequencer (R49). -/
def probeFound (c : Cavity) (s : State) : State :=
  let r := s.runs.get c
  if probeStep r ∧ (r.coreCond = some .suspended ∨ r.coreCond = some .waitingProbe) then
    modRun c (fun r => { r with coreCond := some .live }) s
  else s

/-! ## Overlays (R45, R47) -/

/-- A door-open event at the sequencer (R45). -/
def doorOverlay (c : Cavity) (s : State) : State :=
  settle c (modRun c (fun r =>
    if r.state = .running ∨ r.state = .starved then { r with doorSuspended := true, doorTime := some 0 } else r) s)

/-- A door-close event at the sequencer (R45). -/
def doorLift (c : Cavity) (s : State) : State :=
  settle c (modRun c (fun r => { r with doorSuspended := false, doorTime := none }) s)

/-- The mains-low event at a sequencer (R47). -/
def mainsOverlay (c : Cavity) (s : State) : State :=
  settle c (modRun c (fun r => if r.state = .running ∨ r.state = .starved then { r with mainsHeld := true } else r) s)

/-- The mains-back event at a sequencer (R47). -/
def mainsLift (c : Cavity) (s : State) : State :=
  settle c (modRun c (fun r => { r with mainsHeld := false }) s)

/-- The mains-low expiry at a sequencer (R47). -/
def mainsAbort (c : Cavity) (s : State) : State :=
  if (s.runs.get c).mainsHeld then settle c (abortRun c .mainsLoss s) else s

/-! ## Watches (R44, R71) -/

/-- The watch in a slot (R70): slot 1, else slot 2. -/
def watchOf (slot : Nat) (k : Climate) : Option Watch := if slot = 1 then k.watch1 else k.watch2

/-- Put a watch in a slot or empty it (R70). -/
def setWatchSlot (slot : Nat) (w : Option Watch) (k : Climate) : Climate :=
  if slot = 1 then { k with watch1 := w } else { k with watch2 := w }

/-- A reading, in tenths, trips a watch (R71). -/
def trips (w : Watch) (source : WatchSource) (reading : Nat) : Bool :=
  w.armed && decide (w.source = source)
    && (match w.relation with
        | .atOrAbove => decide (w.value * 10 ≤ reading)
        | .atOrBelow => decide (reading ≤ w.value * 10))

/-- Evaluate one slot on a sample (R71): whether it trips, its disarming and WATCH_TRIP, and its action. -/
def evalWatch (c : Cavity) (slot : Nat) (source : WatchSource) (reading : Nat) (s : State)
    : State × Option WatchAction :=
  match watchOf slot (s.climates.get c) with
  | some w =>
    if trips w source reading then
      (broadcast (.watchTrip c slot source reading w.action)
        (modClimate c (setWatchSlot slot (some { w with armed := false })) s), some w.action)
    else (s, none)
  | none => (s, none)

/-- A report whose action is END_STEP at the sequencer (R44), with what the step's change hands over before the next
report is taken (R22, R94). -/
def watchEnd (c : Cavity) (action : Option WatchAction) (s : State) : State :=
  if action = some .endStep then settle c (tryEnd c s) else s

/-- A report whose action is PAUSE_RUN at the sequencer (R44). -/
def watchPause (c : Cavity) (action : Option WatchAction) (s : State) : State :=
  if action = some .pauseRun then pause c .watch s else s

/-- Evaluate both slots on a sample and act on the reports, END_STEP before PAUSE_RUN (R71, R44; assumption 16). A second
END_STEP of the same sample acts on the step that stands then (assumption 38). -/
def evalWatches (c : Cavity) (source : WatchSource) (reading : Nat) (s : State) : State :=
  let x := evalWatch c 1 source reading s
  let y := evalWatch c 2 source reading x.1
  settle c (watchPause c y.2 (watchPause c x.2 (watchEnd c y.2 (watchEnd c x.2 y.1))))

/-- The core end condition at a delivered core sample (R31). -/
def coreSample (c : Cavity) (reading : Nat) (s : State) : State :=
  let r := s.runs.get c
  match r.current.bind (·.action.core) with
  | some t =>
    if r.coreCond = some .live ∧ counting r = true ∧ t * 10 ≤ reading then settle c (tryEnd c s) else s
  | none => s

end Sys2Proof.Machine
end

