-- ==== Sys2Proof/WellFormed.lean ====
section
/-! DEFINITION. When a command is well formed: its byte lists have the lengths R182 gives, so that a frame can carry
it. An order that is not is still answered (RANGE, R178); an event that is not cannot happen at a pin. -/

namespace Sys2Proof

/-- Bytes of a step record (R175). -/
def recordBytes : Nat := 18

/-- Value bytes of SET_PARAM: seven for CHAIN_ORDER (identifier 0x09), two otherwise (R194). -/
def paramBytes (id : Byte) : Nat := if id = 0x09#8 then 7 else 2

/-- The checks on a command's operands. -/
def WellFormed : Instr → Bool
  | .frameReceived _ bytes => !bytes.isEmpty
  | .loadStep _ _ _ record => record.length == recordBytes
  | .storeStep _ _ record => record.length == recordBytes
  | .storeLabel _ _ length label => label.length == length.toNat
  | .setParam _ _ id value => value.length == paramBytes id
  | .flowPulse gap => decide (1 ≤ gap)
  | .interByteGap _ _ | .replySent _ | .lineBreak _ | .portReset _ _ | .openRun _ _ _ _ _ _ | .closeRun _ _ _
  | .startRun _ _ _ _ | .startLinked _ _ _ | .pauseRun _ _ _ | .resumeRun _ _ _ | .stopRun _ _ _ | .clearRun _ _ _
  | .adoptRun _ _ _ | .skipStep _ _ _ | .adjustStep _ _ _ _ _ _ _ | .setWatch _ _ _ _ _ _ _ _ | .clearWatch _ _ _ _
  | .readRun _ _ _ | .ackPrompt _ _ _ | .readPrompts _ _ | .takeHold _ _ _ | .releaseHold _ _ _ | .drainGen _ _
  | .genReset _ _ | .readGen _ _ | .startDescale _ _ | .abortDescale _ _ | .startRinse _ _ | .readDescale _ _
  | .readWater _ _ | .storeOpen _ _ _ | .storeCommit _ _ | .storeCancel _ _ | .eraseProgram _ _ _
  | .readProgram _ _ _ _ | .readParam _ _ _ | .saveSettings _ _ | .readLoads _ _ | .readSensors _ _
  | .clearLimit _ _ _ | .readCause _ _ | .setCauseMask _ _ _ | .deviceReset _ | .delayExpiry _ | .stepTimeExpiry _
  | .feederTimeout _ | .doorTimeout _ | .regulationUpdate _ | .offIntervalExpiry _ | .onIntervalExpiry _
  | .pairOffExpiry _ | .soakUpdate | .sensorSample _ _ | .probeInsertion _ | .probeRemoval _ | .doorOpen _
  | .doorClose _ | .tankRemoval | .tankInsertion | .limitTrip _ | .limitRelease _ | .mainsLow | .mainsBack
  | .mainsLowExpiry | .holdExpiry _ | .storeWriteComplete _ | .levelHighWet | .levelLowDry _ | .levelLowWet _
  | .fillWatchdogStall | .windowEnd | .idleDrain | .drainComplete | .drainFail | .heatSlow | .quietTimeExpiry
  | .soakTimeExpiry | .promptTimeout _ | .resetHeld | .lineReturnToMark _ => true

end Sys2Proof
end

