-- ==== Sys2Proof/Machine/RunOrders.lean ====
section
/-! DEFINITION. The run orders (R23 to R26, R36 to R43), the watch orders (R70), READ_RUN (R50), READ_LOADS (R90), and
the timed events of runs. -/

namespace Sys2Proof.Machine

/-- The source an OPEN_RUN gives, with its watermark (R17, R182): `none` where check 4 of R23 fails. -/
def openSource (p : Port) (source slot watermark : Byte) : Option Opened :=
  if source = 0 then
    if watermark = 255 then some { source := .stream p, closed := false, watermark := Config.defaultWatermark }
    else if watermark.toNat ≤ 8 then some { source := .stream p, closed := false, watermark := watermark.toNat }
    else none
  else if source = 1 then
    if slot.toNat < Config.programSlots then
      some { source := .program slot.toNat, closed := false, watermark := Config.programWatermark }
    else none
  else none

/-- Open the run (R23): the record and the queue afresh, and the reader's fill (R19). -/
def openWith (c : Cavity) (o : Opened) (s : State) : State :=
  let reader : Option Nat := match o.source with | .program _ => some 0 | .stream _ => none
  let s := modRun c (fun _ => { Run.idle with state := .loading, opened := some o, reader := reader }) s
  let s := modQueue c (fun _ => StepQueue.reset) s
  if reader.isSome then readerRefill c s else s

/-- OPEN_RUN at the sequencer (R23). -/
def openRun (p : Port) (source slot watermark : Byte) (c : Cavity) : Act := fun s =>
  if s.limitLatch.get c then deny .locked s
  else if sensorFaulted (cavitySensor c) s then deny .state s
  else if inProgress (s.runs.get c) then deny .busy s
  else
    match openSource p source slot watermark with
    | none => deny .range s
    | some o =>
      let empty : Bool := match o.source with | .program n => (installed n s).isNone | .stream _ => false
      if empty then deny .state s
      else
        let s := openWith c o s
        (s, .done, .openRun (s.queues.get c).pending.length (isClosed (s.runs.get c)))

/-- A walk of a STARVED run for a LOAD_STEP (R35). No step ends here, so an INSERT_PROBE entry stays in the table
(R159; assumption 43). -/
def starvedWalk (c : Cavity) (s : State) : State :=
  let x := walk walkLimit c s
  match x.2 with
  | some (load, a) =>
    settle c (enterStep c load a (modRun c (fun r => { r with state := .running, starveTime := none }) x.1))
  | none => x.1

/-- LOAD_STEP at the sequencer and the queue (R24, R8, R35). -/
def loadStep (p : Port) (record : List Byte) (c : Cavity) : Act := fun s =>
  let r := s.runs.get c
  if feederOf r ≠ some p then deny .notFeeder s
  else if r.state = .paused ∨ r.state = .finished ∨ r.state = .aborted ∨ isClosed r = true then deny .state s
  else
    match acceptRecord record with
    | none => deny .range s
    | some x =>
      if Config.queueSlots ≤ occupied (s.queues.get c) then (s, .full, .full 0)
      else
        let load := (s.queues.get c).nextLoad
        let s := append c x s
        let free := freeSlots (s.queues.get c)
        (if r.state = .starved then starvedWalk c s else s, .done, .loadStep load free)

/-- CLOSE_RUN at the sequencer (R24, R35). -/
def closeRun (p : Port) (c : Cavity) : Act := fun s =>
  let r := s.runs.get c
  if feederOf r ≠ some p then deny .notFeeder s
  else if r.state = .paused ∨ r.state = .finished ∨ r.state = .aborted then deny .state s
  else if isClosed r then doneAfter id s
  else if r.state = .starved then doneAfter (fun s => settle c (finish c (clearStepPrompts c (close c s)))) s
  else doneAfter (close c) s

/-- START_RUN at the sequencer (R25). -/
def startRun (delay : Half) (c : Cavity) : Act := fun s =>
  if (s.runs.get c).state = .loading ∧ hasAction c s = true then
    doneAfter (fun s =>
      let s := startRefill c s
      if delay = 0 then enterRunning c s else enterDelayed c delay.toNat false s) s
  else deny .state s

/-- START_LINKED at the sequencers (R26): cavity A is taken whole before cavity B (R17; assumption 16). -/
def startLinked (delay : Half) : Act := fun s =>
  if (s.runs.a.state = .loading ∧ hasAction .A s = true) ∧ (s.runs.b.state = .loading ∧ hasAction .B s = true) then
    doneAfter (fun s =>
      if delay = 0 then enterRunning .B (startRefill .B (enterRunning .A (startRefill .A s)))
      else
        enterDelayed .B delay.toNat true (startRefill .B (enterDelayed .A delay.toNat true (startRefill .A s)))) s
  else deny .state s

/-- PAUSE_RUN at the sequencer (R37). -/
def pauseRun (c : Cavity) : Act := fun s =>
  match (s.runs.get c).state with
  | .running | .starved => doneAfter (fun s => settle c (pause c .order s)) s
  | .paused => doneAfter id s
  | .idle | .loading | .delayed | .finished | .aborted => deny .state s

/-- RESUME_RUN at the sequencer (R39). -/
def resumeRun (c : Cavity) : Act := fun s =>
  if (s.runs.get c).state = .paused then doneAfter (resume c) s else deny .state s

/-- Return to IDLE; the denial reason stays (R40; assumption 28). -/
def toIdle (c : Cavity) (s : State) : State := modRun c (fun r => { Run.idle with denial := r.denial }) s

/-- STOP_RUN at the sequencer (R40). -/
def stopRun (c : Cavity) : Act := fun s =>
  match (s.runs.get c).state with
  | .loading => doneAfter (fun s => settle c (toIdle c (endRun c .idle none s))) s
  | .delayed | .running | .starved | .paused => doneAfter (fun s => settle c (abortRun c .stop s)) s
  | .idle | .finished | .aborted => deny .state s

/-- CLEAR_RUN at the sequencer (R40). -/
def clearRun (c : Cavity) : Act := fun s =>
  match (s.runs.get c).state with
  | .finished | .aborted => doneAfter (toIdle c) s
  | .idle | .loading | .delayed | .running | .starved | .paused => deny .state s

/-- The feeder role moves to a port (R36, R18). -/
def adopt (p old : Port) (c : Cavity) (s : State) : State :=
  let s := modRun c (fun r =>
    { r with opened := r.opened.map (fun o => { o with source := .stream p }), starveTime := some 0 }) s
  let s := post old (.feedMoved c p) s
  if isOpen (s.runs.get c) ∧ runsLow c s = true then requestRefill c s else s

/-- ADOPT_RUN at the sequencer (R36). -/
def adoptRun (p : Port) (c : Cavity) : Act := fun s =>
  let r := s.runs.get c
  match feederOf r with
  | none => deny .state s
  | some old =>
    if r.state ≠ .starved then deny .state s
    else if old = p then doneAfter id s
    else doneAfter (adopt p old c) s

/-- The effect of SKIP_STEP by phase (R42). -/
def skipEffect (c : Cavity) (s : State) : State :=
  match (s.runs.get c).phase with
  | some .heatup | some .hold => endCondition c s
  | some .entryPrompt => endCondition c (cancelPrompt (cavityOwner c) s)
  | some .exitPrompt => stepEnd c (cancelPrompt (cavityOwner c) s)
  | none => s

/-- SKIP_STEP at the sequencer (R42). -/
def skipStep (c : Cavity) : Act := fun s =>
  let r := s.runs.get c
  if r.state = .running then (settle c (skipEffect c s), .done, .skipStep (stepLoad r)) else deny .state s

/-- What an ADJUST_STEP gives: each part absent or present (R43, R182). -/
structure Adjustment where
  target : Option Nat
  remaining : Option Nat
  steam : Option Nat
  deriving DecidableEq, Repr

/-- The parts by the presence byte (R182); `none` when another bit is set or no part is given (R43). -/
def adjustmentOf (presence target : Byte) (remaining : Half) (steam : Byte) : Option Adjustment :=
  if presence.toNat = 0 ∨ 8 ≤ presence.toNat then none
  else
    some
      { target := if presence.getLsbD 0 then some target.toNat else none
        remaining := if presence.getLsbD 1 then some remaining.toNat else none
        steam := if presence.getLsbD 2 then some steam.toNat else none }

/-- The range checks of R43 on the parts given. -/
def adjustmentOk (heat : HeatMode) (a : Adjustment) : Bool :=
  optIn 30 250 a.target && (a.target.isNone || decide (heat ≠ .noHeat)) && optIn 1 65535 a.remaining
    && (match a.steam with | none => true | some n => steamOk n)

/-- The current step's copy and the remaining time after an adjustment (R43). -/
def adjustRecord (a : Adjustment) (r : Run) : Run :=
  { r with
    current := r.current.map (fun step =>
      { step with
        action := { step.action with
          target := if a.target.isSome then a.target else step.action.target
          steam := a.steam.getD step.action.steam
          duration :=
            if a.remaining.isSome ∧ step.action.duration.isNone then a.remaining else step.action.duration
          basis :=
            if a.remaining.isSome ∧ step.action.duration.isNone then some .fromStart else step.action.basis } })
    remaining := match a.remaining with | some n => some (n * Config.second) | none => r.remaining }

/-- The whole of an accepted adjustment (R43, R55). -/
def adjust (c : Cavity) (a : Adjustment) (s : State) : State :=
  let s := modRun c (adjustRecord a) s
  settle c (match a.target with | some t => climateAdjust c t s | none => s)

/-- ADJUST_STEP at the sequencer (R43; assumption 24). -/
def adjustStep (presence target : Byte) (remaining : Half) (steam : Byte) (c : Cavity) : Act := fun s =>
  let r := s.runs.get c
  match r.current with
  | none => deny .state s
  | some step =>
    if underway r then
      match adjustmentOf presence target remaining steam with
      | none => deny .range s
      | some a =>
        if adjustmentOk step.action.heat a then
          if a.remaining.isSome ∧ (r.state = .starved ∨ r.phase = some .exitPrompt) then deny .state s
          else doneAfter (adjust c a) s
        else deny .range s
    else deny .state s

/-- A watch slot number (R70). -/
def watchSlotOk (slot : Byte) : Bool := decide (slot = 1 ∨ slot = 2)

/-- The greatest value of a watch (R70). -/
def watchMax : WatchSource → Nat
  | .cavity => 300
  | .core => 120

/-- SET_WATCH at the climate loop (R70). -/
def setWatch (slot source relation : Byte) (value : Half) (action : Byte) (c : Cavity) : Act := fun s =>
  match watchSourceOf? source, watchRelationOf? relation, watchActionOf? action with
  | some src, some rel, some act =>
    if watchSlotOk slot = true ∧ value.toNat ≤ watchMax src then
      doneAfter (modClimate c (setWatchSlot slot.toNat (some
        { source := src, relation := rel, value := value.toNat, action := act, armed := true }))) s
    else deny .range s
  | _, _, _ => deny .range s

/-- CLEAR_WATCH at the climate loop (R70). -/
def clearWatch (slot : Byte) (c : Cavity) : Act := fun s =>
  if watchSlotOk slot then doneAfter (modClimate c (setWatchSlot slot.toNat none)) s else deny .range s

/-- The kind of a record (R20). -/
def kindOf : Record → RecordKind
  | .action _ => .action
  | .mark => .mark
  | .rep _ => .rep

/-- The records of a queue in queue order (R20). -/
def queueItems (q : StepQueue) : List QueueItem :=
  q.retained.map (fun k => { load := k.load, kind := .action, retained := true })
    ++ q.pending.map (fun x => { load := x.load, kind := kindOf x.record, retained := false })

/-- The results of READ_RUN (R50, R20, R70). -/
def runReport (c : Cavity) (s : State) : RunReport :=
  let r := s.runs.get c
  let q := s.queues.get c
  let k := s.climates.get c
  { state := r.state
    opened := r.opened
    pauseReason := r.pauseReason
    abortReason := r.abortReason
    delay := r.delay.map secondsLeft
    starveTime := r.starveTime.map wholeSeconds
    load := r.current.map (·.load)
    record := r.current.map (fun step => encodeRecord (.action step.action))
    phase := r.phase
    remaining := r.remaining.map secondsLeft
    coreCond := r.coreCond
    denial := r.denial
    doorSuspended := r.doorSuspended
    mainsHeld := r.mainsHeld
    doorTime := r.doorTime.map wholeSeconds
    setpoint := k.loop.map (·.setpoint / 10)
    reading := (s.sensors.get (cavitySensor c)).reading
    pendingCount := q.pending.length
    retainedCount := q.retained.length
    free := freeSlots q
    mark := q.mark
    loop := q.loop
    items := queueItems q
    watch1 := k.watch1
    watch2 := k.watch2 }

/-- READ_RUN at the sequencer (R50). -/
def readRun (c : Cavity) : Act := fun s => (s, .done, .run (runReport c s))

/-- The pair of a load that is a top element under ALTERNATE (R90). -/
def topPair (l : Load) (s : State) : Option Pair :=
  match pairSeat l with
  | some (c, true) => if (s.pairs.get c).paired then some (s.pairs.get c) else none
  | some (_, false) | none => none

/-- One load of READ_LOADS at a chain position (R90). -/
def loadReport (position : Nat) (l : Load) (s : State) : LoadReport :=
  let t := s.timers.get l
  { load := l
    rating := s.settings.rating.get l
    position := position
    status := s.arbiter.get l
    frozen := t.frozen
    interval := t.interval
    on := t.on
    off := t.off
    pairOff := (topPair l s).map (·.offHold)
    pairPosition := (topPair l s).bind (·.position)
    remaining := t.remaining
    output := loadOutput l s
    waited := t.waited }

/-- The loads from a chain position on (R90). -/
def loadReports : Nat → List Load → State → List LoadReport
  | _, [], _ => []
  | n, l :: ls, s => loadReport n l s :: loadReports (n + 1) ls s

/-- READ_LOADS at the arbiter (R90). -/
def readLoads : Act := fun s =>
  (s, .done, .loads
    { loads := loadReports 1 s.settings.chain s
      budget := s.settings.budget
      grantedSum := grantedSum s
      breakLoad := breakLoad s
      mainsLow := s.mains.low
      demandA := s.climates.a.demand
      demandB := s.climates.b.demand })

/-! ## The commands -/

/-- OPEN_RUN (R23). -/
def execOpenRun (p : Port) (seq cavity source slot watermark : Byte) (s : State) : Host.Outcome State Fault Refusal :=
  event (cavityOrder p seq 0x10 cavity noHold (openRun p source slot watermark)) s

/-- LOAD_STEP (R8, R24). -/
def execLoadStep (p : Port) (seq cavity : Byte) (record : List Byte) (s : State) : Host.Outcome State Fault Refusal :=
  event (takeFrame p seq 0x11 (counted (record.length == recordBytes) (cavityAct p cavity noHold (loadStep p record)))) s

/-- CLOSE_RUN (R24). -/
def execCloseRun (p : Port) (seq cavity : Byte) (s : State) : Host.Outcome State Fault Refusal :=
  event (cavityOrder p seq 0x12 cavity noHold (closeRun p)) s

/-- START_RUN (R25). -/
def execStartRun (p : Port) (seq cavity : Byte) (delay : Half) (s : State) : Host.Outcome State Fault Refusal :=
  event (cavityOrder p seq 0x13 cavity noHold (startRun delay)) s

/-- START_LINKED (R26). -/
def execStartLinked (p : Port) (seq : Byte) (delay : Half) (s : State) : Host.Outcome State Fault Refusal :=
  event (order p seq 0x14 none (startLinked delay)) s

/-- PAUSE_RUN (R37). -/
def execPauseRun (p : Port) (seq cavity : Byte) (s : State) : Host.Outcome State Fault Refusal :=
  event (cavityOrder p seq 0x15 cavity noHold pauseRun) s

/-- RESUME_RUN (R39). -/
def execResumeRun (p : Port) (seq cavity : Byte) (s : State) : Host.Outcome State Fault Refusal :=
  event (cavityOrder p seq 0x16 cavity noHold resumeRun) s

/-- STOP_RUN (R40). -/
def execStopRun (p : Port) (seq cavity : Byte) (s : State) : Host.Outcome State Fault Refusal :=
  event (cavityOrder p seq 0x17 cavity noHold stopRun) s

/-- CLEAR_RUN (R40). -/
def execClearRun (p : Port) (seq cavity : Byte) (s : State) : Host.Outcome State Fault Refusal :=
  event (cavityOrder p seq 0x18 cavity noHold clearRun) s

/-- ADOPT_RUN (R36). -/
def execAdoptRun (p : Port) (seq cavity : Byte) (s : State) : Host.Outcome State Fault Refusal :=
  event (cavityOrder p seq 0x19 cavity noHold (adoptRun p)) s

/-- SKIP_STEP (R42). -/
def execSkipStep (p : Port) (seq cavity : Byte) (s : State) : Host.Outcome State Fault Refusal :=
  event (cavityOrder p seq 0x1A cavity needEdit skipStep) s

/-- ADJUST_STEP (R43). -/
def execAdjustStep (p : Port) (seq cavity presence target : Byte) (remaining : Half) (steam : Byte) (s : State) :
    Host.Outcome State Fault Refusal :=
  event (cavityOrder p seq 0x1B cavity needEdit (adjustStep presence target remaining steam)) s

/-- SET_WATCH (R70). -/
def execSetWatch (p : Port) (seq cavity slot source relation : Byte) (value : Half) (action : Byte) (s : State) :
    Host.Outcome State Fault Refusal :=
  event (cavityOrder p seq 0x1C cavity needEdit (setWatch slot source relation value action)) s

/-- CLEAR_WATCH (R70). -/
def execClearWatch (p : Port) (seq cavity slot : Byte) (s : State) : Host.Outcome State Fault Refusal :=
  event (cavityOrder p seq 0x1D cavity needEdit (clearWatch slot)) s

/-- READ_RUN (R50). -/
def execReadRun (p : Port) (seq cavity : Byte) (s : State) : Host.Outcome State Fault Refusal :=
  event (cavityOrder p seq 0x1E cavity noHold readRun) s

/-- READ_LOADS (R90). -/
def execReadLoads (p : Port) (seq : Byte) (s : State) : Host.Outcome State Fault Refusal :=
  event (order p seq 0x58 none readLoads) s

/-- DELAY_EXPIRY (R27). -/
def execDelayExpiry (c : Cavity) (s : State) : Host.Outcome State Fault Refusal := event (delayExpiry c) s

/-- STEP_TIME_EXPIRY (R30). -/
def execStepTimeExpiry (c : Cavity) (s : State) : Host.Outcome State Fault Refusal := event (stepTimeEnd c) s

/-- FEEDER_TIMEOUT (R34). -/
def execFeederTimeout (c : Cavity) (s : State) : Host.Outcome State Fault Refusal := event (feederEnd c) s

/-- DOOR_TIMEOUT (R46). -/
def execDoorTimeout (c : Cavity) (s : State) : Host.Outcome State Fault Refusal := event (doorTimeoutEnd c) s

end Sys2Proof.Machine
end

