-- ==== Sys2Proof/Machine/Prompts.lean ====
section
/-! DEFINITION. The prompt table's answers and timeouts (R156 to R160). -/

namespace Sys2Proof.Machine

/-- The cavity an owner stands for. -/
def ownerCavity : Owner → Option Cavity
  | .cavityA => some .A
  | .cavityB => some .B
  | .generator | .descaler => none

/-- Report an answer of a removed entry to its owner (R156): by ACK_PROMPT, by an input, or a CONTINUE timeout. -/
def reportAnswer (o : Owner) (e : Prompt) (s : State) : State :=
  match ownerCavity o with
  | some c => recipeAnswered c e.placement s
  | none => if o = .generator then refillAnswered s else descaleAnswered s

/-- Answer an entry (R156, R157): it is removed, PROMPT_CLEARED is posted, and the owner told. -/
def answerPrompt (o : Owner) (reason : ClearReason) (s : State) : State :=
  match s.prompts.get o with
  | some e => reportAnswer o e (removePrompt o reason s)
  | none => s

/-- An ACK_PROMPT of an entry (R156); of an INSERT_PROBE entry, R49 says what follows. -/
def ackEntry (o : Owner) (e : Prompt) (p : Port) (s : State) : State :=
  match ownerCavity o with
  | some c => if probeAck e then probePromptAcked c (removePrompt o (.ack p) s) else answerPrompt o (.ack p) s
  | none => answerPrompt o (.ack p) s

/-- The owner of the entry with an id (R156). -/
def ownerOfId (id : Nat) (s : State) : Option (Owner × Prompt) :=
  let has (o : Owner) : Option (Owner × Prompt) :=
    match s.prompts.get o with
    | some e => if e.id = id then some (o, e) else none
    | none => none
  (has .cavityA).or ((has .cavityB).or ((has .generator).or (has .descaler)))

/-- ACK_PROMPT at the prompt table (R156). -/
def ackPrompt (p : Port) (id : Half) : Act := fun s =>
  if id = 0 then deny .tooLate s
  else
    match ownerOfId id.toNat s with
    | some (o, e) => doneAfter (ackEntry o e p) s
    | none => deny .tooLate s

/-- A door-open event at the prompt table (R157). -/
def doorOpenPrompt (c : Cavity) (s : State) : State :=
  match s.prompts.get (cavityOwner c) with
  | some e => setPrompt (cavityOwner c) (some { e with doorOpened := true }) s
  | none => s

/-- A door-close event at the prompt table (R157). -/
def doorClosePrompt (c : Cavity) (s : State) : State :=
  match s.prompts.get (cavityOwner c) with
  | some e => if e.doorAck ∧ e.doorOpened then answerPrompt (cavityOwner c) .door s else s
  | none => s

/-- A tank removal at one entry (R157). -/
def tankMark (o : Owner) (s : State) : State :=
  match s.prompts.get o with
  | some e => if tankAck e then setPrompt o (some { e with tankRemoved := true }) s else s
  | none => s

/-- A tank insertion at one entry (R157). -/
def tankAnswer (o : Owner) (s : State) : State :=
  match s.prompts.get o with
  | some e => if tankAck e = true ∧ e.tankRemoved = true then answerPrompt o .tank s else s
  | none => s

/-- A probe insertion, or the clearing of a core sensor fault, at the prompt table (R157, R49). -/
def probeAnswer (c : Cavity) (s : State) : State :=
  match s.prompts.get (cavityOwner c) with
  | some e => if probeAck e then resumeForProbe c (removePrompt (cavityOwner c) .probe s) else s
  | none => s

/-- A timeout with PAUSE (R158, R32). -/
def timeoutPause (o : Owner) (e : Prompt) (s : State) : State :=
  let s := setPrompt o (some { e with timedOut := true, timeout := none }) s
  match ownerCavity o with
  | some c => settle c (pause c .prompt s)
  | none => s

/-- A timeout with ABORT (R158, R41). -/
def timeoutAbort (o : Owner) (s : State) : State :=
  let s := removePrompt o .timeout s
  match ownerCavity o with
  | some c => settle c (abortInProgress c .prompt s)
  | none => s

/-- A prompt times out (R158): only an entry whose timeout is counting. -/
def promptTimeout (o : Owner) (s : State) : State :=
  match s.prompts.get o with
  | some e =>
    if e.timeout.isSome then
      match e.onTimeout with
      | some .abort => timeoutAbort o s
      | some .pause => if e.placement = .notice then answerPrompt o .timeout s else timeoutPause o e s
      | some .cont | none => answerPrompt o .timeout s
    else s
  | none => s

/-- The report of an entry (R160). -/
def promptReport (o : Owner) (s : State) : List PromptReport :=
  match s.prompts.get o with
  | some e =>
    [{ id := e.id, owner := o, code := e.code, placement := e.placement, doorAck := e.doorAck
       doorOpened := e.doorOpened, tankAck := tankAck e, tankRemoved := e.tankRemoved, probeAck := probeAck e
       timeout := e.timeout.map secondsLeft, onTimeout := e.onTimeout, timedOut := e.timedOut }]
  | none => []

/-- READ_PROMPTS at the prompt table (R160). -/
def readPrompts : Act := fun s =>
  (s, .done, .prompts s.promptCounter
    (promptReport .cavityA s ++ promptReport .cavityB s ++ promptReport .generator s ++ promptReport .descaler s))

/-- ACK_PROMPT (R156). -/
def execAckPrompt (p : Port) (seq : Byte) (id : Half) (s : State) : Host.Outcome State Fault Refusal :=
  event (order p seq 0x20 none (ackPrompt p id)) s

/-- READ_PROMPTS (R160). -/
def execReadPrompts (p : Port) (seq : Byte) (s : State) : Host.Outcome State Fault Refusal :=
  event (order p seq 0x21 none readPrompts) s

/-- PROMPT_TIMEOUT (R158). -/
def execPromptTimeout (o : Owner) (s : State) : Host.Outcome State Fault Refusal := event (promptTimeout o) s

end Sys2Proof.Machine
end

