-- ==== Sys2Proof/Machine/Inputs.lean ====
section
/-! DEFINITION. The sensor and safety block (chapter 9): samples, probes, doors, tank, limits and mains sense. -/

namespace Sys2Proof.Machine

/-! ## Temperature sensors (R161 to R164) -/

/-- The upper limit of a sensor's range in tenths of °C (R161). -/
def sensorMax : Sensor → Int
  | .cavTempA | .cavTempB => 3000
  | .coreA | .coreB => 1200
  | .genTemp => 1600

/-- The reading of a sample in range (R162); `none` for one out of range. -/
def inRangeReading (x : Sensor) : Sample → Option Nat
  | .tenths t => if 0 ≤ t ∧ t ≤ sensorMax x then some t.toNat else none
  | .openOrShorted => none

/-- What a sample does to a sensor's record (R162 to R164). -/
inductive SampleResult | nothing | delivered | faulted | cleared
  deriving DecidableEq, Repr

/-- The run time at this sample: 250 ms more than at the last one, held at the time that ends the run (assumption 13). -/
def runTimeNow (limit : Nat) (r : SensorRecord) : Option Nat :=
  r.runTime.map (fun t => min limit (t + Config.samplePeriod))

/-- The record after a sample and what it brings (R162 to R164). -/
def sampleRecord (v : Option Nat) (r : SensorRecord) : SensorRecord × SampleResult :=
  match r.status with
  | .absent => (r, .nothing)
  | .valid =>
    match v with
    | some t => ({ r with reading := some t, inRange := true }, .delivered)
    | none => ({ r with status := .suspect, runTime := some 0, inRange := false }, .nothing)
  | .suspect =>
    match v with
    | some t => ({ status := .valid, reading := some t, runTime := none, inRange := true }, .delivered)
    | none =>
      if runTimeNow 1000 r = some 1000 then
        ({ status := .faulted, reading := none, runTime := none, inRange := false }, .faulted)
      else ({ r with runTime := runTimeNow 1000 r, inRange := false }, .nothing)
  | .faulted =>
    match v with
    | none => ({ r with runTime := none, inRange := false }, .nothing)
    | some t =>
      if runTimeNow 5000 r = some 5000 then
        ({ status := .valid, reading := some t, runTime := none, inRange := true }, .cleared)
      else ({ r with runTime := some ((runTimeNow 5000 r).getD 0), inRange := true }, .nothing)

/-- Hand a delivered sample to the sensor's users (R162): the approach test before the watches, the core end
condition before the watches (assumption 16). -/
def deliver (x : Sensor) (t : Nat) (s : State) : State :=
  match x with
  | .cavTempA => evalWatches .A .cavity t (approachSample .A t s)
  | .cavTempB => evalWatches .B .cavity t (approachSample .B t s)
  | .coreA => evalWatches .A .core t (coreSample .A t s)
  | .coreB => evalWatches .B .core t (coreSample .B t s)
  | .genTemp => genSample t s

/-- Hand a sensor fault to the sensor's users (R163). -/
def handFault (x : Sensor) (s : State) : State :=
  match x with
  | .cavTempA => settle .A (abortInProgress .A .sensor s)
  | .cavTempB => settle .B (abortInProgress .B .sensor s)
  | .coreA => probeLost .A s
  | .coreB => probeLost .B s
  | .genTemp => genFault .sensor s

/-- Hand the clearing of a fault to the sensor's users (R164). -/
def handClear (x : Sensor) (s : State) : State :=
  match x with
  | .coreA => probeAnswer .A (probeFound .A s)
  | .coreB => probeAnswer .B (probeFound .B s)
  | .cavTempA | .cavTempB | .genTemp => s

/-- One sample of a sensor (R162 to R164). -/
def sensorSample (x : Sensor) (sample : Sample) (s : State) : State :=
  let v := inRangeReading x sample
  let before := ((s.sensors.get x).reading).getD 0
  let out := sampleRecord v (s.sensors.get x)
  let s := modSensor x (fun _ => out.1) s
  match out.2 with
  | .nothing => s
  | .delivered => deliver x (v.getD 0) s
  | .faulted => handFault x (broadcast (.sensorFault x false before) s)
  | .cleared => deliver x (v.getD 0) (handClear x (broadcast (.sensorFault x true (v.getD 0)) s))

/-! ## Probes (R165) -/

/-- An accepted probe insertion (R165). -/
def probeInsertion (c : Cavity) (s : State) : State :=
  if s.probePresent.get c then s
  else
    let s := modSensor (coreSensor c) (fun r => { r with status := .valid, reading := none, runTime := none })
      { s with probePresent := s.probePresent.set c true }
    probeAnswer c (probeFound c (broadcast (.probeChange c true) s))

/-- An accepted probe removal (R165). -/
def probeRemoval (c : Cavity) (s : State) : State :=
  if s.probePresent.get c then
    let s := modSensor (coreSensor c) (fun r => { r with status := .absent, reading := none, runTime := none })
      { s with probePresent := s.probePresent.set c false }
    probeLost c (broadcast (.probeChange c false) s)
  else s

/-! ## Doors and tank (R166, R167) -/

/-- An accepted door-open (R166): the sequencer, then the prompt table. -/
def doorOpen (c : Cavity) (s : State) : State :=
  if s.doorOpen.get c then s
  else
    let s := broadcast (.doorChange c true) { s with doorOpen := s.doorOpen.set c true }
    doorOpenPrompt c (doorOverlay c s)

/-- An accepted door-close (R166): the sequencer, then the prompt table. -/
def doorClose (c : Cavity) (s : State) : State :=
  if s.doorOpen.get c then
    let s := broadcast (.doorChange c false) { s with doorOpen := s.doorOpen.set c false }
    doorClosePrompt c (doorLift c s)
  else s

/-- An accepted tank removal (R167): the generator, then the prompt table. -/
def tankRemoval (s : State) : State :=
  if s.tankPresent then
    tankMark .descaler (tankMark .generator (tankRemovedAtGen { s with tankPresent := false }))
  else s

/-- An accepted tank insertion (R167). -/
def tankInsertion (s : State) : State :=
  if s.tankPresent then s else tankAnswer .descaler (tankAnswer .generator { s with tankPresent := true })

/-! ## Limits (R168, R169) -/

/-- A limit trip (R168): the latch, LIMIT_TRIP, the abort, and the freezing of the timers. -/
def limitTrip (c : Cavity) (s : State) : State :=
  if s.limitActive.get c then s
  else
    let s := { s with limitActive := s.limitActive.set c true, limitLatch := s.limitLatch.set c true }
    settle c (abortInProgress c .limit (broadcast (.limitTrip c) s))

/-- The limit input falls back (R168): the latch stays. -/
def limitRelease (c : Cavity) (s : State) : State := { s with limitActive := s.limitActive.set c false }

/-- CLEAR_LIMIT at the safety block (R169). -/
def clearLimit (c : Cavity) : Act := fun s =>
  if s.limitActive.get c then deny .state s
  else doneAfter (fun s => settle c { s with limitLatch := s.limitLatch.set c false }) s

/-! ## Mains sense (R170, R171) -/

/-- The mains-low event (R170): the arbiter withdraws every grant, the sequencers take up mains-held,
A before B (assumption 16). -/
def mainsLow (s : State) : State :=
  if s.mains.low then s
  else
    let s := { s with mains := { low := true, lowTime := some 0, expiryGiven := false } }
    mainsOverlay .B (mainsOverlay .A (withdrawAll allLoads (broadcast .mainsLow s)))

/-- The mains-back event (R170, R83): one grant decision, then the sequencers, A before B (assumption 16). -/
def mainsBack (s : State) : State :=
  if s.mains.low then
    let s := { s with mains := { low := false, lowTime := none, expiryGiven := false } }
    mainsLift .B (mainsLift .A (grantDecision (broadcast .mainsBack s)))
  else s

/-- A procedure is aborted by the mains-low expiry (R138). -/
def mainsAbortProcedure (s : State) : State := if s.proc.phase = .idle then s else abortProcedure .mainsLoss s

/-- The mains-low expiry (R171): run A, run B, then the procedure (assumption 16). -/
def mainsLowExpiry (s : State) : State :=
  if s.mains.low = true ∧ s.mains.expiryGiven = false then
    let s := { s with mains := { low := true, lowTime := some 50, expiryGiven := true } }
    mainsAbortProcedure (mainsAbort .B (mainsAbort .A s))
  else s

/-- READ_SENSORS at the block (R172). -/
def readSensors : Act := fun s =>
  (s, .done, .sensors
    { sensors := s.sensors
      doorOpen := s.doorOpen
      probePresent := s.probePresent
      limitActive := s.limitActive
      limitLatch := s.limitLatch
      tankPresent := s.tankPresent
      mainsLow := s.mains.low
      lowTime := s.mains.lowTime.map wholeSeconds
      expiryGiven := s.mains.expiryGiven })

/-! ## The commands -/

/-- READ_SENSORS (R172). -/
def execReadSensors (p : Port) (seq : Byte) (s : State) : Host.Outcome State Fault Refusal :=
  event (order p seq 0x59 none readSensors) s

/-- CLEAR_LIMIT (R169). -/
def execClearLimit (p : Port) (seq cavity : Byte) (s : State) : Host.Outcome State Fault Refusal :=
  event (cavityOrder p seq 0x5A cavity noHold clearLimit) s

/-- SENSOR_SAMPLE (R162). -/
def execSensorSample (x : Sensor) (sample : Sample) (s : State) : Host.Outcome State Fault Refusal :=
  event (sensorSample x sample) s

/-- PROBE_INSERTION (R165). -/
def execProbeInsertion (c : Cavity) (s : State) : Host.Outcome State Fault Refusal := event (probeInsertion c) s

/-- PROBE_REMOVAL (R165). -/
def execProbeRemoval (c : Cavity) (s : State) : Host.Outcome State Fault Refusal := event (probeRemoval c) s

/-- DOOR_OPEN (R166). -/
def execDoorOpen (c : Cavity) (s : State) : Host.Outcome State Fault Refusal := event (doorOpen c) s

/-- DOOR_CLOSE (R166). -/
def execDoorClose (c : Cavity) (s : State) : Host.Outcome State Fault Refusal := event (doorClose c) s

/-- TANK_REMOVAL (R167). -/
def execTankRemoval (s : State) : Host.Outcome State Fault Refusal := event tankRemoval s

/-- TANK_INSERTION (R167). -/
def execTankInsertion (s : State) : Host.Outcome State Fault Refusal := event tankInsertion s

/-- LIMIT_TRIP (R168). -/
def execLimitTrip (c : Cavity) (s : State) : Host.Outcome State Fault Refusal := event (limitTrip c) s

/-- LIMIT_RELEASE (R168). -/
def execLimitRelease (c : Cavity) (s : State) : Host.Outcome State Fault Refusal := event (limitRelease c) s

/-- MAINS_LOW (R170). -/
def execMainsLow (s : State) : Host.Outcome State Fault Refusal := event mainsLow s

/-- MAINS_BACK (R170). -/
def execMainsBack (s : State) : Host.Outcome State Fault Refusal := event mainsBack s

/-- MAINS_LOW_EXPIRY (R171). -/
def execMainsLowExpiry (s : State) : Host.Outcome State Fault Refusal := event mainsLowExpiry s

end Sys2Proof.Machine
end

