-- ==== Sys2Proof/Machine/StoreOrders.lean ====
section
/-! DEFINITION. The recipe store's orders and the completion of its writes (R145 to R153, R197). -/

namespace Sys2Proof.Machine

/-- The slot is protected against the port (R145). -/
def fenced (p : Port) (slot : Nat) (s : State) : Bool := isProtected slot s && decide (p ≠ .service)

/-- Discard the staging buffer (R147). -/
def discardStaging (s : State) : State := { s with staging := none }

/-- STORE_OPEN at the store (R147). -/
def storeOpen (p : Port) (slot : Byte) : Act := fun s =>
  if Config.programSlots ≤ slot.toNat then deny .range s
  else if fenced p slot.toNat s then deny .fence s
  else doneAfter (fun s => { s with staging := some { slot := slot.toNat, label := [], records := [] } }) s

/-- STORE_LABEL at the store (R148). -/
def storeLabel (label : List Byte) : Act := fun s =>
  match s.staging with
  | none => deny .state s
  | some b =>
    if Config.labelBytes < label.length then deny .range s
    else doneAfter (fun s => { s with staging := some { b with label := label } }) s

/-- STORE_STEP at the store (R148). -/
def storeStep (record : List Byte) : Act := fun s =>
  match s.staging with
  | none => deny .state s
  | some b =>
    match acceptRecord record with
    | none => deny .range s
    | some r =>
      if Config.programRecords ≤ b.records.length then deny .full s
      else
        ({ s with staging := some { b with records := b.records ++ [r] } }, .done, .staged (b.records.length + 1))

/-- STORE_CANCEL at the store (R148): DONE with the buffer closed too. -/
def storeCancel : Act := doneAfter discardStaging

/-- Every loop body holds at most 14 ACTION records (R149, check 4): the records from the front, with the number of
ACTION records since the nearest MARK, if there is one (a REPEAT between is passed over, assumption 37). -/
def bodiesFit : Option Nat → List Record → Bool
  | _, [] => true
  | body, .action _ :: rs => bodiesFit (body.map (· + 1)) rs
  | _, .mark :: rs => bodiesFit (some 0) rs
  | body, .rep _ :: rs =>
    (match body with | some n => decide (n ≤ Config.loopBodyRecords) | none => true) && bodiesFit body rs

/-- The pool has room for a program in a slot (R149, check 6). -/
def poolFits (slot count : Nat) (s : State) : Bool :=
  decide (count + projectedUse s ≤ Config.poolRecords + recordCount (projected slot s))

/-- STORE_COMMIT at the store (R149). -/
def storeCommit (p : Port) : Act := fun s =>
  match s.staging with
  | none => deny .state s
  | some b =>
    if fenced p b.slot s then deny .fence s
    else if b.records.isEmpty then deny .state s
    else if bodiesFit none b.records = false then deny .loopTooLong s
    else if 0 < useCount b.slot s then deny .inUse s
    else if poolFits b.slot b.records.length s = false then deny .poolFull s
    else if Config.portWrites ≤ portWriteCount s then deny .storeBusy s
    else
      doneAfter (fun s =>
        enqueue (.commit b.slot { label := b.label, records := b.records } p) (discardStaging s)) s

/-- ERASE_PROGRAM at the store (R150). -/
def eraseProgram (p : Port) (slot : Byte) : Act := fun s =>
  if Config.programSlots ≤ slot.toNat then deny .range s
  else if fenced p slot.toNat s then deny .fence s
  else if (projected slot.toNat s).isNone then deny .state s
  else if 0 < useCount slot.toNat s then deny .inUse s
  else if Config.portWrites ≤ portWriteCount s then deny .storeBusy s
  else doneAfter (enqueue (.erase slot.toNat p)) s

/-- SAVE_SETTINGS at the store (R197). -/
def saveSettings (p : Port) : Act := fun s =>
  if Config.portWrites ≤ portWriteCount s then deny .storeBusy s else doneAfter (enqueue (.settings s.settings p)) s

/-! ## READ_PROGRAM (R151) -/

/-- A label in 16 bytes, unused bytes 0 (R151). -/
def paddedLabel (label : List Byte) : List Byte := (label ++ List.replicate Config.labelBytes 0).take Config.labelBytes

/-- The records of a slot's content. -/
def recordsOf (x : Option Program) : List Record := (x.map (·.records)).getD []

/-- The label of a slot's content. -/
def labelOf (x : Option Program) : List Byte := (x.map (·.label)).getD []

/-- The results of READ_PROGRAM(slot, first) (R151): at most five records. -/
def slotPage (slot first : Nat) (s : State) : List Byte :=
  let x := installed slot s
  let records := recordsOf x
  let page := (records.drop first).take 5
  let next := if first + page.length < records.length then toByte (first + page.length) else 255
  [toByte (labelOf x).length] ++ paddedLabel (labelOf x)
    ++ [toByte records.length, toByte (useCount slot s), yesByte (isProtected slot s), yesByte (writePending slot s), next]
    ++ page.flatMap encodeRecord

/-- One slot of the directory (R151): 21 bytes. -/
def directoryEntry (s : State) (slot : Nat) : List Byte :=
  let x := installed slot s
  [toByte slot, toByte (recordCount x), toByte (labelOf x).length] ++ paddedLabel (labelOf x)
    ++ [toByte (useCount slot s), yesByte (writePending slot s)]

/-- The results of READ_PROGRAM(DIRECTORY, first) (R151): at most five slots. A free count below 0 is sent as 0
(assumption 41). -/
def directoryPage (first : Nat) (s : State) : List Byte :=
  let free := Config.poolRecords - poolUse s
  let projectedFree := Config.poolRecords - projectedUse s
  let count := min 5 (Config.programSlots - first)
  let next := if first + count < Config.programSlots then toByte (first + count) else 255
  pairBytes free ++ pairBytes projectedFree ++ [toByte s.settings.fence
    , yesByte s.staging.isSome, toByte ((s.staging.map (·.slot)).getD 0)
    , toByte ((s.staging.map (·.records.length)).getD 0), next]
    ++ (List.range' first count).flatMap (directoryEntry s)

/-- READ_PROGRAM at the store (R151, R182). -/
def readProgram (selector first : Byte) : Act := fun s =>
  if selector = 255 then
    if first.toNat < Config.programSlots then (s, .done, .program (directoryPage first.toNat s)) else deny .range s
  else if selector.toNat < Config.programSlots ∧ first.toNat < Config.programRecords then
    (s, .done, .program (slotPage selector.toNat first.toNat s))
  else deny .range s

/-! ## Completion of a write (R153) -/

/-- Why a write of a program slot fails at its completion, as the position of IN_USE, FENCE, WRITE (R153, R193), in that
precedence (assumption 42). -/
def programFailure (slot : Nat) (p : Port) (written : Bool) (s : State) : Option Nat :=
  if 0 < useCount slot s then some 0
  else if fenced p slot s then some 1
  else if written then none
  else some 2

/-- Install a slot's content (R153). -/
def install (slot : Nat) (x : Option Program) (s : State) : State :=
  modStore (fun t => { t with slots := t.slots.setIfInBounds slot x }) s

/-- The result of a write. -/
def resultOf (written : Bool) : WriteResult := if written then .ok else .fail

/-- Complete the write of an entry that has left the queue (R153, R126, R129). -/
def completeWrite (e : WriteEntry) (written : Bool) (s : State) : State :=
  match e with
  | .commit slot prog p =>
    let failed := programFailure slot p written s
    post p (.storeDone slot 0 failed) (if failed.isNone then install slot (some prog) s else s)
  | .erase slot p =>
    let failed := programFailure slot p written s
    post p (.storeDone slot 1 failed) (if failed.isNone then install slot none s else s)
  | .settings v p =>
    post p (.storeDone 255 2 (if written then none else some 2))
      (if written then modStore (fun t => { t with settings := some { value := v, intact := true } }) s else s)
  | .scale v =>
    let s := modScale (fun a => { a with saveResult := some (resultOf written) }) s
    if written then modStore (fun t => { t with scale := some { value := v, intact := true } }) s else saveScale s
  | .procedure v =>
    let s := modProc (fun r => { r with saveResult := some (resultOf written) }) s
    if written then modStore (fun t => { t with procedure := some { value := v, intact := true } }) s
    else saveProcedure s

/-- The write in flight completes, and the next waiting entry begins (R153). `written` says whether the memory could
complete it. A save that a failed save hands over (R126, R129) meets the queue as the completion left it. -/
def storeWriteComplete (written : Bool) (s : State) : State :=
  match s.store.inFlight with
  | none => s
  | some e => beginWrite (completeWrite e written (modStore (fun t => { t with inFlight := none }) s))

/-! ## The commands -/

/-- STORE_OPEN (R147). -/
def execStoreOpen (p : Port) (seq slot : Byte) (s : State) : Host.Outcome State Fault Refusal :=
  event (order p seq 0x48 (some .store) (storeOpen p slot)) s

/-- STORE_LABEL (R148). -/
def execStoreLabel (p : Port) (seq length : Byte) (label : List Byte) (s : State) :
    Host.Outcome State Fault Refusal :=
  event (takeFrame p seq 0x49 (counted (label.length == length.toNat) (withHold p (some .store) (storeLabel label)))) s

/-- STORE_STEP (R148). -/
def execStoreStep (p : Port) (seq : Byte) (record : List Byte) (s : State) : Host.Outcome State Fault Refusal :=
  event (takeFrame p seq 0x4A (counted (record.length == recordBytes) (withHold p (some .store) (storeStep record)))) s

/-- STORE_COMMIT (R149). -/
def execStoreCommit (p : Port) (seq : Byte) (s : State) : Host.Outcome State Fault Refusal :=
  event (order p seq 0x4B (some .store) (storeCommit p)) s

/-- STORE_CANCEL (R148). -/
def execStoreCancel (p : Port) (seq : Byte) (s : State) : Host.Outcome State Fault Refusal :=
  event (order p seq 0x4C (some .store) storeCancel) s

/-- ERASE_PROGRAM (R150). -/
def execEraseProgram (p : Port) (seq slot : Byte) (s : State) : Host.Outcome State Fault Refusal :=
  event (order p seq 0x4D (some .store) (eraseProgram p slot)) s

/-- READ_PROGRAM (R151). -/
def execReadProgram (p : Port) (seq selector first : Byte) (s : State) : Host.Outcome State Fault Refusal :=
  event (order p seq 0x4E none (readProgram selector first)) s

/-- SAVE_SETTINGS (R197). -/
def execSaveSettings (p : Port) (seq : Byte) (s : State) : Host.Outcome State Fault Refusal :=
  event (order p seq 0x52 none (saveSettings p)) s

/-- STORE_WRITE_COMPLETE (R153). -/
def execStoreWriteComplete (written : Bool) (s : State) : Host.Outcome State Fault Refusal :=
  event (storeWriteComplete written) s

end Sys2Proof.Machine
end

