-- ==== Sys2Proof/Machine/SettingsOrders.lean ====
section
/-! DEFINITION. The orders on the settings (R195, R196) and what a change of each setting brings. -/

namespace Sys2Proof.Machine

/-- A lowered DOOR_TIMEOUT is taken at once (R46). -/
def doorTimeoutCheck (c : Cavity) (s : State) : State :=
  let r := s.runs.get c
  if r.doorSuspended = true ∧ s.settings.doorTimeout * Config.second ≤ r.doorTime.getD 0 then doorTimeoutEnd c s else s

/-- A lowered FEED_TIMEOUT is taken at once in STARVED (R34). -/
def feedTimeoutCheck (c : Cavity) (s : State) : State :=
  let r := s.runs.get c
  if r.state = .starved ∧ s.settings.feedTimeout * Config.second ≤ r.starveTime.getD 0 then feederEnd c s else s

/-- A lowered IDLE_DRAIN is taken at once (R106). -/
def idleDrainCheck (s : State) : State :=
  if s.gen.state = .ready ∧ s.settings.idleDrain * Config.second ≤ s.gen.idleTime.getD 0 then idleDrain s else s

/-- A lowered SOAK_TIME is taken at once (R134). -/
def soakTimeCheck (s : State) : State :=
  if s.proc.phase = .soak ∧ s.settings.soakTime * Config.second ≤ s.proc.soakTime.getD 0 then
    enterDrain .drainSolution s
  else s

/-- The owning block's consequences of a change (R195). A timeout that expires in both cavities at once is taken in A
before B (assumption 16). -/
def settingConsequence (id : SettingId) (s : State) : State :=
  match id with
  | .budget | .rating _ | .chain => cutAndDecide s
  | .scaleWarn | .scaleLock => thresholdTest .setting s
  | .flowCal => overfillTest s
  | .doorTimeout => doorTimeoutCheck .B (doorTimeoutCheck .A s)
  | .feedTimeout => feedTimeoutCheck .B (feedTimeoutCheck .A s)
  | .idleDrain => idleDrainCheck s
  | .soakTime => soakTimeCheck s
  | .fence | .waterSource | .hardness | .propBand | .holdBias _ | .approachBand | .readyTemp | .soakTemp | .rinseCount
  | .holdTimeout => s

/-- Put a value in force, with its consequences and the reply (R195). -/
def putSetting (id : SettingId) (v : Settings) : Act := fun s =>
  let s := settingConsequence id { s with settings := v }
  (s, .done, .param (settingValue s.settings id))

/-- The number that two value bytes carry (R194). -/
def numberOf : List Byte → Option Nat
  | [hi, lo] => some (pairNat hi lo)
  | _ => none

/-- A checked SET_PARAM at the settings (R195, R85 to R87, R124). -/
def changeSetting (id : SettingId) (value : List Byte) : Act := fun s =>
  match id with
  | .chain =>
    match chainOf? value with
    | some l => if chainOk l then putSetting .chain { s.settings with chain := l } s else deny .range s
    | none => deny .range s
  | _ =>
    match numberOf value with
    | some n => if settingAccepts s.settings id n then putSetting id (setNumber s.settings id n) s else deny .range s
    | none => deny .range s

/-- SET_PARAM at the dispatcher (R178 checks 2 and 3) and the settings. -/
def setParam (p : Port) (id : Byte) (value : List Byte) : Act := fun s =>
  match settingOf? id with
  | none => deny .range s
  | some x =>
    if value.length ≠ paramBytes id then deny .range s
    else if serviceOnly x = true ∧ p ≠ .service then deny .denied s
    else changeSetting x value s

/-- The results of READ_PARAM (R196). -/
def paramReport (id : SettingId) (s : State) : ParamReport :=
  let value := settingValue s.settings id
  { value := value
    low := (settingRange s.settings id).map (·.1)
    high := (settingRange s.settings id).map (·.2)
    default := settingValue Settings.default id
    serviceOnly := serviceOnly id
    differs :=
      match validStored s with
      | some v => decide (settingValue v id ≠ value)
      | none => true }

/-- READ_PARAM at the settings (R196). -/
def readParam (id : Byte) : Act := fun s =>
  match settingOf? id with
  | some x => (s, .done, .paramReport (paramReport x s))
  | none => deny .range s

/-- SET_PARAM (R195). -/
def execSetParam (p : Port) (seq id : Byte) (value : List Byte) (s : State) : Host.Outcome State Fault Refusal :=
  event (order p seq 0x50 none (setParam p id value)) s

/-- READ_PARAM (R196). -/
def execReadParam (p : Port) (seq id : Byte) (s : State) : Host.Outcome State Fault Refusal :=
  event (order p seq 0x51 none (readParam id)) s

end Sys2Proof.Machine
end

