-- ==== Sys2Proof/Machine/Ports.lean ====
section
/-! DEFINITION. Holds (R183 to R185), the port reset (R186, R187), the transmit line (R177) and the orders of the
attention unit (R191, R192). -/

namespace Sys2Proof.Machine

/-! ## Holds -/

/-- Free a hold object; a freed STORE discards the staging buffer (R147). -/
def freeHold (h : HoldObject) (s : State) : State :=
  let s := setHold h none s
  if h = .store then discardStaging s else s

/-- Take or restart a hold for a port (R183). -/
def takeFor (p : Port) (h : HoldObject) : Act := fun s =>
  let expiry := s.settings.holdTimeout
  (setHold h (some { holder := p, expiry := expiry * Config.second }) s, .done, .hold expiry)

/-- TAKE_HOLD at the dispatcher (R183): the seconds left are those not yet wholly counted. -/
def takeHold (p : Port) (object : Byte) : Act := fun s =>
  match holdOf? object with
  | none => deny .range s
  | some h =>
    match s.holds.get h with
    | none => takeFor p h s
    | some k =>
      if k.holder = p then takeFor p h s
      else (s, .held, .heldBy k.holder (secondsLeft k.expiry))

/-- RELEASE_HOLD at the dispatcher (R185). -/
def releaseHold (p : Port) (object : Byte) : Act := fun s =>
  match holdOf? object with
  | none => deny .range s
  | some h =>
    match s.holds.get h with
    | some k => if k.holder = p then doneAfter (freeHold h) s else deny .notHolder s
    | none => deny .notHolder s

/-- A hold expires (R184). -/
def holdExpiry (h : HoldObject) (s : State) : State :=
  match s.holds.get h with
  | some k => post k.holder (.holdLost h) (freeHold h s)
  | none => s

/-! ## Port reset (R187) -/

/-- Free a hold object that a port holds (R187). -/
def freeIfHeldBy (p : Port) (h : HoldObject) (s : State) : State :=
  match s.holds.get h with
  | some k => if k.holder = p then freeHold h s else s
  | none => s

/-- What a port reset leaves on the transmit line (R187): the reply that has begun to leave, no longer a pending
order's. -/
def keptReplies : List Outgoing → List Outgoing
  | [] => []
  | o :: _ => [{ o with kind := if o.kind = .order then .dropped else o.kind }]

/-- A port reset (R187). -/
def portReset (p : Port) (s : State) : State :=
  let s := modPort p (fun r => { r with receiver := .hunting, replies := keptReplies r.replies }) s
  let s := freeIfHeldBy p .store (freeIfHeldBy p .editB (freeIfHeldBy p .editA s))
  post p (.started 2) { s with attention := s.attention.set p { causes := [], mask := defaultMask } }

/-- A line break at its 100 ms point (R186), once for each break. -/
def lineBreak (p : Port) (s : State) : State :=
  if (s.ports.get p).inBreak then s else modPort p (fun r => { r with inBreak := true }) (portReset p s)

/-- The line returns to the mark condition (R186). -/
def lineReturnToMark (p : Port) (s : State) : State := modPort p (fun r => { r with inBreak := false }) s

/-- The last byte of the reply being sent has left (R177). -/
def replySent (p : Port) (s : State) : State := modPort p (fun r => { r with replies := r.replies.tail }) s

/-! ## The attention unit -/

/-- READ_CAUSE at the attention unit (R191). -/
def readCause (p : Port) : Act := fun s =>
  let a := s.attention.get p
  match a.causes with
  | [] => (s, .done, .cause { code := 0, count := 0, subject := 0, reason := 0, value1 := 0, value2 := 0 } 0)
  | e :: es => ({ s with attention := s.attention.set p { a with causes := es } }, .done, .cause e es.length)

/-- SET_CAUSE_MASK at the attention unit (R192). -/
def setCauseMask (p : Port) (mask : BitVec 32) : Act := fun s =>
  if mask.getLsbD 0 then deny .range s
  else ({ s with attention := s.attention.set p { s.attention.get p with mask := mask } }, .done, .mask mask)

/-! ## The commands -/

/-- TAKE_HOLD (R183). -/
def execTakeHold (p : Port) (seq object : Byte) (s : State) : Host.Outcome State Fault Refusal :=
  event (order p seq 0x28 none (takeHold p object)) s

/-- RELEASE_HOLD (R185). -/
def execReleaseHold (p : Port) (seq object : Byte) (s : State) : Host.Outcome State Fault Refusal :=
  event (order p seq 0x29 none (releaseHold p object)) s

/-- HOLD_EXPIRY (R184). -/
def execHoldExpiry (h : HoldObject) (s : State) : Host.Outcome State Fault Refusal := event (holdExpiry h) s

/-- PORT_RESET (R187): answered DONE after the reset is made. -/
def execPortReset (p : Port) (seq : Byte) (s : State) : Host.Outcome State Fault Refusal :=
  event (order p seq 0x62 none (doneAfter (portReset p))) s

/-- LINE_BREAK (R186). -/
def execLineBreak (p : Port) (s : State) : Host.Outcome State Fault Refusal := event (lineBreak p) s

/-- LINE_RETURN_TO_MARK (R186). -/
def execLineReturnToMark (p : Port) (s : State) : Host.Outcome State Fault Refusal := event (lineReturnToMark p) s

/-- REPLY_SENT (R177). -/
def execReplySent (p : Port) (s : State) : Host.Outcome State Fault Refusal := event (replySent p) s

/-- READ_CAUSE (R191). -/
def execReadCause (p : Port) (seq : Byte) (s : State) : Host.Outcome State Fault Refusal :=
  event (order p seq 0x60 none (readCause p)) s

/-- SET_CAUSE_MASK (R192). -/
def execSetCauseMask (p : Port) (seq : Byte) (mask : BitVec 32) (s : State) : Host.Outcome State Fault Refusal :=
  event (order p seq 0x61 none (setCauseMask p mask)) s

end Sys2Proof.Machine
end

