-- ==== Sys2Proof/Machine/Frames.lean ====
section
/-! DEFINITION. Frames on the ports (R173 to R175, R181, R182): the receiver, the check, the order a received frame
carries, and the bytes of a reply frame. -/

namespace Sys2Proof.Machine

/-! ## The check (R175) -/

/-- One bit of the CRC-16: shift left, and subtract the polynomial x^16 + x^12 + x^5 + 1 when a one leaves. -/
def crcShift (c : Half) : Half := if c.getLsbD 15 then (c <<< 1) ^^^ 0x1021#16 else c <<< 1

/-- One byte of the CRC-16, most significant bit first. -/
def crcByte (c : Half) (b : Byte) : Half :=
  let x := c ^^^ ((b.setWidth 16) <<< 8)
  crcShift (crcShift (crcShift (crcShift (crcShift (crcShift (crcShift (crcShift x)))))))

/-- The check of a frame's bytes from the length on (R175). -/
def crc16 (bytes : List Byte) : Half := bytes.foldl crcByte 0xFFFF#16

/-- The two bytes of a check, most significant first. -/
def checkBytes (c : Half) : List Byte := [c.extractLsb' 8 8, c.extractLsb' 0 8]

/-! ## Orders in frames (R181, R182) -/

/-- A two-byte parameter, most significant byte first. -/
def halfOf (hi lo : Byte) : Half := hi ++ lo

/-- A four-byte parameter, most significant byte first. -/
def wordOf (b3 b2 b1 b0 : Byte) : BitVec 32 := (b3 ++ b2 ++ b1 ++ b0 : BitVec (8 + 8 + 8 + 8))

/-- An order whose one parameter is a cavity. -/
def oneCavity (p : Port) (params : List Byte) (need : Cavity → Option HoldObject) (act : Cavity → Act) : Act :=
  match params with
  | [c] => cavityAct p c need act
  | _ => deny .range

/-- An order without parameters. -/
def noParams (params : List Byte) (act : Act) : Act :=
  match params with
  | [] => act
  | _ :: _ => deny .range

/-- An order with one parameter byte. -/
def oneByte (params : List Byte) (act : Byte → Act) : Act :=
  match params with
  | [b] => act b
  | _ => deny .range

/-- The run orders (ids 0x10 to 0x1E). -/
def runAct (p : Port) (id : Byte) (params : List Byte) : Act :=
  if id = 0x10 then
    match params with
    | [c, source, slot, watermark] => cavityAct p c noHold (openRun p source slot watermark)
    | _ => deny .range
  else if id = 0x11 then
    match params with
    | c :: record => counted (record.length == recordBytes) (cavityAct p c noHold (loadStep p record))
    | [] => deny .range
  else if id = 0x12 then oneCavity p params noHold (closeRun p)
  else if id = 0x13 then
    match params with
    | [c, hi, lo] => cavityAct p c noHold (startRun (halfOf hi lo))
    | _ => deny .range
  else if id = 0x14 then
    match params with
    | [hi, lo] => withHold p none (startLinked (halfOf hi lo))
    | _ => deny .range
  else if id = 0x15 then oneCavity p params noHold pauseRun
  else if id = 0x16 then oneCavity p params noHold resumeRun
  else if id = 0x17 then oneCavity p params noHold stopRun
  else if id = 0x18 then oneCavity p params noHold clearRun
  else if id = 0x19 then oneCavity p params noHold (adoptRun p)
  else if id = 0x1A then oneCavity p params needEdit skipStep
  else if id = 0x1B then
    match params with
    | [c, presence, target, hi, lo, steam] => cavityAct p c needEdit (adjustStep presence target (halfOf hi lo) steam)
    | _ => deny .range
  else if id = 0x1C then
    match params with
    | [c, slot, source, relation, hi, lo, action] =>
      cavityAct p c needEdit (setWatch slot source relation (halfOf hi lo) action)
    | _ => deny .range
  else if id = 0x1D then
    match params with
    | [c, slot] => cavityAct p c needEdit (clearWatch slot)
    | _ => deny .range
  else if id = 0x1E then oneCavity p params noHold readRun
  else deny .unknown

/-- The store's and the settings' orders (ids 0x48 to 0x52). -/
def storeAct (p : Port) (id : Byte) (params : List Byte) : Act :=
  if id = 0x48 then oneByte params (fun slot => withHold p (some .store) (storeOpen p slot))
  else if id = 0x49 then
    match params with
    | n :: label => counted (label.length == n.toNat) (withHold p (some .store) (storeLabel label))
    | [] => deny .range
  else if id = 0x4A then counted (params.length == recordBytes) (withHold p (some .store) (storeStep params))
  else if id = 0x4B then noParams params (withHold p (some .store) (storeCommit p))
  else if id = 0x4C then noParams params (withHold p (some .store) storeCancel)
  else if id = 0x4D then oneByte params (fun slot => withHold p (some .store) (eraseProgram p slot))
  else if id = 0x4E then
    match params with
    | [selector, first] => withHold p none (readProgram selector first)
    | _ => deny .range
  else if id = 0x50 then
    match params with
    | x :: value => withHold p none (setParam p x value)
    | [] => deny .range
  else if id = 0x51 then oneByte params (fun x => withHold p none (readParam x))
  else if id = 0x52 then noParams params (withHold p none (saveSettings p))
  else deny .unknown

/-- The other orders of R181. -/
def otherAct (p : Port) (id : Byte) (params : List Byte) : Act :=
  if id = 0x20 then
    match params with
    | [hi, lo] => withHold p none (ackPrompt p (halfOf hi lo))
    | _ => deny .range
  else if id = 0x21 then noParams params (withHold p none readPrompts)
  else if id = 0x28 then oneByte params (fun b => withHold p none (takeHold p b))
  else if id = 0x29 then oneByte params (fun b => withHold p none (releaseHold p b))
  else if id = 0x30 then noParams params (withHold p none drainGen)
  else if id = 0x31 then noParams params (withHold p none genReset)
  else if id = 0x32 then noParams params (withHold p none readGen)
  else if id = 0x38 then noParams params (withHold p none startDescale)
  else if id = 0x39 then noParams params (withHold p none abortDescale)
  else if id = 0x3A then noParams params (withHold p none startRinse)
  else if id = 0x3B then noParams params (withHold p none readDescale)
  else if id = 0x40 then noParams params (withHold p none readWater)
  else if id = 0x58 then noParams params (withHold p none readLoads)
  else if id = 0x59 then noParams params (withHold p none readSensors)
  else if id = 0x5A then oneCavity p params noHold clearLimit
  else if id = 0x60 then noParams params (withHold p none (readCause p))
  else if id = 0x61 then
    match params with
    | [b3, b2, b1, b0] => withHold p none (setCauseMask p (wordOf b3 b2 b1 b0))
    | _ => deny .range
  else if id = 0x62 then noParams params (withHold p none (doneAfter (portReset p)))
  else deny .unknown

/-- What an order's identifier and parameters ask for (R181, R182): UNKNOWN for an identifier not in the table, RANGE
for another parameter count (R178). -/
def frameAct (p : Port) (id : Byte) (params : List Byte) : Act :=
  if 0x10 ≤ id.toNat ∧ id.toNat ≤ 0x1E then runAct p id params
  else if 0x48 ≤ id.toNat ∧ id.toNat ≤ 0x52 then storeAct p id params
  else otherAct p id params

/-! ## The receiver (R173) -/

/-- A whole frame stands in the receiver: the length byte and the bytes after it, the check last. A frame whose check
differs is discarded; one whose check matches is taken (R177). -/
def frameEnd (p : Port) (length : Byte) (taken : List Byte) (s : State) : State :=
  let body := taken.take length.toNat
  if taken.drop length.toNat = checkBytes (crc16 (length :: body)) then
    match body with
    | seq :: id :: params => takeFrame p seq id (frameAct p id params) s
    | _ => s
  else s

/-- The receiver after a byte looked at in hunting (R173). -/
def huntByte (b : Byte) : Receiver := if b = 0xA5 then .length else .hunting

/-- One byte on a port's receive line (R173); none is taken while the line is held in space (R186). -/
def receiveByte (p : Port) (b : Byte) (s : State) : State :=
  let r := s.ports.get p
  if r.inBreak then s
  else
    let put (x : Receiver) (s : State) : State := modPort p (fun r => { r with receiver := x }) s
    match r.receiver with
    | .hunting => put (huntByte b) s
    | .length => if 2 ≤ b.toNat ∧ b.toNat ≤ 62 then put (.body b []) s else put .hunting s
    | .body length taken =>
      let taken := taken ++ [b]
      if taken.length < length.toNat + 2 then put (.body length taken) s
      else frameEnd p length taken (put .hunting s)

/-- Bytes arriving without a gap of more than 20 ms (R173). -/
def receiveBytes (p : Port) : List Byte → State → State
  | [], s => s
  | b :: bs, s => receiveBytes p bs (receiveByte p b s)

/-- A gap of more than 20 ms, and the byte that ends it (R173): a partial frame is discarded, the byte looked at as in
hunting. -/
def byteAfterGap (p : Port) (b : Byte) (s : State) : State :=
  receiveByte p b (modPort p (fun r => { r with receiver := .hunting }) s)

/-- The order frame that carries an order (R174, R175). -/
def orderFrame (seq id : Byte) (params : List Byte) : List Byte :=
  let body := toByte (2 + params.length) :: seq :: id :: params
  0xA5 :: body ++ checkBytes (crc16 body)

/-! ## Reply frames (R174, R175) -/

/-- FREE VALUE. The bytes of the results whose layout the manual does not give, those with optional fields
(assumption 10). -/
opaque resultLayout : Results → List Byte

/-- FREE VALUE. What stands before and after the step record in the results of READ_RUN, whose place among them the
manual does not give (assumption 10). -/
opaque runLayout : RunReport → List Byte × List Byte

/-- Result bytes in a reply frame: at most 120 (R174). -/
def resultLimit : Nat := 120

/-- A 32-bit value, most significant byte first (R174, R192). -/
def wordBytes (m : BitVec 32) : List Byte :=
  [m.extractLsb' 24 8, m.extractLsb' 16 8, m.extractLsb' 8 8, m.extractLsb' 0 8]

/-- The eight bytes of a cause detail (R175, R176). -/
def detailBytes (e : CauseEntry) : List Byte :=
  [toByte e.code, toByte e.count, e.subject, e.reason] ++ checkBytes e.value1 ++ checkBytes e.value2

/-- A setting's value as SET_PARAM carries it (R182): two bytes, or the seven loads of CHAIN_ORDER. -/
def valueBytes : SettingValue → List Byte
  | .num n => pairBytes n
  | .chain l => l.map (fun x => toByte (loadCode x))

/-- The results of READ_RUN: the record of the current step in its 18 bytes (R176), among bytes left open, 120 in
all. -/
def runBytes (r : RunReport) : List Byte :=
  let record := r.record.getD []
  let head := (runLayout r).1.take (resultLimit - record.length)
  head ++ record ++ (runLayout r).2.take (resultLimit - record.length - head.length)

/-- The result bytes of a reply frame (R174): in the order the rules list them, an enumerated one by its position, a
number in one byte where its range fits in one, else in two (assumption 10). -/
def resultBytes : Results → List Byte
  | .none => []
  | .openRun count closed => [toByte count, yesByte closed]
  | .loadStep load free => pairBytes load ++ [toByte free]
  | .full free => [toByte free]
  | .skipStep load => pairBytes load
  | .hold expiry => [toByte expiry]
  | .heldBy holder expiry => [toByte (portCode holder), toByte expiry]
  | .staged count => [toByte count]
  | .program bytes => bytes
  | .param value => valueBytes value
  | .cause e left => detailBytes e ++ [toByte left]
  | .mask m => wordBytes m
  | .run r => runBytes r
  | .prompts n l => (resultLayout (.prompts n l)).take resultLimit
  | .gen r => (resultLayout (.gen r)).take resultLimit
  | .descale r => (resultLayout (.descale r)).take resultLimit
  | .water r => (resultLayout (.water r)).take resultLimit
  | .paramReport r => (resultLayout (.paramReport r)).take resultLimit
  | .loads r => (resultLayout (.loads r)).take resultLimit
  | .sensors r => (resultLayout (.sensors r)).take resultLimit

/-- The frame of a reply (R174, R175). -/
def replyFrame (r : Reply) : List Byte :=
  let results := resultBytes r.results
  let body := toByte (3 + results.length) :: r.seq :: r.id :: toByte (answerCode r.answer) :: results
  0x5A :: body ++ checkBytes (crc16 body)

/-! ## The commands -/

/-- FRAME_RECEIVED (R173, R177). -/
def execFrameReceived (p : Port) (bytes : List Byte) (s : State) : Host.Outcome State Fault Refusal :=
  event (receiveBytes p bytes) s

/-- INTER_BYTE_GAP (R173). -/
def execInterByteGap (p : Port) (next : Byte) (s : State) : Host.Outcome State Fault Refusal :=
  event (byteAfterGap p next) s

end Sys2Proof.Machine
end

