-- ==== Sys2Proof/Machine/Reset.lean ====
section
/-! DEFINITION. The device reset (R198 to R200, R141, R126, R114, R161). -/

namespace Sys2Proof.Machine

/-- A stored record found spoiled: its check no longer matches (R199; assumption 27). -/
def spoil {α : Type} (spoiled : Bool) (r : Option (Stored α)) : Option (Stored α) :=
  if spoiled then r.map (fun x => { x with intact := false }) else r

/-- The store as the reset finds it: the last completed writes, no write waiting or in flight (R153). -/
def storeAfterReset (inputs : StartInputs) (t : Store) : Store :=
  { slots := t.slots
    settings := spoil inputs.settingsSpoiled t.settings
    scale := spoil inputs.scaleSpoiled t.scale
    procedure := spoil inputs.procedureSpoiled t.procedure
    waiting := []
    inFlight := none }

/-- The value of a stored record whose check matches. -/
def intactValue {α : Type} (r : Option (Stored α)) : Option α := r.bind (fun x => if x.intact then some x.value else none)

/-- The scale account after its reload (R126). Until a save is handed over there are no points of a last save (R120;
assumption 39). -/
def reloadScale (r : Option ScaleRecord) (v : Settings) : Scale :=
  let points := (r.map (·.points)).getD 0
  { points := points
    carry := (r.map (·.carry)).getD 0
    warn := decide (v.scaleWarn ≤ points)
    lock := decide (v.scaleLock ≤ points)
    savedPoints := none
    saveResult := none }

/-- The rinse owed that the saved procedure record gives (R141). -/
def owedAtStart : Option ProcRecord → Bool
  | none => false
  | some r =>
    match r.phase, r.kind with
    | .idle, _ | .done, _ => r.rinseOwed
    | _, some .rinse => true
    | .prepDrain, _ | .waitSolution, _ => r.rinseOwed
    | _, _ => true

/-- The save of the procedure record that the examination calls for (R141): none where there is no valid copy to compare
with (assumption 40). -/
def examineSave (r : Option ProcRecord) (s : State) : State :=
  match r with
  | some x => if x.rinseOwed ≠ s.proc.rinseOwed ∨ x.phase ≠ .idle then saveProcedure s else s
  | none => s

/-- The record of a sensor after its first sample (R161). -/
def firstSample (x : Sensor) (sample : Sample) : SensorRecord :=
  match inRangeReading x sample with
  | some t => SensorRecord.valid t
  | none => { status := .faulted, reading := none, runTime := none, inRange := false }

/-- A core sensor's record after the reset (R161): ABSENT and not sampled without its probe. -/
def firstCore (x : Sensor) (present : Bool) (sample : Sample) : SensorRecord :=
  if present then firstSample x sample else SensorRecord.absent

/-- The three cause sets with STARTED alone (R188, R200 step 1). -/
def startedSets (reason : Nat) : PerPort Attention :=
  let a : Attention := { causes := [causeEntry (.started reason)], mask := defaultMask }
  ⟨a, a, a⟩

/-- The generator's start-up state (R114), with its GEN_STATE; the state left in it is a free value (assumption 8). -/
def startGenerator (s : State) : State :=
  let x := drawFree s
  let s := x.1
  let s :=
    if s.proc.rinseOwed ∨ s.gen.levelLowWet then
      modGen (fun g =>
        { g with
          state := .draining
          afterDrain := some (if s.proc.rinseOwed then .rinseOwed else .empty)
          drainTime := some 0
          dryTime := some 0 }) s
    else s
  broadcast (.genState .steam s.gen.state x.2 none) s

/-- A fault found at a sensor's first sample (R161): SENSOR_FAULT, and the fault handed on (R163). -/
def startFault (x : Sensor) (s : State) : State :=
  if sensorFaulted x s then handFault x (broadcast (.sensorFault x false 0) s) else s

/-- A limit input found ACTIVE is a trip (R168). -/
def startLimit (c : Cavity) (active : Bool) (s : State) : State := if active then limitTrip c s else s

/-- The state with every block at its reset value, the records read and the first samples taken (R199, R200 steps 1 to
4). -/
def poweredState (inputs : StartInputs) (s : State) : State :=
  let store := storeAfterReset inputs s.store
  let v := (validStored { s with store := store }).getD Settings.default
  let reason := if (validStored { s with store := store }).isSome then 0 else 1
  { State.reset with
    settings := v
    gen := Gen.start inputs.levelLowWet inputs.levelHighWet
    scale := reloadScale (intactValue store.scale) v
    proc := Procedure.reset (owedAtStart (intactValue store.procedure))
    store := store
    sensors :=
      { cavTempA := firstSample .cavTempA inputs.cavTempA
        cavTempB := firstSample .cavTempB inputs.cavTempB
        coreA := firstCore .coreA inputs.probePresentA inputs.coreA
        coreB := firstCore .coreB inputs.probePresentB inputs.coreB
        genTemp := firstSample .genTemp inputs.genTemp }
    doorOpen := ⟨inputs.doorOpenA, inputs.doorOpenB⟩
    probePresent := ⟨inputs.probePresentA, inputs.probePresentB⟩
    tankPresent := inputs.tankPresent
    attention := startedSets reason
    freeIndex := s.freeIndex
    pending := s.pending }

/-- The events that the first samples give, taken after the generator's start (R161, R168, R170, R200;
assumption 21): limits A and B, mains-low, then the sensors in the list of R161 (assumption 16). -/
def startEvents (inputs : StartInputs) (s : State) : State :=
  let s := startLimit .B inputs.limitActiveB (startLimit .A inputs.limitActiveA s)
  let s := if inputs.mainsLow then mainsLow s else s
  startFault .genTemp (startFault .coreB (startFault .coreA (startFault .cavTempB (startFault .cavTempA s))))

/-- The end of a device reset (R200). -/
def deviceReset (inputs : StartInputs) (s : State) : State :=
  startEvents inputs
    (startGenerator (examineSave (intactValue (storeAfterReset inputs s.store).procedure) (poweredState inputs s)))

/-- DEVICE_RESET (R200): taken whether or not RESET was seen held (assumption 23). -/
def execDeviceReset (inputs : StartInputs) (s : State) : Host.Outcome State Fault Refusal := .next (deviceReset inputs s)

/-- RESET_HELD (R198): every output is off, the ATTN lines are released and the ports take no bytes until the reset
ends. -/
def execResetHeld (s : State) : Host.Outcome State Fault Refusal := .next { s with resetHeld := true }

end Sys2Proof.Machine
end

