-- ==== Sys2Proof/Machine/Tick.lean ====
section
/-! DEFINITION. The passing of a tenth of a second (assumption 2): every count advances by one tenth where its rule lets
it, and then each event that has fallen due is taken, in a fixed order, looked at afresh each time (assumption 5). -/

namespace Sys2Proof.Machine

/-- A count that grows, where it is present and may run. -/
def grow (runs : Bool) (x : Option Nat) : Option Nat := if runs then x.map (· + 1) else x

/-- A count that falls, where it is present and may run. -/
def fall (runs : Bool) (x : Option Nat) : Option Nat := if runs then x.map (· - 1) else x

/-- The counts of a run (R27, R30, R34, R46). -/
def tickRun (r : Run) : Run :=
  { r with
    delay := fall (decide (r.state = .delayed)) r.delay
    remaining := fall (stepCounts r) r.remaining
    starveTime := grow (decide (r.state = .starved)) r.starveTime
    doorTime := grow r.doorSuspended r.doorTime }

/-- The update time of a climate loop (R52). -/
def tickClimate (r : Run) (k : Climate) : Climate := { k with updateTime := grow (counting r) k.updateTime }

/-- The counts of a drive timer (R61, R62, R64, R65). -/
def tickTimer (t : Timer) : Timer :=
  if t.frozen then t
  else
    match t.interval with
    | .idle => t
    | .offInterval | .onInterval => { t with remaining := fall true t.remaining }
    | .waiting => { t with waited := min Config.waitedMax (t.waited + 1) }

/-- The counts of the generator (R69, R98, R101, R103, R106, R107). -/
def tickGen (s : State) : Gen :=
  let g := s.gen
  let supplied := !s.mains.low
  { g with
    fill := g.fill.map (fun f => { f with watchdog := if fillRunning s && supplied then f.watchdog + 1 else f.watchdog })
    drainTime := grow (drainRunning s && supplied && g.levelLowWet) g.drainTime
    dryTime := grow (drainRunning s && supplied && !g.levelLowWet) g.dryTime
    heatAccount :=
      grow (decide (g.state = .heating) && decide (s.arbiter.genHeat = .granted) && !g.slowPosted) g.heatAccount
    windowTime := grow (decide (g.state = .ready) || decide (g.state = .delivering)) g.windowTime
    idleTime := grow (decide (g.state = .ready) && !anyDemand s) g.idleTime
    soakUpdate := grow (decide (s.proc.phase = .soak) && supplied) g.soakUpdate }

/-- The quiet time of the open fill (R117). -/
def tickMeter (m : Meter) : Meter := { m with fill := m.fill.map (fun f => { f with quiet := min 40 (f.quiet + 1) }) }

/-- The timeout of a prompt (R158). -/
def tickPrompt (e : Prompt) : Prompt := { e with timeout := fall (!e.timedOut) e.timeout }

/-- The expiry time of a hold (R184). -/
def tickHold (k : Hold) : Hold := { k with expiry := k.expiry - 1 }

/-- The low time (R171). -/
def tickMains (m : Mains) : Mains := { m with lowTime := grow (m.low && !m.expiryGiven) m.lowTime }

/-- Every count advances by a tenth. -/
def advance (s : State) : State :=
  { s with
    runs := ⟨tickRun s.runs.a, tickRun s.runs.b⟩
    climates := ⟨tickClimate s.runs.a s.climates.a, tickClimate s.runs.b s.climates.b⟩
    timers :=
      { genHeat := tickTimer s.timers.genHeat, aRing := tickTimer s.timers.aRing, bRing := tickTimer s.timers.bRing
        aTop := tickTimer s.timers.aTop, bTop := tickTimer s.timers.bTop, aBottom := tickTimer s.timers.aBottom
        bBottom := tickTimer s.timers.bBottom }
    gen := tickGen s
    meter := tickMeter s.meter
    proc := { s.proc with soakTime := grow (decide (s.proc.phase = .soak) && !s.mains.low) s.proc.soakTime }
    prompts :=
      { cavityA := s.prompts.cavityA.map tickPrompt, cavityB := s.prompts.cavityB.map tickPrompt
        generator := s.prompts.generator.map tickPrompt, descaler := s.prompts.descaler.map tickPrompt }
    mains := tickMains s.mains
    holds := ⟨s.holds.editA.map tickHold, s.holds.editB.map tickHold, s.holds.store.map tickHold⟩ }

/-! ## What has fallen due -/

/-- A count that grows has reached a number. -/
def reached (x : Option Nat) (n : Nat) : Bool :=
  match x with
  | some t => decide (n ≤ t)
  | none => false

/-- Take an event when it is due. -/
def whenDue (due : State → Bool) (f : State → State) (s : State) : State := if due s then f s else s

/-- The timed events of a cavity's run, its prompt apart. -/
def dueRun (c : Cavity) (s : State) : State :=
  let s := whenDue (fun s => decide ((s.runs.get c).state = .delayed) && decide ((s.runs.get c).delay = some 0))
    (delayExpiry c) s
  let s := whenDue (fun s => decide ((s.runs.get c).state = .starved)
    && reached (s.runs.get c).starveTime (s.settings.feedTimeout * Config.second)) (feederEnd c) s
  let s := whenDue (fun s => (s.runs.get c).doorSuspended
    && reached (s.runs.get c).doorTime (s.settings.doorTimeout * Config.second)) (doorTimeoutEnd c) s
  let s := whenDue (fun s => stepCounts (s.runs.get c) && decide ((s.runs.get c).remaining = some 0)) (stepTimeEnd c) s
  whenDue (fun s => counting (s.runs.get c) && reached (s.climates.get c).updateTime 20) (regulationUpdate c) s

/-- The timeout of an owner's prompt. -/
def duePrompt (o : Owner) (s : State) : State :=
  whenDue (fun s => decide ((s.prompts.get o).bind (·.timeout) = some 0)) (promptTimeout o) s

/-- The interval of a load's timer, or the pair OFF interval that a top timer keeps. -/
def dueTimer (l : Load) (s : State) : State :=
  let zero (s : State) : Bool := !(s.timers.get l).frozen && decide ((s.timers.get l).remaining = some 0)
  let s := whenDue (fun s => zero s && decide ((s.timers.get l).interval = .onInterval)) (onExpiry l) s
  let s := whenDue (fun s => zero s && decide ((s.timers.get l).interval = .offInterval) && singleOff l s) (offExpiry l) s
  match pairSeat l with
  | some (c, true) =>
    whenDue (fun s => zero s && decide ((s.timers.get l).interval = .offInterval) && (s.pairs.get c).paired)
      (pairOffEnd c) s
  | some (_, false) | none => s

/-- The timed events of the generator, the meter and the descale controller. -/
def dueGen (s : State) : State :=
  let s := whenDue (fun s => decide (s.proc.phase = .soak) && reached s.gen.soakUpdate 20) soakUpdate s
  let s := whenDue (fun s => reached s.proc.soakTime (s.settings.soakTime * Config.second)) soakEnd s
  let s := whenDue (fun s => fillRunning s && reached (s.gen.fill.map (·.watchdog)) 40) watchdogStall s
  let s := whenDue (fun s => reached s.gen.dryTime 200) drainComplete s
  let s := whenDue (fun s => reached s.gen.drainTime 900) drainFail s
  let s := whenDue (fun s => reached s.gen.heatAccount 3000) heatSlow s
  let s := whenDue (fun s => reached s.gen.windowTime 100) windowEnd s
  let s := whenDue (fun s => reached s.gen.idleTime (s.settings.idleDrain * Config.second)) idleDrain s
  whenDue (fun s => reached (s.meter.fill.map (·.quiet)) 40) quietEnd s

/-- The expiry of a hold. -/
def dueHold (h : HoldObject) (s : State) : State :=
  whenDue (fun s => decide ((s.holds.get h).map (·.expiry) = some 0)) (holdExpiry h) s

/-- The timed events of the drive timers, in chain order of the defaults. -/
def dueTimers : List Load → State → State
  | [], s => s
  | l :: ls, s => dueTimers ls (dueTimer l s)

/-- Every event that has fallen due (assumption 5). -/
def takeDue (s : State) : State :=
  let s := whenDue (fun s => reached s.mains.lowTime 50) mainsLowExpiry s
  let s := dueRun .B (dueRun .A s)
  let s := duePrompt .cavityB (duePrompt .cavityA s)
  let s := dueGen (dueTimers allLoads s)
  dueHold .store (dueHold .editB (dueHold .editA s))

/-- A tenth of a second passes; nothing happens while RESET is held. -/
def tick (s : State) : State := if s.resetHeld then s else takeDue (advance s)

end Sys2Proof.Machine
end

