-- ==== Sys2Proof/Machine/Dispatch.lean ====
section
/-! DEFINITION. The meaning of every command, one arm per constructor. -/

namespace Sys2Proof.Machine

/-- What a command does to everything but the queue. -/
def exec (i : Instr) (s : State) : Host.Outcome State Fault Refusal :=
  match i with
  | .frameReceived p bytes => Sys2Proof.Machine.execFrameReceived p bytes s
  | .interByteGap p next => Sys2Proof.Machine.execInterByteGap p next s
  | .replySent p => Sys2Proof.Machine.execReplySent p s
  | .lineBreak p => Sys2Proof.Machine.execLineBreak p s
  | .portReset p seq => Sys2Proof.Machine.execPortReset p seq s
  | .openRun p seq cavity source slot watermark => Sys2Proof.Machine.execOpenRun p seq cavity source slot watermark s
  | .loadStep p seq cavity record => Sys2Proof.Machine.execLoadStep p seq cavity record s
  | .closeRun p seq cavity => Sys2Proof.Machine.execCloseRun p seq cavity s
  | .startRun p seq cavity delay => Sys2Proof.Machine.execStartRun p seq cavity delay s
  | .startLinked p seq delay => Sys2Proof.Machine.execStartLinked p seq delay s
  | .pauseRun p seq cavity => Sys2Proof.Machine.execPauseRun p seq cavity s
  | .resumeRun p seq cavity => Sys2Proof.Machine.execResumeRun p seq cavity s
  | .stopRun p seq cavity => Sys2Proof.Machine.execStopRun p seq cavity s
  | .clearRun p seq cavity => Sys2Proof.Machine.execClearRun p seq cavity s
  | .adoptRun p seq cavity => Sys2Proof.Machine.execAdoptRun p seq cavity s
  | .skipStep p seq cavity => Sys2Proof.Machine.execSkipStep p seq cavity s
  | .adjustStep p seq cavity presence target remaining steam => Sys2Proof.Machine.execAdjustStep p seq cavity presence target remaining steam s
  | .setWatch p seq cavity slot source relation value action => Sys2Proof.Machine.execSetWatch p seq cavity slot source relation value action s
  | .clearWatch p seq cavity slot => Sys2Proof.Machine.execClearWatch p seq cavity slot s
  | .readRun p seq cavity => Sys2Proof.Machine.execReadRun p seq cavity s
  | .ackPrompt p seq id => Sys2Proof.Machine.execAckPrompt p seq id s
  | .readPrompts p seq => Sys2Proof.Machine.execReadPrompts p seq s
  | .takeHold p seq object => Sys2Proof.Machine.execTakeHold p seq object s
  | .releaseHold p seq object => Sys2Proof.Machine.execReleaseHold p seq object s
  | .drainGen p seq => Sys2Proof.Machine.execDrainGen p seq s
  | .genReset p seq => Sys2Proof.Machine.execGenReset p seq s
  | .readGen p seq => Sys2Proof.Machine.execReadGen p seq s
  | .startDescale p seq => Sys2Proof.Machine.execStartDescale p seq s
  | .abortDescale p seq => Sys2Proof.Machine.execAbortDescale p seq s
  | .startRinse p seq => Sys2Proof.Machine.execStartRinse p seq s
  | .readDescale p seq => Sys2Proof.Machine.execReadDescale p seq s
  | .readWater p seq => Sys2Proof.Machine.execReadWater p seq s
  | .storeOpen p seq slot => Sys2Proof.Machine.execStoreOpen p seq slot s
  | .storeLabel p seq length label => Sys2Proof.Machine.execStoreLabel p seq length label s
  | .storeStep p seq record => Sys2Proof.Machine.execStoreStep p seq record s
  | .storeCommit p seq => Sys2Proof.Machine.execStoreCommit p seq s
  | .storeCancel p seq => Sys2Proof.Machine.execStoreCancel p seq s
  | .eraseProgram p seq slot => Sys2Proof.Machine.execEraseProgram p seq slot s
  | .readProgram p seq selector first => Sys2Proof.Machine.execReadProgram p seq selector first s
  | .setParam p seq id value => Sys2Proof.Machine.execSetParam p seq id value s
  | .readParam p seq id => Sys2Proof.Machine.execReadParam p seq id s
  | .saveSettings p seq => Sys2Proof.Machine.execSaveSettings p seq s
  | .readLoads p seq => Sys2Proof.Machine.execReadLoads p seq s
  | .readSensors p seq => Sys2Proof.Machine.execReadSensors p seq s
  | .clearLimit p seq cavity => Sys2Proof.Machine.execClearLimit p seq cavity s
  | .readCause p seq => Sys2Proof.Machine.execReadCause p seq s
  | .setCauseMask p seq mask => Sys2Proof.Machine.execSetCauseMask p seq mask s
  | .deviceReset inputs => Sys2Proof.Machine.execDeviceReset inputs s
  | .delayExpiry c => Sys2Proof.Machine.execDelayExpiry c s
  | .stepTimeExpiry c => Sys2Proof.Machine.execStepTimeExpiry c s
  | .feederTimeout c => Sys2Proof.Machine.execFeederTimeout c s
  | .doorTimeout c => Sys2Proof.Machine.execDoorTimeout c s
  | .regulationUpdate c => Sys2Proof.Machine.execRegulationUpdate c s
  | .offIntervalExpiry l => Sys2Proof.Machine.execOffIntervalExpiry l s
  | .onIntervalExpiry l => Sys2Proof.Machine.execOnIntervalExpiry l s
  | .pairOffExpiry c => Sys2Proof.Machine.execPairOffExpiry c s
  | .soakUpdate => Sys2Proof.Machine.execSoakUpdate s
  | .sensorSample x sample => Sys2Proof.Machine.execSensorSample x sample s
  | .probeInsertion c => Sys2Proof.Machine.execProbeInsertion c s
  | .probeRemoval c => Sys2Proof.Machine.execProbeRemoval c s
  | .doorOpen c => Sys2Proof.Machine.execDoorOpen c s
  | .doorClose c => Sys2Proof.Machine.execDoorClose c s
  | .tankRemoval => Sys2Proof.Machine.execTankRemoval s
  | .tankInsertion => Sys2Proof.Machine.execTankInsertion s
  | .limitTrip c => Sys2Proof.Machine.execLimitTrip c s
  | .limitRelease c => Sys2Proof.Machine.execLimitRelease c s
  | .mainsLow => Sys2Proof.Machine.execMainsLow s
  | .mainsBack => Sys2Proof.Machine.execMainsBack s
  | .mainsLowExpiry => Sys2Proof.Machine.execMainsLowExpiry s
  | .holdExpiry h => Sys2Proof.Machine.execHoldExpiry h s
  | .storeWriteComplete written => Sys2Proof.Machine.execStoreWriteComplete written s
  | .levelHighWet => Sys2Proof.Machine.execLevelHighWet s
  | .levelLowDry highDried => Sys2Proof.Machine.execLevelLowDry highDried s
  | .levelLowWet highDried => Sys2Proof.Machine.execLevelLowWet highDried s
  | .fillWatchdogStall => Sys2Proof.Machine.execFillWatchdogStall s
  | .windowEnd => Sys2Proof.Machine.execWindowEnd s
  | .idleDrain => Sys2Proof.Machine.execIdleDrain s
  | .drainComplete => Sys2Proof.Machine.execDrainComplete s
  | .drainFail => Sys2Proof.Machine.execDrainFail s
  | .heatSlow => Sys2Proof.Machine.execHeatSlow s
  | .flowPulse gap => Sys2Proof.Machine.execFlowPulse gap s
  | .quietTimeExpiry => Sys2Proof.Machine.execQuietTimeExpiry s
  | .soakTimeExpiry => Sys2Proof.Machine.execSoakTimeExpiry s
  | .promptTimeout o => Sys2Proof.Machine.execPromptTimeout o s
  | .resetHeld => Sys2Proof.Machine.execResetHeld s
  | .lineReturnToMark p => Sys2Proof.Machine.execLineReturnToMark p s

end Sys2Proof.Machine
end

