-- ==== Sys2Proof/Safety.lean ====
section
/-! DEFINITION. What the statements speak of: when a port takes an order, the order a command is, the invariants, and
what an event leaves as it was. -/

namespace Sys2Proof.Machine

/-! ## Orders -/

/-- RESET is not held, the port's line is not held in space, and the port holds no pending order: the next order frame
is checked and acted on (R177, R186, R198). -/
def Accepts (p : Port) (s : State) : Prop :=
  s.resetHeld = false ∧ (s.ports.get p).inBreak = false ∧ orderPending (s.ports.get p) = false

/-- The port, sequence and identifier of the order a command is (R181); `none` for an event. -/
def orderKey : Instr → Option (Port × Byte × Byte)
  | .openRun p q _ _ _ _ => some (p, q, 0x10)
  | .loadStep p q _ _ => some (p, q, 0x11)
  | .closeRun p q _ => some (p, q, 0x12)
  | .startRun p q _ _ => some (p, q, 0x13)
  | .startLinked p q _ => some (p, q, 0x14)
  | .pauseRun p q _ => some (p, q, 0x15)
  | .resumeRun p q _ => some (p, q, 0x16)
  | .stopRun p q _ => some (p, q, 0x17)
  | .clearRun p q _ => some (p, q, 0x18)
  | .adoptRun p q _ => some (p, q, 0x19)
  | .skipStep p q _ => some (p, q, 0x1A)
  | .adjustStep p q _ _ _ _ _ => some (p, q, 0x1B)
  | .setWatch p q _ _ _ _ _ _ => some (p, q, 0x1C)
  | .clearWatch p q _ _ => some (p, q, 0x1D)
  | .readRun p q _ => some (p, q, 0x1E)
  | .ackPrompt p q _ => some (p, q, 0x20)
  | .readPrompts p q => some (p, q, 0x21)
  | .takeHold p q _ => some (p, q, 0x28)
  | .releaseHold p q _ => some (p, q, 0x29)
  | .drainGen p q => some (p, q, 0x30)
  | .genReset p q => some (p, q, 0x31)
  | .readGen p q => some (p, q, 0x32)
  | .startDescale p q => some (p, q, 0x38)
  | .abortDescale p q => some (p, q, 0x39)
  | .startRinse p q => some (p, q, 0x3A)
  | .readDescale p q => some (p, q, 0x3B)
  | .readWater p q => some (p, q, 0x40)
  | .storeOpen p q _ => some (p, q, 0x48)
  | .storeLabel p q _ _ => some (p, q, 0x49)
  | .storeStep p q _ => some (p, q, 0x4A)
  | .storeCommit p q => some (p, q, 0x4B)
  | .storeCancel p q => some (p, q, 0x4C)
  | .eraseProgram p q _ => some (p, q, 0x4D)
  | .readProgram p q _ _ => some (p, q, 0x4E)
  | .setParam p q _ _ => some (p, q, 0x50)
  | .readParam p q _ => some (p, q, 0x51)
  | .saveSettings p q => some (p, q, 0x52)
  | .readLoads p q => some (p, q, 0x58)
  | .readSensors p q => some (p, q, 0x59)
  | .clearLimit p q _ => some (p, q, 0x5A)
  | .readCause p q => some (p, q, 0x60)
  | .setCauseMask p q _ => some (p, q, 0x61)
  | .portReset p q => some (p, q, 0x62)
  | _ => none

/-- The two bytes of a two-byte parameter, most significant first (R174). -/
def halfBytes (h : Half) : List Byte := [h.extractLsb' 8 8, h.extractLsb' 0 8]

/-- The parameter bytes of the order a command is (R182). -/
def orderParams : Instr → List Byte
  | .openRun _ _ c source slot watermark => [c, source, slot, watermark]
  | .loadStep _ _ c record => c :: record
  | .closeRun _ _ c | .pauseRun _ _ c | .resumeRun _ _ c | .stopRun _ _ c | .clearRun _ _ c | .adoptRun _ _ c
  | .skipStep _ _ c | .readRun _ _ c | .clearLimit _ _ c => [c]
  | .startRun _ _ c delay => c :: halfBytes delay
  | .startLinked _ _ delay => halfBytes delay
  | .adjustStep _ _ c presence target remaining steam => [c, presence, target] ++ halfBytes remaining ++ [steam]
  | .setWatch _ _ c slot source relation value action => [c, slot, source, relation] ++ halfBytes value ++ [action]
  | .clearWatch _ _ c slot => [c, slot]
  | .ackPrompt _ _ id => halfBytes id
  | .takeHold _ _ object | .releaseHold _ _ object => [object]
  | .storeOpen _ _ slot | .eraseProgram _ _ slot => [slot]
  | .storeLabel _ _ length label => length :: label
  | .storeStep _ _ record => record
  | .readProgram _ _ selector first => [selector, first]
  | .setParam _ _ id value => id :: value
  | .readParam _ _ id => [id]
  | .setCauseMask _ _ mask =>
    [mask.extractLsb' 24 8, mask.extractLsb' 16 8, mask.extractLsb' 8 8, mask.extractLsb' 0 8]
  | _ => []

/-- The order identifiers of R181. -/
def orderIds : List Byte :=
  [0x10, 0x11, 0x12, 0x13, 0x14, 0x15, 0x16, 0x17, 0x18, 0x19, 0x1A, 0x1B, 0x1C, 0x1D, 0x1E, 0x20, 0x21, 0x28, 0x29,
    0x30, 0x31, 0x32, 0x38, 0x39, 0x3A, 0x3B, 0x40, 0x48, 0x49, 0x4A, 0x4B, 0x4C, 0x4D, 0x4E, 0x50, 0x51, 0x52, 0x58,
    0x59, 0x5A, 0x60, 0x61, 0x62]

/-- The hold object a well-formed order needs (R178 check 4); `none` for the others and for a byte that names no
cavity. -/
def neededHold : Instr → Option HoldObject
  | .skipStep _ _ c | .adjustStep _ _ c _ _ _ _ | .setWatch _ _ c _ _ _ _ _ | .clearWatch _ _ c _ =>
    (cavityOf? c).map editHold
  | .storeOpen _ _ _ | .storeLabel _ _ _ _ | .storeStep _ _ _ | .storeCommit _ _ | .storeCancel _ _
  | .eraseProgram _ _ _ => some .store
  | _ => none

/-- The cavity a command acts on, for the commands that act on one cavity. -/
def commandCavity : Instr → Option Cavity
  | .openRun _ _ c _ _ _ | .loadStep _ _ c _ | .closeRun _ _ c | .startRun _ _ c _ | .pauseRun _ _ c
  | .resumeRun _ _ c | .stopRun _ _ c | .clearRun _ _ c | .adoptRun _ _ c | .skipStep _ _ c
  | .adjustStep _ _ c _ _ _ _ | .setWatch _ _ c _ _ _ _ _ | .clearWatch _ _ c _ | .readRun _ _ c
  | .clearLimit _ _ c => cavityOf? c
  | .stepTimeExpiry c | .feederTimeout c | .doorTimeout c | .regulationUpdate c | .pairOffExpiry c
  | .probeInsertion c | .probeRemoval c | .doorOpen c | .doorClose c | .limitTrip c | .limitRelease c => some c
  | .sensorSample .cavTempA _ | .sensorSample .coreA _ | .promptTimeout .cavityA => some .A
  | .sensorSample .cavTempB _ | .sensorSample .coreB _ | .promptTimeout .cavityB => some .B
  | _ => none

/-- The other cavity's queue, climate loop, pair and run record stay, but for the denial reason that the shared
generator may set there (R96). -/
def OtherSame (c : Cavity) (s t : State) : Prop :=
  t.queues.get (otherCavity c) = s.queues.get (otherCavity c)
    ∧ t.climates.get (otherCavity c) = s.climates.get (otherCavity c)
    ∧ t.pairs.get (otherCavity c) = s.pairs.get (otherCavity c)
    ∧ { t.runs.get (otherCavity c) with denial := none } = { s.runs.get (otherCavity c) with denial := none }

/-- A cavity's three drive timers are frozen. -/
def AllFrozen (c : Cavity) (s : State) : Prop :=
  (s.timers.get (topOf c)).frozen = true ∧ (s.timers.get (bottomOf c)).frozen = true
    ∧ (s.timers.get (ringOf c)).frozen = true

/-- A queue emptied (R20): the load counter keeps its value. -/
def emptied (q : StepQueue) : StepQueue :=
  { pending := [], retained := [], mark := false, loop := none, nextLoad := q.nextLoad, outstanding := false }

/-- A run record after an abort (R41). -/
def abortedRun (r : Run) (reason : AbortReason) : Run :=
  { Run.idle with state := .aborted, opened := r.opened, denial := r.denial, abortReason := some reason }

/-- A run record after a pause (R38), from RUNNING or STARVED. -/
def pausedRun (r : Run) (reason : PauseReason) : Run :=
  { r with
    state := .paused
    pausedFrom := if r.state = .starved then some .starved else some .running
    pauseReason := some reason
    deferred := false, doorSuspended := false, mainsHeld := false, doorTime := none }

/-- A step entered as the current step (R28): the run is RUNNING on the record, with its time and its phase by its
prompt and the approach test (R29) on a reading. -/
def EnteredStep (load : Nat) (a : Action) (band reading : Nat) (r : Run) : Prop :=
  r.state = .running ∧ r.current = some { load := load, action := a, band := a.band.getD band }
    ∧ r.remaining = a.duration.map (· * 10)
    ∧ r.phase = some (match entryPrompt a .before, a.target with
        | some _, _ => .entryPrompt
        | none, none => .hold
        | none, some t => if approachMet (caseOf t reading) t (a.band.getD band) reading then .hold else .heatup)

/-- The walk along a queue as it stands (R10 to R15), handling at most so many records: the ACTION record it consumes, if
any, and the queue it leaves; `none` while it is not at its end. -/
def walked : Nat → StepQueue → Option (Option (Nat × Action) × StepQueue)
  | 0, _ => none
  | n + 1, q =>
    match q.pending with
    | [] => some (none, q)
    | x :: rest =>
      match x.record with
      | .action a =>
        some (some (x.load, a), { q with
          pending := rest
          retained := if q.mark then q.retained ++ [{ load := x.load, action := a }] else q.retained })
      | .mark => walked n { q with pending := rest, retained := [], mark := true, loop := none }
      | .rep count =>
        let body : List Loaded := q.retained.map (fun k => { load := k.load, record := .action k.action })
        match q.mark, q.loop with
        | false, _ => walked n { q with pending := rest }
        | true, none => walked n { q with pending := body ++ x :: rest, retained := [], loop := some (count - 1) }
        | true, some 0 => walked n { q with pending := rest, retained := [], mark := false, loop := none }
        | true, some (k + 1) => walked n { q with pending := body ++ x :: rest, retained := [], loop := some k }

/-- A walk along the queue as it stands reaches an ACTION record, through the MARK and REPEAT records before it. -/
def WalkReaches (load : Nat) (a : Action) (q : StepQueue) : Prop :=
  (walked walkLimit q).map (·.1) = some (some (load, a))

/-- A run record after the entry to STARVED (R34), but for the denial reason, which the generator may set. -/
def starvedRun (r : Run) : Run := { r with state := .starved, phase := some .hold, starveTime := some 0 }

/-- A queue after a mark overrun (R16). -/
def overrunQueue (q : StepQueue) : StepQueue := { q with retained := [], mark := false, loop := none }

/-- A cause has been offered to a port (R189): unless its code is masked there, it stands in the set with this detail. -/
def Posted (x : Cause) (p : Port) (t : State) : Prop :=
  (t.attention.get p).mask.getLsbD (causeEntry x).code = true →
    ∃ e ∈ (t.attention.get p).causes, { e with count := 1 } = causeEntry x

/-- A run record but for the steam denial reason, which the shared generator may set at any event (R96). -/
def SameRun (r r' : Run) : Prop := { r with denial := none } = { r' with denial := none }

/-- The phase in which ENTRY_PROMPT is left, by the approach test on a reading (R29). -/
def leftEntry (step : CurrentStep) (reading : Nat) : Phase :=
  match step.action.target with
  | none => .hold
  | some goal => if approachMet (caseOf goal reading) goal step.band reading then .hold else .heatup

/-- A PAUSED run record after its resumption (R39): the state it was paused from, with the overlays of the inputs. -/
def resumedRun (c : Cavity) (r : Run) (s : State) : Run :=
  { r with
    state := if r.pausedFrom = some .starved then .starved else .running
    pausedFrom := none, pauseReason := none, deferred := false
    doorSuspended := s.doorOpen.get c, doorTime := if s.doorOpen.get c then some 0 else none, mainsHeld := s.mains.low }

/-- A resumption that changes nothing first and ends in no feeder timeout (R34, R39). -/
def ResumesInTime (r : Run) (s : State) : Prop :=
  r.deferred = false ∧ (r.pausedFrom = some .starved → r.starveTime.getD 0 < s.settings.feedTimeout * 10)

/-- A run has entered FINISHED (R33), its queue emptied. -/
def FinishedRun (c : Cavity) (s u : State) : Prop :=
  SameRun (u.runs.get c) { Run.idle with state := .finished, opened := (s.runs.get c).opened }
    ∧ u.queues.get c = emptied (s.queues.get c)

/-- A run `r` has entered STARVED (R34, R56) at the end of a walk that left the queue `q'`, after the mark overrun of
R16, its feeder told. -/
def EnteredStarved (c : Cavity) (f : Port) (r : Run) (q' : StepQueue) (s u : State) : Prop :=
  let leaves (q : StepQueue) : Prop := { u.queues.get c with outstanding := false } = { q with outstanding := false }
  SameRun (u.runs.get c) (starvedRun r)
    ∧ (u.climates.get c).loop.map (·.reached) = (s.climates.get c).loop.map (fun _ => true)
    ∧ (∀ p, Posted (.feedStarved c f (stepLoad r)) p u)
    ∧ (q'.mark = true ∧ q'.retained.length = 16 →
        leaves (overrunQueue q') ∧ Posted (.refill c 0) f u ∧ ∀ p, Posted (.markLost c 16) p u)
    ∧ (¬ (q'.mark = true ∧ q'.retained.length = 16) → leaves q')

/-- What an answer of a BEFORE or AFTER prompt, or its CONTINUE timeout, makes of a RUNNING run `r` (R32): BEFORE leaves
ENTRY_PROMPT by the approach test; AFTER ends the step, so that the walk's ACTION record is entered, or the run is
FINISHED or STARVED (R33). `happens` says that the command leads to a state with a property. -/
def AnswerActs (c : Cavity) (e : Prompt) (r : Run) (s : State) (happens : (State → Prop) → Prop) : Prop :=
  (∀ step, e.placement = .before → r.state = .running → r.phase = some .entryPrompt → r.current = some step →
      happens (fun u => (u.runs.get c).phase = some (leftEntry step (cavityReading c s))
        ∧ (u.runs.get c).state = .running ∧ (u.runs.get c).current = r.current
        ∧ (step.action.core = none → u.prompts.get (cavityOwner c) = none)))
    ∧ (e.placement = .after → r.state = .running → r.phase = some .exitPrompt →
        (∀ load a, WalkReaches load a (s.queues.get c) →
          happens (fun u => EnteredStep load a s.settings.approachBand (cavityReading c s) (u.runs.get c)))
        ∧ (∀ q', r.reader = none → isClosed r = true → walked walkLimit (s.queues.get c) = some (none, q') →
            happens (FinishedRun c s))
        ∧ (∀ q' f, r.reader = none → isClosed r = false → feederOf r = some f →
            walked walkLimit (s.queues.get c) = some (none, q') → happens (EnteredStarved c f r q' s)))

/-- A climate loop after one movement of its setpoint toward the target (R54): by ramp × 200 and the remainder over 60
hundredths, ending at the target; there the remainder is 0, also where a movement ends exactly there (log 25). -/
def SetpointMoved (step : CurrentStep) (goal : Nat) (l l' : Loop) : Prop :=
  let sum := step.action.ramp * 200 + l.remainder
  l'.case = l.case ∧ l'.reached = l.reached ∧ (l.setpoint = goal * 100 → l' = l)
    ∧ (l.setpoint < goal * 100 → l'.setpoint = min (goal * 100) (l.setpoint + sum / 60))
    ∧ (goal * 100 < l.setpoint → l'.setpoint = max (goal * 100) (l.setpoint - sum / 60))
    ∧ (l.setpoint ≠ goal * 100 → l'.remainder = if l'.setpoint = goal * 100 then 0 else sum % 60)

/-- The holds of a timer. -/
def holdsOf (l : Load) (s : State) : Nat × Nat := ((s.timers.get l).on, (s.timers.get l).off)

/-- A descale fill was complete at its start, with LEVEL_HIGH wet (R97, R133): recorded with volume 0; the solution's is in
HEAT_SOAK, a rinse's in RINSE_DRAIN. -/
def FilledAtOnce (purpose : Purpose) (src : WaterSource) (u : State) : Prop :=
  u.gen.state = .descale ∧ u.gen.fill = none ∧ u.meter.fill = none
    ∧ u.meter.latest = some { volume := 0, source := src, purpose := purpose }
    ∧ (if purpose = .descaleSolution then
        u.proc.phase = .heatSoak ∧ u.proc.solutionVolume = some 0 ∧ holdsOf .genHeat u = (200, 0)
      else u.proc.phase = .rinseDrain ∧ u.gen.afterDrain = some .report ∧ drainPump u = true)

/-- A load is waiting for power, or has been granted it, with an ON interval of this length before it (R61, R62). -/
def OnTheWay (l : Load) (hold : Nat) (s : State) : Prop :=
  (s.timers.get l).remaining = some hold
    ∧ ((s.arbiter.get l = .waiting ∧ (s.timers.get l).interval = .waiting)
      ∨ (s.arbiter.get l = .granted ∧ (s.timers.get l).interval = .onInterval))

/-- A state with the reply of an order put on its port's transmit line. -/
def replied (p : Port) (seq id : Byte) (a : Answer) (r : Results) (s : State) : State :=
  pushReply p .order { seq := seq, id := id, answer := a, results := r } s

/-- What a setting's owner does when a value is put in force (R195): the timeouts at or below the time counted expire it
(R34, R46, R106, R134), the thresholds and the overfill are tested (R122, R124, R100), the others change nothing else. -/
def SettingActs (x : SettingId) (v : Nat) (s u : State) : Prop :=
  (∀ c, x = .feedTimeout → (s.runs.get c).state = .starved →
      (v * 10 ≤ (s.runs.get c).starveTime.getD 0 → SameRun (u.runs.get c) (abortedRun (s.runs.get c) .feedLost)
        ∧ u.queues.get c = emptied (s.queues.get c) ∧ u.prompts.get (cavityOwner c) = none)
      ∧ ((s.runs.get c).starveTime.getD 0 < v * 10 → SameRun (u.runs.get c) (s.runs.get c)))
    ∧ (∀ c, x = .doorTimeout → (s.runs.get c).doorSuspended = true →
        ((s.runs.get c).state = .running ∨ (s.runs.get c).state = .starved) →
        (v * 10 ≤ (s.runs.get c).doorTime.getD 0 → SameRun (u.runs.get c) (pausedRun (s.runs.get c) .door)
          ∧ AllFrozen c u)
        ∧ ((s.runs.get c).doorTime.getD 0 < v * 10 → SameRun (u.runs.get c) (s.runs.get c)))
    ∧ (x = .idleDrain → s.gen.state = .ready →
        (anyDemand s = false → v * 10 ≤ s.gen.idleTime.getD 0 →
          u.gen.state = .draining ∧ u.gen.afterDrain = some .empty ∧ u.gen.drainTime = some 0 ∧ drainPump u = true)
        ∧ (s.gen.idleTime.getD 0 < v * 10 → u.gen = s.gen))
    ∧ (x = .soakTime → s.gen.state = .descale → s.proc.phase = .soak →
        (v * 10 ≤ s.proc.soakTime.getD 0 → u.proc.phase = .drainSolution ∧ u.proc.soakTime = none
          ∧ u.gen.afterDrain = some .report ∧ u.gen.drainTime = some 0 ∧ holdsOf .genHeat u = (0, 0)
          ∧ drainPump u = true)
        ∧ (s.proc.soakTime.getD 0 < v * 10 → u.proc = s.proc ∧ u.gen = s.gen))
    ∧ (x = .scaleWarn ∨ x = .scaleLock →
        u.scale = { s.scale with
          warn := s.scale.warn || decide (u.settings.scaleWarn ≤ s.scale.points)
          lock := s.scale.lock || decide (u.settings.scaleLock ≤ s.scale.points) }
        ∧ (∀ p, (s.scale.warn = false → u.scale.warn = true →
              Posted (.scaleWarn .setting s.scale.points u.settings.scaleWarn) p u)
            ∧ (s.scale.lock = false → u.scale.lock = true →
              Posted (.scaleLock .setting s.scale.points u.settings.scaleLock) p u))
        ∧ (∀ c, s.scale.lock = false → u.scale.lock = true → (s.gen.state = .empty ∨ s.gen.state = .draining) →
            demandOf (s.runs.get c) ≠ .absent → (u.runs.get c).denial = some .lock))
    ∧ (∀ m, x = .flowCal → s.meter.fill = some m →
        let overfull : Prop := 1500 < m.pulses * 100 / v ∧ s.gen.levelHighWet = false
        (overfull → s.gen.state ≠ .fault → u.gen.state = .fault ∧ u.gen.faultKind = some .overfill
          ∧ u.gen.faultFrom = some s.gen.state)
        ∧ (¬ overfull → u.gen = s.gen ∧ u.meter = s.meter))
    ∧ (x ∈ [.fence, .waterSource, .hardness, .propBand, .holdBias .A, .holdBias .B, .approachBand, .readyTemp, .soakTemp,
          .rinseCount, .holdTimeout] → u = { s with settings := setNumber s.settings x v })

/-- No count of a run, its climate loop or its prompt ends in the next tenth of a second (R27, R30, R34, R46, R52). -/
def RunNotDue (c : Cavity) (s : State) : Prop :=
  let r := s.runs.get c
  (r.state = .delayed → ∀ n, r.delay = some n → 1 < n)
    ∧ (r.state = .starved → ∀ n, r.starveTime = some n → n + 1 < s.settings.feedTimeout * 10)
    ∧ (r.doorSuspended = true → ∀ n, r.doorTime = some n → n + 1 < s.settings.doorTimeout * 10)
    ∧ (stepCounts r = true → ∀ n, r.remaining = some n → 1 < n)
    ∧ (counting r = true → ∀ n, (s.climates.get c).updateTime = some n → n + 1 < 20)

/-- No count of the generator, the meter or the descale controller ends in the next tenth of a second (R69, R98, R101,
R103, R106, R107, R117, R134). -/
def SteamNotDue (s : State) : Prop :=
  (s.proc.phase = .soak → ∀ n, s.gen.soakUpdate = some n → n + 1 < 20)
    ∧ (∀ n, s.proc.soakTime = some n → n + 1 < s.settings.soakTime * 10)
    ∧ (fillRunning s = true → ∀ f, s.gen.fill = some f → f.watchdog + 1 < 40)
    ∧ (∀ n, s.gen.dryTime = some n → n + 1 < 200)
    ∧ (∀ n, s.gen.drainTime = some n → n + 1 < 900)
    ∧ (s.gen.slowPosted = false → ∀ n, s.gen.heatAccount = some n → n + 1 < 3000)
    ∧ (∀ n, s.gen.windowTime = some n → n + 1 < 100)
    ∧ (∀ n, s.gen.idleTime = some n → n + 1 < s.settings.idleDrain * 10)
    ∧ (∀ f, s.meter.fill = some f → f.quiet + 1 < 40 ∨ (f.quiet = 40 ∧ f.period = none ∧ f.measuring = false))

/-- No count ends in the next tenth of a second: those of the runs, the generator and the meter, nor the low time, a
prompt's timeout, a drive interval or a hold's expiry (R171, R158, R61, R62, R184). -/
def NothingDue (s : State) : Prop :=
  RunNotDue .A s ∧ RunNotDue .B s ∧ SteamNotDue s
    ∧ (s.mains.expiryGiven = false → ∀ n, s.mains.lowTime = some n → n + 1 < 50)
    ∧ (∀ o e n, s.prompts.get o = some e → e.timeout = some n → 1 < n)
    ∧ (∀ l n, (s.timers.get l).frozen = false →
        ((s.timers.get l).interval = .onInterval ∨ (s.timers.get l).interval = .offInterval) →
        (s.timers.get l).remaining = some n → 1 < n)
    ∧ (∀ h k, s.holds.get h = some k → 1 < k.expiry)

/-! ## Invariants -/

/-- The invariant of the power chain (R74, R82): every rating within the budget, the chain a permutation of the seven
loads, the granted sum within the budget, and no grant while mains-low is present. -/
def PowerSafe (s : State) : Prop :=
  ratingsWithin s.settings = true ∧ chainOk s.settings.chain = true ∧ grantedSum s ≤ s.settings.budget
    ∧ (s.mains.low = true → ∀ l, s.arbiter.get l ≠ .granted)

/-- A cause set as R188 gives it: codes 1 to 31, each at most once, the highest first, counts 1 to 255. -/
def CauseSetOk (causes : List CauseEntry) : Prop :=
  (causes.map (·.code)).Pairwise (· > ·) ∧ ∀ e ∈ causes, 1 ≤ e.code ∧ e.code ≤ 31 ∧ 1 ≤ e.count ∧ e.count ≤ 255

/-- Every port's cause set is as R188 gives it. -/
def CausesOk (s : State) : Prop := ∀ p, CauseSetOk (s.attention.get p).causes

/-- A step queue as R6 and section 1.4 give it: at most 16 records, and without an active mark nothing retained and no
loop counter. -/
def QueueOk (q : StepQueue) : Prop :=
  occupied q ≤ 16 ∧ (q.mark = false → q.retained = [] ∧ q.loop = none)

/-- Both step queues are as R6 gives them. -/
def QueuesOk (s : State) : Prop := ∀ c, QueueOk (s.queues.get c)

/-- The sum of the ratings of the loads whose outputs are on (R88). -/
def outputSum (s : State) : Nat :=
  (allLoads.map (fun l => if loadOutput l s then s.settings.rating.get l else 0)).sum

/-! ## What may change -/

/-- The fields of State that something may change. -/
structure Parts where
  settings : Bool := false
  runs : Bool := false
  queues : Bool := false
  climates : Bool := false
  pairs : Bool := false
  timers : Bool := false
  arbiter : Bool := false
  gen : Bool := false
  meter : Bool := false
  scale : Bool := false
  proc : Bool := false
  store : Bool := false
  staging : Bool := false
  prompts : Bool := false
  promptCounter : Bool := false
  sensors : Bool := false
  doorOpen : Bool := false
  probePresent : Bool := false
  limitActive : Bool := false
  limitLatch : Bool := false
  tankPresent : Bool := false
  mains : Bool := false
  ports : Bool := false
  holds : Bool := false
  attention : Bool := false
  resetHeld : Bool := false
  freeIndex : Bool := false
  pending : Bool := false
  deriving DecidableEq, Repr

/-- `t` differs from `s` at most in the parts named: every other field of State is as it was. -/
def Within (f : Parts) (s t : State) : Prop :=
  (f.settings = false → t.settings = s.settings)
    ∧ (f.runs = false → t.runs = s.runs)
    ∧ (f.queues = false → t.queues = s.queues)
    ∧ (f.climates = false → t.climates = s.climates)
    ∧ (f.pairs = false → t.pairs = s.pairs)
    ∧ (f.timers = false → t.timers = s.timers)
    ∧ (f.arbiter = false → t.arbiter = s.arbiter)
    ∧ (f.gen = false → t.gen = s.gen)
    ∧ (f.meter = false → t.meter = s.meter)
    ∧ (f.scale = false → t.scale = s.scale)
    ∧ (f.proc = false → t.proc = s.proc)
    ∧ (f.store = false → t.store = s.store)
    ∧ (f.staging = false → t.staging = s.staging)
    ∧ (f.prompts = false → t.prompts = s.prompts)
    ∧ (f.promptCounter = false → t.promptCounter = s.promptCounter)
    ∧ (f.sensors = false → t.sensors = s.sensors)
    ∧ (f.doorOpen = false → t.doorOpen = s.doorOpen)
    ∧ (f.probePresent = false → t.probePresent = s.probePresent)
    ∧ (f.limitActive = false → t.limitActive = s.limitActive)
    ∧ (f.limitLatch = false → t.limitLatch = s.limitLatch)
    ∧ (f.tankPresent = false → t.tankPresent = s.tankPresent)
    ∧ (f.mains = false → t.mains = s.mains)
    ∧ (f.ports = false → t.ports = s.ports)
    ∧ (f.holds = false → t.holds = s.holds)
    ∧ (f.attention = false → t.attention = s.attention)
    ∧ (f.resetHeld = false → t.resetHeld = s.resetHeld)
    ∧ (f.freeIndex = false → t.freeIndex = s.freeIndex)
    ∧ (f.pending = false → t.pending = s.pending)

/-- Every part that `g` names, `f` names. -/
def Parts.covers (f g : Parts) : Bool :=
  (f.settings || !g.settings)
    && (f.runs || !g.runs)
    && (f.queues || !g.queues)
    && (f.climates || !g.climates)
    && (f.pairs || !g.pairs)
    && (f.timers || !g.timers)
    && (f.arbiter || !g.arbiter)
    && (f.gen || !g.gen)
    && (f.meter || !g.meter)
    && (f.scale || !g.scale)
    && (f.proc || !g.proc)
    && (f.store || !g.store)
    && (f.staging || !g.staging)
    && (f.prompts || !g.prompts)
    && (f.promptCounter || !g.promptCounter)
    && (f.sensors || !g.sensors)
    && (f.doorOpen || !g.doorOpen)
    && (f.probePresent || !g.probePresent)
    && (f.limitActive || !g.limitActive)
    && (f.limitLatch || !g.limitLatch)
    && (f.tankPresent || !g.tankPresent)
    && (f.mains || !g.mains)
    && (f.ports || !g.ports)
    && (f.holds || !g.holds)
    && (f.attention || !g.attention)
    && (f.resetHeld || !g.resetHeld)
    && (f.freeIndex || !g.freeIndex)
    && (f.pending || !g.pending)

/-- The drive timers and the arbiter's sets. -/
def Parts.power : Parts := { timers := true, arbiter := true }
/-- The drive timers, the pairs and the arbiter's sets. -/
def Parts.drive : Parts := { timers := true, arbiter := true, pairs := true }
/-- The climate loops and what they drive. -/
def Parts.heat : Parts := { timers := true, arbiter := true, pairs := true, climates := true }
/-- The prompt table and the cause sets. -/
def Parts.table : Parts := { prompts := true, promptCounter := true, attention := true }
/-- The generator, the meter, the scale account with its saves, the heater, the denial reasons, prompts and causes. -/
def Parts.steam : Parts :=
  { gen := true, meter := true, scale := true, store := true, timers := true, arbiter := true, runs := true
    prompts := true, promptCounter := true, attention := true }
/-- The steam side and the descale controller. -/
def Parts.descale : Parts :=
  { gen := true, meter := true, scale := true, store := true, timers := true, arbiter := true, runs := true
    prompts := true, promptCounter := true, attention := true, proc := true, freeIndex := true }
/-- A step queue with its reader: the queues, the run record and the cause sets. -/
def Parts.queue : Parts := { queues := true, runs := true, attention := true }
/-- What the events of a run can reach: everything but the descale controller, the inputs, the ports, the holds, the
staging buffer, the settings and the command queue. -/
def Parts.run : Parts :=
  { runs := true, queues := true, climates := true, pairs := true, timers := true, arbiter := true, gen := true
    meter := true, scale := true, store := true, prompts := true, promptCounter := true, attention := true }
/-- What an answered prompt or a settings change can reach: the runs, the steam side and the descale controller. -/
def Parts.answer : Parts := { Parts.run with proc := true, freeIndex := true }
/-- What an input event can reach: its own record as well. -/
def Parts.input : Parts :=
  { Parts.answer with
    sensors := true, doorOpen := true, probePresent := true, limitActive := true, limitLatch := true
    tankPresent := true, mains := true }
/-- What the completion of a store write can reach. -/
def Parts.write : Parts := { store := true, scale := true, proc := true, attention := true }
/-- What the passing of time can reach: no setting, no input but the low time, no port and no queued command. -/
def Parts.time : Parts := { Parts.answer with holds := true, staging := true, mains := true }

end Sys2Proof.Machine
end

