-- ==== Sys2Proof/Certificates/Slice0/Obligations.lean ====
section
/-! DEFINITION. The statements for the provers. Each is a proposition about the model; the rules of spec/ it follows
stand in OBLIGATIONS.json. Where a statement rests on a choice of the model, its docstring names the log entry. -/

open Sys2Proof Sys2Proof.Machine

/-! ## Steps, resets and invariants -/

/-- A step takes the command at the front of the queue: it is `exec` of that command on the state with the queue's
rest (the queue: log 2); and every command has a next state in every state: none faults and none is refused (the model's
reading of a spec that gives every command an effect, log 31). -/
def Obligations.StepTakesFrontCommandAndCompletes : Prop :=
  (∀ (c : Instr) (cs : List Instr) (s : State), s.pending = c :: cs → step s = exec c { s with pending := cs })
  ∧ (∀ (i : Instr) (s : State), ∃ t, exec i s = .next t)

/-- On an empty queue a tenth of a second passes (model's choice, log 2): nothing while RESET is held; otherwise no
setting, input, port or queued command changes, and every hold's expiry falls by a tenth, the hold expiring at 0
(R184). In a tenth in which no count ends, every count moves by its own rule, and nothing else changes: the delay and the
remaining time fall (R27, R30), the starve, door and update times grow (R34, R46, R52), a drive interval falls and a
wait grows (R61, R62, R65), the generator's times grow (R69, R98, R101, R103, R106, R107), the quiet time and the
soak time grow (R117, R134), a prompt's timeout falls (R158), the low time grows (R171). -/
def Obligations.TimePassesOnEmptyQueue : Prop :=
  ∀ s : State, s.pending = [] →
    (s.resetHeld = true → step s = .next s)
    ∧ (s.resetHeld = false → ∃ t, step s = .next t ∧ Within .time s t ∧ t.mains.low = s.mains.low
        ∧ ∀ h, t.holds.get h
            = (s.holds.get h).bind (fun k => if k.expiry ≤ 1 then none else some { k with expiry := k.expiry - 1 }))
    ∧ (s.resetHeld = false → NothingDue s →
        let up (runs : Prop) [Decidable runs] (x : Option Nat) : Option Nat := if runs then x.map (· + 1) else x
        let down (runs : Prop) [Decidable runs] (x : Option Nat) : Option Nat := if runs then x.map (· - 1) else x
        let supplied := s.mains.low = false
        ∃ t, step s = .next t
          ∧ (∀ c, t.runs.get c = { s.runs.get c with
              delay := down ((s.runs.get c).state = .delayed) (s.runs.get c).delay
              remaining := down (stepCounts (s.runs.get c) = true) (s.runs.get c).remaining
              starveTime := up ((s.runs.get c).state = .starved) (s.runs.get c).starveTime
              doorTime := up ((s.runs.get c).doorSuspended = true) (s.runs.get c).doorTime })
          ∧ (∀ c, t.climates.get c = { s.climates.get c with
              updateTime := up (counting (s.runs.get c) = true) (s.climates.get c).updateTime })
          ∧ (∀ l, t.timers.get l = { s.timers.get l with
              remaining := down ((s.timers.get l).frozen = false
                ∧ ((s.timers.get l).interval = .onInterval ∨ (s.timers.get l).interval = .offInterval))
                (s.timers.get l).remaining
              waited := if (s.timers.get l).frozen = false ∧ (s.timers.get l).interval = .waiting
                then min 4294967295 ((s.timers.get l).waited + 1) else (s.timers.get l).waited })
          ∧ t.gen = { s.gen with
              fill := s.gen.fill.map (fun f =>
                { f with watchdog := if fillRunning s = true ∧ supplied then f.watchdog + 1 else f.watchdog })
              drainTime := up (drainRunning s = true ∧ supplied ∧ s.gen.levelLowWet = true) s.gen.drainTime
              dryTime := up (drainRunning s = true ∧ supplied ∧ s.gen.levelLowWet = false) s.gen.dryTime
              heatAccount := up (s.gen.state = .heating ∧ s.arbiter.genHeat = .granted ∧ s.gen.slowPosted = false)
                s.gen.heatAccount
              windowTime := up (s.gen.state = .ready ∨ s.gen.state = .delivering) s.gen.windowTime
              idleTime := up (s.gen.state = .ready ∧ anyDemand s = false) s.gen.idleTime
              soakUpdate := up (s.proc.phase = .soak ∧ supplied) s.gen.soakUpdate }
          ∧ t.meter = { s.meter with fill := s.meter.fill.map (fun f => { f with quiet := min 40 (f.quiet + 1) }) }
          ∧ t.proc = { s.proc with soakTime := up (s.proc.phase = .soak ∧ supplied) s.proc.soakTime }
          ∧ (∀ o, t.prompts.get o = (s.prompts.get o).map (fun e =>
              { e with timeout := down (e.timedOut = false) e.timeout }))
          ∧ t.mains = { s.mains with
              lowTime := up (s.mains.low = true ∧ s.mains.expiryGiven = false) s.mains.lowTime }
          ∧ Within { runs := true, climates := true, timers := true, gen := true, meter := true, proc := true
                     prompts := true, mains := true, holds := true } s t)

/-- What reset leaves of the values the rules state (R6, R21, R51, R61, R74, R115, R152, R154, R173, R183, R188, R194). -/
def Obligations.ResetLeavesStatedValues : Prop :=
  let s := State.reset
  s.settings = Settings.default
    ∧ (∀ c, (s.queues.get c).pending = [] ∧ (s.queues.get c).retained = [] ∧ (s.queues.get c).mark = false
        ∧ (s.queues.get c).loop = none ∧ (s.queues.get c).nextLoad = 1 ∧ (s.queues.get c).outstanding = false)
    ∧ (∀ c, (s.runs.get c).state = .idle ∧ (s.runs.get c).opened = none ∧ (s.runs.get c).current = none)
    ∧ (∀ c, (s.climates.get c).loop = none ∧ (s.climates.get c).demand = 0 ∧ (s.climates.get c).watch1 = none
        ∧ (s.climates.get c).watch2 = none)
    ∧ (∀ l, (s.timers.get l).interval = .idle ∧ holdsOf l s = (0, 0) ∧ (s.timers.get l).remaining = none
        ∧ (s.timers.get l).waited = 0 ∧ s.arbiter.get l = .none ∧ loadOutput l s = false)
    ∧ grantedSum s = 0 ∧ breakLoad s = none
    ∧ s.meter = { fill := none, latest := none, total := 0, stray := 0 }
    ∧ s.store.waiting = [] ∧ s.store.inFlight = none ∧ s.staging = none
    ∧ (∀ o, s.prompts.get o = none) ∧ s.promptCounter = 1
    ∧ (∀ p, (s.ports.get p).receiver = .hunting ∧ (s.ports.get p).replies = [])
    ∧ (∀ h, s.holds.get h = none)
    ∧ (∀ p, (s.attention.get p).mask = 0xFFFFFFFE#32 ∧ attn p s = true
        ∧ ∃ e ∈ (s.attention.get p).causes, e.code = 1 ∧ e.count = 1)

/-- The three invariants hold after reset. -/
def Obligations.InvariantsHoldAtReset : Prop := PowerSafe State.reset ∧ CausesOk State.reset ∧ QueuesOk State.reset

/-- RESET held (R198): every output is off, the ATTN lines are released, and every command but the end of the reset
changes nothing (log 23). -/
def Obligations.ResetHeldSilencesThePart : Prop :=
  (∀ s : State, exec .resetHeld s = .next { s with resetHeld := true })
    ∧ (∀ s : State, s.resetHeld = true →
        (∀ l, loadOutput l s = false) ∧ (∀ c, fanLevel c s = .off ∧ steamValve c s = false) ∧ (∀ p, attn p s = false)
          ∧ tankPump s = false ∧ inletValve s = false ∧ drainPump s = false)
    ∧ (∀ (i : Instr) (s : State), s.resetHeld = true → (∀ inputs, i ≠ .deviceReset inputs) → exec i s = .next s)

/-- The end of a device reset (R200): the settings and the scale account from the intact stored records, every run
IDLE, every queue empty, no grant, no hold, no prompt, the inputs as found, a limit found ACTIVE latched, the generator
in its start-up state (R114) or in FAULT for a faulted GEN_TEMP, every sensor's record from its first sample (R161; the
in-range flag of an unsampled core sensor: log 29), STARTED in every cause set with its default mask, the installed
programs kept, and the rinse owed that the saved procedure record gives (R141). The model's choices: the reset is taken
whether or not RESET was held and keeps the command queue (log 23), which stored records are found spoiled is an operand
(log 27), and no port counts a line break as taken already (log 49). -/
def Obligations.DeviceResetStartsThePart : Prop :=
  ∀ (inputs : StartInputs) (s : State), ∃ t, exec (.deviceReset inputs) s = .next t
    ∧ t.resetHeld = false ∧ t.pending = s.pending
    ∧ t.settings = (validStored { s with store := storeAfterReset inputs s.store }).getD Settings.default
    ∧ t.runs = ⟨Run.idle, Run.idle⟩ ∧ t.queues = ⟨StepQueue.reset, StepQueue.reset⟩
    ∧ t.climates = ⟨Climate.reset, Climate.reset⟩ ∧ t.pairs = ⟨Pair.none, Pair.none⟩
    ∧ (∀ l, t.arbiter.get l = .none ∧ holdsOf l t = (0, 0) ∧ loadOutput l t = false)
    ∧ t.prompts = ⟨none, none, none, none⟩ ∧ t.promptCounter = 1 ∧ t.staging = none ∧ t.holds = ⟨none, none, none⟩
    ∧ t.ports = ⟨PortRecord.reset, PortRecord.reset, PortRecord.reset⟩ ∧ t.meter = Meter.reset
    ∧ t.doorOpen = ⟨inputs.doorOpenA, inputs.doorOpenB⟩ ∧ t.probePresent = ⟨inputs.probePresentA, inputs.probePresentB⟩
    ∧ t.limitActive = ⟨inputs.limitActiveA, inputs.limitActiveB⟩ ∧ t.limitLatch = t.limitActive
    ∧ t.tankPresent = inputs.tankPresent ∧ t.mains.low = inputs.mainsLow
    ∧ t.store.slots = s.store.slots ∧ t.proc.phase = .idle ∧ t.proc.kind = none
    ∧ (intactValue (spoil inputs.procedureSpoiled s.store.procedure) = none → t.proc.rinseOwed = false)
    ∧ (∀ r, intactValue (spoil inputs.procedureSpoiled s.store.procedure) = some r →
        t.proc.rinseOwed =
          (if r.phase = .idle ∨ r.phase = .done then r.rinseOwed
           else if r.kind = some .rinse then true
           else if r.phase = .prepDrain ∨ r.phase = .waitSolution then r.rinseOwed else true)
        ∧ (r.rinseOwed ≠ t.proc.rinseOwed ∨ r.phase ≠ .idle → t.proc.savedPhase = some .idle))
    ∧ t.scale.points = ((intactValue (spoil inputs.scaleSpoiled s.store.scale)).map (·.points)).getD 0
    ∧ t.scale.carry = ((intactValue (spoil inputs.scaleSpoiled s.store.scale)).map (·.carry)).getD 0
    ∧ (let first (x : Sensor) (sample : Sample) : SensorRecord :=
        match inRangeReading x sample with
        | some n => { status := .valid, reading := some n, runTime := none, inRange := true }
        | none => { status := .faulted, reading := none, runTime := none, inRange := false }
       let core (x : Sensor) (present : Bool) (sample : Sample) : SensorRecord :=
        if present then first x sample else { status := .absent, reading := none, runTime := none, inRange := false }
       t.sensors = {
        cavTempA := first .cavTempA inputs.cavTempA, cavTempB := first .cavTempB inputs.cavTempB
        coreA := core .coreA inputs.probePresentA inputs.coreA
        coreB := core .coreB inputs.probePresentB inputs.coreB
        genTemp := first .genTemp inputs.genTemp })
    ∧ t.scale.warn = decide (t.settings.scaleWarn ≤ t.scale.points)
    ∧ t.scale.lock = decide (t.settings.scaleLock ≤ t.scale.points)
    ∧ t.gen.state =
        (if inRangeReading .genTemp inputs.genTemp = none then .fault
         else if t.proc.rinseOwed = true ∨ inputs.levelLowWet = true then .draining else .empty)
    ∧ (∀ p, (t.attention.get p).mask = defaultMask
        ∧ ∃ e ∈ (t.attention.get p).causes, e.code = 1 ∧ e.count = 1
          ∧ e.reason = if (validStored { s with store := storeAfterReset inputs s.store }).isSome then 0 else 1)

/-- Every step keeps the power chain safe (R74, R82): every rating within the budget, the chain naming each load once,
the granted sum within the budget, no grant while mains-low is present. -/
def Obligations.EveryStepKeepsThePowerChainSafe : Prop :=
  ∀ s t : State, PowerSafe s → step s = .next t → PowerSafe t

/-- Every step keeps the cause sets as R188 gives them: codes 1 to 31, each once, the highest first, counts 1 to 255. -/
def Obligations.EveryStepKeepsTheCauseSetsOrdered : Prop :=
  ∀ s t : State, CausesOk s → step s = .next t → CausesOk t

/-- Every step keeps the step queues as R6 and section 1.4 give them: at most 16 records, and without an active mark
nothing retained and no loop counter. -/
def Obligations.EveryStepKeepsTheQueuesWithinTheirSlots : Prop :=
  ∀ s t : State, QueuesOk s → step s = .next t → QueuesOk t

/-- A command on one cavity leaves the other cavity's queue, climate loop, pair and run as they were, but for the denial
reason that the shared generator may set (R6, R96). -/
def Obligations.OtherCavityIsLeftAlone : Prop :=
  ∀ (i : Instr) (c : Cavity) (s t : State), commandCavity i = some c → exec i s = .next t → OtherSame c s t

/-! ## Ports and frames -/

/-- An order frame on a port with a pending order (R177): answered BUSY, or dropped where a BUSY is owed already. A BUSY
is owed while it has not begun to leave, which the model reads as not being the first reply on the line (log 11). -/
def Obligations.OrderOnAPendingPortIsBusyOrDropped : Prop :=
  ∀ (i : Instr) (p : Port) (q id : Byte) (s : State), orderKey i = some (p, q, id) → s.resetHeld = false →
    (s.ports.get p).inBreak = false → orderPending (s.ports.get p) = true →
    (busyOwed (s.ports.get p) = true → exec i s = .next s)
    ∧ (busyOwed (s.ports.get p) = false → exec i s = .next { s with
        ports := s.ports.set p { s.ports.get p with
          replies := (s.ports.get p).replies
            ++ [{ kind := .busy, reply := { seq := q, id := id, answer := .busy, results := .none } }] } })

/-- An accepted order gets exactly one reply, on its own port, with its sequence and identifier echoed, and no other
port's line or receiver changes (R174, R177); PORT_RESET has its own statement. -/
def Obligations.AcceptedOrderGetsOneReply : Prop :=
  ∀ (i : Instr) (p : Port) (q id : Byte) (s : State), orderKey i = some (p, q, id) → id ≠ 0x62 → Accepts p s →
    ∃ (a : Answer) (r : Results) (t : State), exec i s = .next t
      ∧ t.ports = s.ports.set p { s.ports.get p with
          replies := (s.ports.get p).replies
            ++ [{ kind := .order, reply := { seq := q, id := id, answer := a, results := r } }] }

/-- The frame of an order is the order (R174, R175, R181, R182): the bytes of an order's frame, received by a hunting
receiver, do what the order does, whatever its parameters. -/
def Obligations.FrameOfAnOrderIsTheOrder : Prop :=
  ∀ (i : Instr) (p : Port) (q id : Byte) (s : State), orderKey i = some (p, q, id) →
    (orderParams i).length ≤ 60 → s.resetHeld = false → (s.ports.get p).inBreak = false →
    (s.ports.get p).receiver = .hunting →
    exec (.frameReceived p (orderFrame q id (orderParams i))) s = exec i s

/-- What the receiver discards (R173): bytes that are no start byte, a frame with a bad length, a frame whose check
differs; and after a gap the byte that ends it is looked at as in hunting. A received frame whose identifier names no
order is answered UNKNOWN and changes nothing else (R178 check 1). -/
def Obligations.ReceiverDiscardsNonFramesAndAnswersUnknown : Prop :=
  (∀ (p : Port) (s : State), s.resetHeld = false → (s.ports.get p).inBreak = false →
     ((s.ports.get p).receiver = .hunting →
       (∀ bytes, (0xA5 : Byte) ∉ bytes → exec (.frameReceived p bytes) s = .next s)
       ∧ (∀ len : Byte, len.toNat < 2 ∨ 62 < len.toNat → exec (.frameReceived p [0xA5, len]) s = .next s)
       ∧ (∀ (len c1 c2 : Byte) (body : List Byte), 2 ≤ len.toNat → len.toNat ≤ 62 → body.length = len.toNat →
           [c1, c2] ≠ checkBytes (crc16 (len :: body)) →
           exec (.frameReceived p (0xA5 :: len :: body ++ [c1, c2])) s = .next s))
     ∧ (∀ b : Byte, exec (.interByteGap p b) s = .next { s with
         ports := s.ports.set p { s.ports.get p with receiver := if b = 0xA5 then .length else .hunting } }))
  ∧ (∀ (p : Port) (q id : Byte) (params : List Byte) (s : State), id ∉ orderIds → params.length ≤ 60 → Accepts p s →
       (s.ports.get p).receiver = .hunting →
       exec (.frameReceived p (orderFrame q id params)) s = .next (replied p q id .unknown .none s))

/-- The line events (R177, R186): a reply that has left the line is no longer on it; the line returns to mark; a break
already taken is not taken again, and a fresh one resets the port (R187) and holds the receiver. A port reset, by a line
break or by PORT_RESET (R187): the receiver hunts, what has begun to leave is sent to its end and the rest dropped (that
this is the first reply on the line: log 11), the port's holds are free and the staging buffer discarded with STORE, and
its cause set holds STARTED alone with the default mask; PORT_RESET is answered DONE; nothing else changes. -/
def Obligations.LineEventsAndPortResetActOnTheirPort : Prop :=
  (∀ (p : Port) (s : State), s.resetHeld = false →
     exec (.replySent p) s = .next { s with
       ports := s.ports.set p { s.ports.get p with replies := (s.ports.get p).replies.tail } }
     ∧ exec (.lineReturnToMark p) s = .next { s with ports := s.ports.set p { s.ports.get p with inBreak := false } }
     ∧ ((s.ports.get p).inBreak = true → exec (.lineBreak p) s = .next s)
     ∧ ((s.ports.get p).inBreak = false → ∃ t, exec (.lineBreak p) s = .next t
         ∧ (t.ports.get p).receiver = .hunting ∧ (t.ports.get p).inBreak = true
         ∧ (t.ports.get p).replies.map (·.reply) = ((s.ports.get p).replies.take 1).map (·.reply)
         ∧ orderPending (t.ports.get p) = false
         ∧ t.attention.get p = { causes := [detail 1 0 2 0 0], mask := defaultMask }
         ∧ (∀ h, t.holds.get h = if (s.holds.get h).map (·.holder) = some p then none else s.holds.get h)
         ∧ t.staging = (if (s.holds.store).map (·.holder) = some p then none else s.staging)
         ∧ (∀ x, x ≠ p → t.ports.get x = s.ports.get x ∧ t.attention.get x = s.attention.get x)
         ∧ Within { ports := true, holds := true, staging := true, attention := true } s t))
  ∧ (∀ (p : Port) (q : Byte) (s : State), Accepts p s → ∃ t, exec (.portReset p q) s = .next t
       ∧ t.ports.get p = (
           let answer : Reply := { seq := q, id := 0x62, answer := .done, results := .none }
           { receiver := .hunting, inBreak := false
             replies := (s.ports.get p).replies.take 1 ++ [{ kind := .order, reply := answer }] })
       ∧ t.attention.get p = { causes := [detail 1 0 2 0 0], mask := defaultMask }
       ∧ (∀ h, t.holds.get h = if (s.holds.get h).map (·.holder) = some p then none else s.holds.get h)
       ∧ t.staging = (if (s.holds.store).map (·.holder) = some p then none else s.staging)
       ∧ (∀ x, x ≠ p → t.ports.get x = s.ports.get x ∧ t.attention.get x = s.attention.get x)
       ∧ Within { ports := true, holds := true, staging := true, attention := true } s t)

/-! ## Holds and causes -/

/-- TAKE_HOLD (R183): a free object or the port's own is held with HOLD_TIMEOUT; another port's is left as it is, and
its expiry is reported in seconds not yet wholly counted (log 34). -/
def Obligations.TakeHoldGivesOneHolder : Prop :=
  ∀ (p : Port) (q b : Byte) (s : State), Accepts p s →
    (∀ h, holdOf? b = some h → (∀ k, s.holds.get h = some k → k.holder = p) →
      exec (.takeHold p q b) s = .next (replied p q 0x28 .done (.hold s.settings.holdTimeout)
        { s with holds := s.holds.set h (some { holder := p, expiry := s.settings.holdTimeout * 10 }) }))
    ∧ (∀ h k, holdOf? b = some h → s.holds.get h = some k → k.holder ≠ p →
      exec (.takeHold p q b) s = .next (replied p q 0x28 .held (.heldBy k.holder ((k.expiry + 9) / 10)) s))
    ∧ (holdOf? b = none → exec (.takeHold p q b) s = .next (replied p q 0x28 .range .none s))

/-- RELEASE_HOLD (R185). HOLD_EXPIRY (R184): the object is free, HOLD_LOST goes to the old holder only, and STORE's
staging buffer is discarded; a free object expires no more (log 3). -/
def Obligations.HoldsAreReleasedAndExpire : Prop :=
  (∀ (p : Port) (q b : Byte) (s : State), Accepts p s →
     (∀ h k, holdOf? b = some h → s.holds.get h = some k → k.holder = p →
       exec (.releaseHold p q b) s = .next (replied p q 0x29 .done .none
         { s with holds := s.holds.set h none, staging := if h = .store then none else s.staging }))
     ∧ (∀ h, holdOf? b = some h → (∀ k, s.holds.get h = some k → k.holder ≠ p) →
       exec (.releaseHold p q b) s = .next (replied p q 0x29 .notHolder .none s))
     ∧ (holdOf? b = none → exec (.releaseHold p q b) s = .next (replied p q 0x29 .range .none s)))
  ∧ (∀ (h : HoldObject) (s : State), s.resetHeld = false →
       (s.holds.get h = none → exec (.holdExpiry h) s = .next s)
       ∧ (∀ k, s.holds.get h = some k → exec (.holdExpiry h) s = .next
           { s with
             holds := s.holds.set h none
             staging := if h = .store then none else s.staging
             attention := s.attention.set k.holder (offer (detail 6 (holdCode h) 0 0 0) (s.attention.get k.holder)) }))

/-- The hold check (R178 check 4, R184): without the hold the order is answered NOT_HOLDER and changes nothing; from the
holder it restarts the expiry, whatever the block answers. -/
def Obligations.OrdersThatNeedAHoldAreChecked : Prop :=
  ∀ (i : Instr) (p : Port) (q id : Byte) (h : HoldObject) (s : State), orderKey i = some (p, q, id) →
    neededHold i = some h → WellFormed i = true → Accepts p s →
    ((∀ k, s.holds.get h = some k → k.holder ≠ p) → exec i s = .next (replied p q id .notHolder .none s))
    ∧ (∀ k, s.holds.get h = some k → k.holder = p → ∃ t, exec i s = .next t
        ∧ t.holds = s.holds.set h (some { holder := p, expiry := s.settings.holdTimeout * 10 }))

/-- READ_CAUSE (R191): the highest code present is read out and removed, with the number left; an empty set reads as
zeros; the other ports' sets stay. Bytes 5 to 12 of the reply frame are the eight bytes of the detail (R175, R176). -/
def Obligations.ReadCauseTakesTheHighestCode : Prop :=
  ∀ (p : Port) (q : Byte) (s : State), Accepts p s →
    ((s.attention.get p).causes = [] → exec (.readCause p q) s = .next (replied p q 0x60 .done
      (.cause { code := 0, count := 0, subject := 0, reason := 0, value1 := 0, value2 := 0 } 0) s))
    ∧ (∀ e es, (s.attention.get p).causes = e :: es →
        exec (.readCause p q) s = .next (replied p q 0x60 .done (.cause e es.length)
          { s with attention := s.attention.set p { s.attention.get p with causes := es } })
        ∧ (CauseSetOk (e :: es) → (∀ x ∈ es, x.code < e.code) ∧ es.length ≤ 30)
        ∧ ((replyFrame { seq := q, id := 0x60, answer := .done, results := .cause e es.length }).drop 5).take 8
            = [toByte e.code, toByte e.count, e.subject, e.reason] ++ checkBytes e.value1 ++ checkBytes e.value2)

/-- SET_CAUSE_MASK (R192): a mask with the flag of code 0 is refused; else the mask is replaced whole, no entry is
removed, the other ports' masks stay, and a masked code is kept from the set. -/
def Obligations.SetCauseMaskReplacesTheMask : Prop :=
  ∀ (p : Port) (q : Byte) (m : BitVec 32) (s : State), Accepts p s →
    (m.getLsbD 0 = true → exec (.setCauseMask p q m) s = .next (replied p q 0x61 .range .none s))
    ∧ (m.getLsbD 0 = false →
        exec (.setCauseMask p q m) s = .next (replied p q 0x61 .done (.mask m)
          { s with attention := s.attention.set p { s.attention.get p with mask := m } })
        ∧ ∀ (x : Cause) (t : State), (t.attention.get p).mask = m → m.getLsbD (causeEntry x).code = false →
            ((post p x t).attention.get p) = t.attention.get p)

/-- Offering a cause to a port (R189): nothing where its code is masked; else the code stands in the set with the posted
detail, its count 1 or one more than before up to 255, and every other code stands as it did. -/
def Obligations.OfferedCauseIsAddedOrCoalesced : Prop :=
  ∀ (x : Cause) (a : Attention), CauseSetOk a.causes →
    (a.mask.getLsbD (causeEntry x).code = false → offer (causeEntry x) a = a)
    ∧ (a.mask.getLsbD (causeEntry x).code = true →
        (offer (causeEntry x) a).mask = a.mask ∧ CauseSetOk (offer (causeEntry x) a).causes
        ∧ (offer (causeEntry x) a).causes.find? (fun e => e.code == (causeEntry x).code)
            = some { causeEntry x with
                count := match a.causes.find? (fun e => e.code == (causeEntry x).code) with
                  | none => 1
                  | some y => min 255 (y.count + 1) }
        ∧ ∀ n, n ≠ (causeEntry x).code →
            (offer (causeEntry x) a).causes.find? (fun e => e.code == n) = a.causes.find? (fun e => e.code == n))

/-- The reading orders change nothing but their port's line, and answer DONE with their report; a selector that names
nothing is answered RANGE (R50, R90, R113, R127, R143, R151, R160, R172, R196). The reports are the model's typed
results (log 10), with times in whole seconds (log 34). -/
def Obligations.ReadingOrdersChangeNothing : Prop :=
  ∀ (p : Port) (q : Byte) (s : State), Accepts p s →
    (∀ b c, cavityOf? b = some c → exec (.readRun p q b) s = .next (replied p q 0x1E .done (.run (runReport c s)) s))
    ∧ (∀ b, cavityOf? b = none → exec (.readRun p q b) s = .next (replied p q 0x1E .range .none s))
    ∧ exec (.readPrompts p q) s = .next (replied p q 0x21 .done (.prompts s.promptCounter
        (promptReport .cavityA s ++ promptReport .cavityB s ++ promptReport .generator s ++ promptReport .descaler s)) s)
    ∧ exec (.readGen p q) s = .next (replied p q 0x32 .done (.gen (genReport s)) s)
    ∧ exec (.readDescale p q) s = .next (replied p q 0x3B .done (.descale (descaleReport s)) s)
    ∧ exec (.readWater p q) s = .next (replied p q 0x40 .done (.water (waterReport s)) s)
    ∧ (∀ slot first : Byte, slot.toNat < 40 → first.toNat < 48 → exec (.readProgram p q slot first) s
        = .next (replied p q 0x4E .done (.program (slotPage slot.toNat first.toNat s)) s))
    ∧ (∀ first : Byte, first.toNat < 40 → exec (.readProgram p q 255 first) s
        = .next (replied p q 0x4E .done (.program (directoryPage first.toNat s)) s))
    ∧ (∀ slot first : Byte, (40 ≤ slot.toNat ∧ slot ≠ 255) ∨ (slot.toNat < 40 ∧ 48 ≤ first.toNat)
          ∨ (slot = 255 ∧ 40 ≤ first.toNat) →
        exec (.readProgram p q slot first) s = .next (replied p q 0x4E .range .none s))
    ∧ (∀ b x, settingOf? b = some x →
        exec (.readParam p q b) s = .next (replied p q 0x51 .done (.paramReport (paramReport x s)) s))
    ∧ (∀ b, settingOf? b = none → exec (.readParam p q b) s = .next (replied p q 0x51 .range .none s))
    ∧ exec (.readLoads p q) s = .next (replied p q 0x58 .done (.loads
        { loads := loadReports 1 s.settings.chain s, budget := s.settings.budget, grantedSum := grantedSum s
          breakLoad := breakLoad s, mainsLow := s.mains.low, demandA := s.climates.a.demand
          demandB := s.climates.b.demand }) s)
    ∧ exec (.readSensors p q) s = .next (replied p q 0x59 .done (.sensors
        { sensors := s.sensors, doorOpen := s.doorOpen, probePresent := s.probePresent, limitActive := s.limitActive
          limitLatch := s.limitLatch, tankPresent := s.tankPresent, mainsLow := s.mains.low
          lowTime := s.mains.lowTime.map (· / 10), expiryGiven := s.mains.expiryGiven }) s)

/-! ## Runs -/

/-- OPEN_RUN refused (R23): the first check that fails gives the answer and nothing changes; a source byte other than
STREAM and PROGRAM is answered RANGE (log 33), as is a cavity byte that names none (R178). -/
def Obligations.OpenRunChecksInOrder : Prop :=
  ∀ (p : Port) (q b source slot wm : Byte) (s : State), Accepts p s →
    let no (a : Answer) : Prop := exec (.openRun p q b source slot wm) s = .next (replied p q 0x10 a .none s)
    (cavityOf? b = none → no .range)
    ∧ ∀ c, cavityOf? b = some c →
      (s.limitLatch.get c = true → no .locked)
      ∧ (s.limitLatch.get c = false →
          ((s.sensors.get (cavitySensor c)).status = .faulted → no .state)
          ∧ ((s.sensors.get (cavitySensor c)).status ≠ .faulted →
              ((s.runs.get c).state ∈ [.loading, .delayed, .running, .starved, .paused] → no .busy)
              ∧ ((s.runs.get c).state ∈ [.idle, .finished, .aborted] →
                  ((source = 0 ∧ wm ≠ 255 ∧ 8 < wm.toNat) ∨ (source = 1 ∧ 39 < slot.toNat) ∨ 1 < source.toNat → no .range)
                  ∧ (source = 1 → slot.toNat ≤ 39 → installed slot.toNat s = none → no .state))))

/-- OPEN_RUN of a streamed run (R23, R17): the record is discarded, the queue emptied with its load counter at 1, the
run LOADING with the ordering port as feeder and the watermark given, or 2. OPEN_RUN of a stored program (R23, R19,
R146): the reader fills the emptied queue with the first 16 records under load numbers from 1; a program of 16 records
or fewer is closed at once and its slot released. -/
def Obligations.OpenRunOpensAStreamOrAProgram : Prop :=
  (∀ (p : Port) (q b slot wm : Byte) (c : Cavity) (s : State), Accepts p s → cavityOf? b = some c →
     s.limitLatch.get c = false → (s.sensors.get (cavitySensor c)).status ≠ .faulted →
     (s.runs.get c).state ∈ [.idle, .finished, .aborted] → (wm = 255 ∨ wm.toNat ≤ 8) →
     exec (.openRun p q b 0 slot wm) s = .next (replied p q 0x10 .done (.openRun 0 false)
       { s with
         runs := s.runs.set c { Run.idle with
           state := .loading
           opened := some { source := .stream p, closed := false, watermark := if wm = 255 then 2 else wm.toNat } }
         queues := s.queues.set c StepQueue.reset }))
  ∧ (∀ (p : Port) (q b slot wm : Byte) (c : Cavity) (prog : Program) (s : State), Accepts p s → cavityOf? b = some c →
       s.limitLatch.get c = false → (s.sensors.get (cavitySensor c)).status ≠ .faulted →
       (s.runs.get c).state ∈ [.idle, .finished, .aborted] → slot.toNat ≤ 39 → installed slot.toNat s = some prog →
       let n := prog.records.length
       exec (.openRun p q b 1 slot wm) s = .next (replied p q 0x10 .done (.openRun (min 16 n) (decide (n ≤ 16)))
         { s with
           runs := s.runs.set c { Run.idle with
             state := .loading
             opened := some { source := .program slot.toNat, closed := decide (n ≤ 16), watermark := 4 }
             reader := if n ≤ 16 then none else some 16 }
           queues := s.queues.set c { StepQueue.reset with
             pending := (prog.records.take 16).mapIdx (fun i r => { load := i + 1, record := r })
             nextLoad := 1 + min 16 n } }))

/-- LOAD_STEP (R24, R8, R35): the feeder's checks, then R4, then room; a record taken is pending at the tail under the
next load number. A STARVED run walks: an ACTION record reached is entered, through the MARK and REPEAT records before
it (R10 to R15); a walk that reaches none (a MARK, a REPEAT) leaves the run STARVED with its starve time running on. -/
def Obligations.LoadStepAppendsOrRefuses : Prop :=
  ∀ (p : Port) (q b : Byte) (record : List Byte) (c : Cavity) (s : State), Accepts p s → cavityOf? b = some c →
    record.length = 18 →
    let r := s.runs.get c
    let k := s.queues.get c
    let i := Instr.loadStep p q b record
    (feederOf r ≠ some p → exec i s = .next (replied p q 0x11 .notFeeder .none s))
    ∧ (feederOf r = some p →
        (r.state ∈ [.paused, .finished, .aborted] ∨ isClosed r = true →
          exec i s = .next (replied p q 0x11 .state .none s))
        ∧ (r.state ∉ [.paused, .finished, .aborted] → isClosed r = false →
            (acceptRecord record = none → exec i s = .next (replied p q 0x11 .range .none s))
            ∧ (∀ x, acceptRecord record = some x → 16 ≤ occupied k →
                exec i s = .next (replied p q 0x11 .full (.full 0) s))
            ∧ (∀ x, acceptRecord record = some x → occupied k < 16 → r.state ≠ .starved →
                exec i s = .next (replied p q 0x11 .done (.loadStep k.nextLoad (15 - occupied k))
                  { s with
                    queues := s.queues.set c { k with
                      pending := k.pending ++ [{ load := k.nextLoad, record := x }]
                      nextLoad := if 65535 ≤ k.nextLoad then 1 else k.nextLoad + 1 } }))
            ∧ (∀ x, acceptRecord record = some x → occupied k < 16 → r.state = .starved →
                let k' : StepQueue := { k with
                  pending := k.pending ++ [{ load := k.nextLoad, record := x }]
                  nextLoad := if 65535 ≤ k.nextLoad then 1 else k.nextLoad + 1 }
                (∀ load a q', walked walkLimit k' = some (some (load, a), q') →
                  ∃ u, exec i s = .next (replied p q 0x11 .done (.loadStep k.nextLoad (15 - occupied k)) u)
                    ∧ EnteredStep load a s.settings.approachBand (cavityReading c s) (u.runs.get c)
                    ∧ (u.runs.get c).starveTime = none
                    ∧ (r.reader = none →
                        { u.queues.get c with outstanding := false } = { q' with outstanding := false })
                    ∧ Within .run s u)
                ∧ (∀ q', r.reader = none → walked walkLimit k' = some (none, q') →
                    ∃ u, exec i s = .next (replied p q 0x11 .done (.loadStep k.nextLoad (15 - occupied k)) u)
                      ∧ u.runs.get c = r
                      ∧ { u.queues.get c with outstanding := false } = { q' with outstanding := false }
                      ∧ Within .queue s u))))

/-- CLOSE_RUN (R24, R35): the feeder's checks; the closed flag; a STARVED run finishes, its denial reason kept
(log 28). -/
def Obligations.CloseRunClosesOrFinishes : Prop :=
  ∀ (p : Port) (q b : Byte) (c : Cavity) (o : Opened) (s : State), Accepts p s → cavityOf? b = some c →
    let r := s.runs.get c
    let i := Instr.closeRun p q b
    (feederOf r ≠ some p → exec i s = .next (replied p q 0x12 .notFeeder .none s))
    ∧ (feederOf r = some p → r.opened = some o →
        (r.state ∈ [.paused, .finished, .aborted] → exec i s = .next (replied p q 0x12 .state .none s))
        ∧ (r.state ∉ [.paused, .finished, .aborted] → o.closed = true →
            exec i s = .next (replied p q 0x12 .done .none s))
        ∧ (r.state ∈ [.loading, .delayed, .running] → o.closed = false →
            exec i s = .next (replied p q 0x12 .done .none
              { s with runs := s.runs.set c { r with opened := some { o with closed := true } } }))
        ∧ (r.state = .starved → o.closed = false → ∃ u, exec i s = .next (replied p q 0x12 .done .none u)
            ∧ u.runs.get c = { Run.idle with
                state := .finished, opened := some { o with closed := true }, denial := r.denial }
            ∧ u.queues.get c = emptied (s.queues.get c) ∧ Within .run s u))

/-- START_RUN answered STATE, and START_RUN with a delay (R25, R17): DELAYED with the delay remaining, and for a
streamed run that is open and at or below its watermark REFILL to its feeder. -/
def Obligations.StartRunDelaysOrRefuses : Prop :=
  ∀ (p : Port) (q b : Byte) (delay : Half) (c : Cavity) (s : State), Accepts p s → cavityOf? b = some c →
    let r := s.runs.get c
    let k := s.queues.get c
    let i := Instr.startRun p q b delay
    (r.state ≠ .loading ∨ (∀ x ∈ k.pending, isAction x.record = false) →
      exec i s = .next (replied p q 0x13 .state .none s))
    ∧ (∀ f, r.state = .loading → (∃ x ∈ k.pending, isAction x.record = true) → delay ≠ 0 → feederOf r = some f →
        exec i s = .next (replied p q 0x13 .done .none
          { s with
            runs := s.runs.set c { r with state := .delayed, delay := some (delay.toNat * 10), linked := false }
            attention :=
              if isClosed r = false ∧ k.pending.length ≤ watermarkOf r then
                s.attention.set f (offer (causeEntry (.refill c k.pending.length)) (s.attention.get f))
              else s.attention }))
    ∧ (r.state = .loading → (∃ x ∈ k.pending, isAction x.record = true) → delay ≠ 0 → feederOf r = none →
        ∃ u, exec i s = .next (replied p q 0x13 .done .none u) ∧ (u.runs.get c).state = .delayed
          ∧ (u.runs.get c).delay = some (delay.toNat * 10) ∧ (u.runs.get c).linked = false ∧ Within .queue s u)

/-- A run enters RUNNING on the ACTION record that its first walk reaches, through the MARK and REPEAT records before it
(R10 to R15), by START_RUN without a delay or at the delay's expiry (R25, R27, R28, R29), taking up the overlays the
inputs call for before that walk (log 18), so that with the door open its timers are frozen and ask for no power (R52,
R64). DELAY_EXPIRY outside DELAYED changes nothing (log 3). -/
def Obligations.RunEntersRunningOnItsFirstStep : Prop :=
  ∀ (c : Cavity) (load : Nat) (a : Action) (s : State), WalkReaches load a (s.queues.get c) →
    let entered (u : State) : Prop :=
      EnteredStep load a s.settings.approachBand (cavityReading c s) (u.runs.get c)
        ∧ (u.runs.get c).delay = none ∧ (u.runs.get c).doorSuspended = s.doorOpen.get c
        ∧ (u.runs.get c).mainsHeld = s.mains.low
        ∧ (s.doorOpen.get c = true → AllFrozen c u
            ∧ (∀ l ∈ [topOf c, bottomOf c, ringOf c], (s.timers.get l).interval = .idle →
                s.arbiter.get l = .none → (s.pairs.get c).position = none →
                (u.timers.get l).interval = .idle ∧ u.arbiter.get l = .none))
        ∧ Within .run s u
    (∀ (p : Port) (q b : Byte), Accepts p s → cavityOf? b = some c → (s.runs.get c).state = .loading →
      (∃ x ∈ (s.queues.get c).pending, isAction x.record = true) →
      ∃ u, exec (.startRun p q b 0) s = .next (replied p q 0x13 .done .none u) ∧ entered u)
    ∧ (s.resetHeld = false → (s.runs.get c).state = .delayed → (s.runs.get c).linked = false →
        ∃ u, exec (.delayExpiry c) s = .next u ∧ entered u)
    ∧ (s.resetHeld = false → (s.runs.get c).state ≠ .delayed → exec (.delayExpiry c) s = .next s)

/-- START_LINKED (R26): refused unless both runs are LOADING with a pending ACTION record; with a delay both are DELAYED
on the one shared timer, whose expiry is one event for both; without one both enter the first step that their walks
reach. -/
def Obligations.StartLinkedStartsBothOrNeither : Prop :=
  ∀ (p : Port) (q : Byte) (delay : Half) (s : State), Accepts p s →
    let able (c : Cavity) : Prop :=
      (s.runs.get c).state = .loading ∧ ∃ x ∈ (s.queues.get c).pending, isAction x.record = true
    (¬ (able .A ∧ able .B) → exec (.startLinked p q delay) s = .next (replied p q 0x14 .state .none s))
    ∧ (able .A → able .B → delay ≠ 0 → ∃ u, exec (.startLinked p q delay) s = .next (replied p q 0x14 .done .none u)
        ∧ (∀ c, (u.runs.get c).state = .delayed ∧ (u.runs.get c).delay = some (delay.toNat * 10)
            ∧ (u.runs.get c).linked = true)
        ∧ Within .queue s u)
    ∧ (∀ (m n : Nat) (a b : Action), able .A → able .B → delay = 0 →
        WalkReaches m a s.queues.a → WalkReaches n b s.queues.b →
        ∃ u, exec (.startLinked p q delay) s = .next (replied p q 0x14 .done .none u)
          ∧ EnteredStep m a s.settings.approachBand (cavityReading .A s) u.runs.a
          ∧ EnteredStep n b s.settings.approachBand (cavityReading .B s) u.runs.b ∧ Within .run s u)
    ∧ (∀ (c : Cavity) (m n : Nat) (a b : Action),
        (∀ x, (s.runs.get x).state = .delayed ∧ (s.runs.get x).linked = true) →
        WalkReaches m a s.queues.a → WalkReaches n b s.queues.b →
        ∃ u, exec (.delayExpiry c) s = .next u
          ∧ EnteredStep m a s.settings.approachBand (cavityReading .A s) u.runs.a
          ∧ EnteredStep n b s.settings.approachBand (cavityReading .B s) u.runs.b ∧ Within .run s u)

/-- PAUSE_RUN (R37, R38): a RUNNING or STARVED run is PAUSED with reason ORDER and its timers frozen with their outputs
off; a PAUSED run keeps its reason; other states answer STATE. -/
def Obligations.PauseRunPauses : Prop :=
  ∀ (p : Port) (q b : Byte) (c : Cavity) (s : State), Accepts p s → cavityOf? b = some c →
    let r := s.runs.get c
    (r.state = .running ∨ r.state = .starved →
      ∃ u, exec (.pauseRun p q b) s = .next (replied p q 0x15 .done .none u)
        ∧ u.runs.get c = pausedRun r .order ∧ u.queues = s.queues ∧ AllFrozen c u
        ∧ loadOutput (topOf c) u = false ∧ loadOutput (bottomOf c) u = false ∧ loadOutput (ringOf c) u = false
        ∧ fanLevel c u = .off ∧ Within .run s u)
    ∧ (r.state = .paused → exec (.pauseRun p q b) s = .next (replied p q 0x15 .done .none s))
    ∧ (r.state ∈ [.idle, .loading, .delayed, .finished, .aborted] →
        exec (.pauseRun p q b) s = .next (replied p q 0x15 .state .none s))

/-- RESUME_RUN (R39): with no deferred answer the run returns to the state it was paused from and takes up the overlays
from the inputs; with the door closed and the limit latch clear its timers are thawed (R64). With a deferred answer the
run is RUNNING and makes its change first: ENTRY_PROMPT is left by the approach test (R29), EXIT_PROMPT ends the step:
the walk's ACTION record is entered, or the run is FINISHED or STARVED (R33, R34). A run PAUSED from STARVED whose
starve time has reached FEED_TIMEOUT is aborted within the resumption (R34). A run not PAUSED answers STATE. -/
def Obligations.ResumeRunReturnsToItsState : Prop :=
  ∀ (p : Port) (q b : Byte) (c : Cavity) (s : State), Accepts p s → cavityOf? b = some c →
    let r := s.runs.get c
    let resumed (u : State) : Prop :=
      (u.runs.get c).pausedFrom = none ∧ (u.runs.get c).pauseReason = none ∧ (u.runs.get c).deferred = false
        ∧ (u.runs.get c).doorSuspended = s.doorOpen.get c ∧ (u.runs.get c).mainsHeld = s.mains.low ∧ Within .run s u
    (r.state ≠ .paused → exec (.resumeRun p q b) s = .next (replied p q 0x16 .state .none s))
    ∧ (r.state = .paused → r.deferred = false →
        (r.pausedFrom = some .starved → r.starveTime.getD 0 < s.settings.feedTimeout * 10) →
        ∃ u, exec (.resumeRun p q b) s = .next (replied p q 0x16 .done .none u) ∧ resumed u
          ∧ (u.runs.get c).state = (if r.pausedFrom = some .starved then .starved else .running)
          ∧ (u.runs.get c).current = r.current ∧ (u.runs.get c).phase = r.phase
          ∧ (u.runs.get c).remaining = r.remaining
          ∧ (s.doorOpen.get c = false → s.limitLatch.get c = false →
              ∀ l ∈ [topOf c, bottomOf c, ringOf c], (u.timers.get l).frozen = false)
          ∧ u.queues = s.queues)
    ∧ (r.state = .paused → r.deferred = true → r.pausedFrom = some .running →
        (∀ step, r.phase = some .entryPrompt → r.current = some step →
          ∃ u, exec (.resumeRun p q b) s = .next (replied p q 0x16 .done .none u) ∧ resumed u
            ∧ (u.runs.get c).state = .running ∧ (u.runs.get c).current = r.current
            ∧ (u.runs.get c).remaining = r.remaining
            ∧ (u.runs.get c).phase = some (leftEntry step (cavityReading c s)) ∧ u.queues = s.queues)
        ∧ (∀ load a, r.phase = some .exitPrompt → WalkReaches load a (s.queues.get c) →
          ∃ u, exec (.resumeRun p q b) s = .next (replied p q 0x16 .done .none u) ∧ resumed u
            ∧ EnteredStep load a s.settings.approachBand (cavityReading c s) (u.runs.get c))
        ∧ (∀ q', r.phase = some .exitPrompt → r.reader = none → isClosed r = true →
          walked walkLimit (s.queues.get c) = some (none, q') →
          ∃ u, exec (.resumeRun p q b) s = .next (replied p q 0x16 .done .none u) ∧ FinishedRun c s u ∧ Within .run s u)
        ∧ (∀ q' f, r.phase = some .exitPrompt → r.reader = none → isClosed r = false → feederOf r = some f →
          0 < s.settings.feedTimeout → walked walkLimit (s.queues.get c) = some (none, q') →
          ∃ u, exec (.resumeRun p q b) s = .next (replied p q 0x16 .done .none u)
            ∧ EnteredStarved c f (resumedRun c r s) q' s u ∧ Within .run s u))
    ∧ (r.state = .paused → r.deferred = false → r.pausedFrom = some .starved →
        s.settings.feedTimeout * 10 ≤ r.starveTime.getD 0 →
        ∃ u, exec (.resumeRun p q b) s = .next (replied p q 0x16 .done .none u)
          ∧ SameRun (u.runs.get c) (abortedRun r .feedLost) ∧ u.queues.get c = emptied (s.queues.get c)
          ∧ u.prompts.get (cavityOwner c) = none ∧ Within .run s u)

/-- STOP_RUN and CLEAR_RUN (R40, R41, R20): LOADING returns to IDLE, a run under way or DELAYED is ABORTED with reason
STOP and its prompts cleared, an ended record is discarded, other states answer STATE. The denial reason kept at a
return to IDLE is the model's reading (log 28). -/
def Obligations.StopAndClearEndTheRecord : Prop :=
  ∀ (p : Port) (q b : Byte) (c : Cavity) (s : State), Accepts p s → cavityOf? b = some c →
    let r := s.runs.get c
    (r.state = .loading → ∃ u, exec (.stopRun p q b) s = .next (replied p q 0x17 .done .none u)
        ∧ u.runs.get c = { Run.idle with denial := r.denial } ∧ u.queues.get c = emptied (s.queues.get c)
        ∧ Within .run s u)
    ∧ (r.state ∈ [.delayed, .running, .starved, .paused] →
        ∃ u, exec (.stopRun p q b) s = .next (replied p q 0x17 .done .none u)
          ∧ u.runs.get c = abortedRun r .stop ∧ u.queues.get c = emptied (s.queues.get c)
          ∧ u.prompts.get (cavityOwner c) = none ∧ (u.climates.get c).demand = 0 ∧ (u.climates.get c).loop = none
          ∧ Within .run s u)
    ∧ (r.state ∈ [.idle, .finished, .aborted] → exec (.stopRun p q b) s = .next (replied p q 0x17 .state .none s))
    ∧ (r.state ∈ [.finished, .aborted] → exec (.clearRun p q b) s = .next (replied p q 0x18 .done .none
        { s with runs := s.runs.set c { Run.idle with denial := r.denial } }))
    ∧ (r.state ∉ [.finished, .aborted] → exec (.clearRun p q b) s = .next (replied p q 0x18 .state .none s))

/-- ADOPT_RUN (R36, R18): only in STARVED of a streamed run; from the feeder nothing changes; from another port the
feeder role moves, the starve time restarts, FEED_MOVED goes to the old feeder and REFILL to the new one. -/
def Obligations.AdoptRunMovesTheFeeder : Prop :=
  ∀ (p : Port) (q b : Byte) (c : Cavity) (s : State), Accepts p s → cavityOf? b = some c →
    let r := s.runs.get c
    let n := (s.queues.get c).pending.length
    (feederOf r = none ∨ r.state ≠ .starved → exec (.adoptRun p q b) s = .next (replied p q 0x19 .state .none s))
    ∧ (feederOf r = some p → r.state = .starved →
        exec (.adoptRun p q b) s = .next (replied p q 0x19 .done .none s))
    ∧ (∀ (old : Port) (o : Opened), r.opened = some o → o.source = .stream old → old ≠ p → r.state = .starved →
        let moved := post old (.feedMoved c p) { s with
          runs := s.runs.set c { r with opened := some { o with source := .stream p }, starveTime := some 0 } }
        exec (.adoptRun p q b) s = .next (replied p q 0x19 .done .none
          (if o.closed = false ∧ n ≤ o.watermark then post p (.refill c n) moved else moved)))

/-- The end condition of a step, met by SKIP_STEP or by its time running out (R31, R33, R42, R30): a step with an AFTER
prompt passes to EXIT_PROMPT and raises it; one without ends, as SKIP_STEP ends it in EXIT_PROMPT, and a walk is made,
MARK and REPEAT records handled on the way (R10 to R15; a stray REPEAT posts LOOP_ERROR). An ACTION record reached is
entered; with none a closed run is FINISHED, and an open streamed one STARVED on the kept step (R34, R56) after the mark
overrun (R16). A step that is not counting has no time to run out (log 3), and a run not RUNNING is not skipped. -/
def Obligations.StepEndsAtItsEndCondition : Prop :=
  ∀ (c : Cavity) (s : State),
    let r := s.runs.get c
    let queue := s.queues.get c
    let noAfter (step : CurrentStep) : Prop := ∀ e, step.action.prompt = some e → e.placement ≠ .after
    let toExit (e : PromptSub) (u : State) : Prop :=
      (u.runs.get c).phase = some .exitPrompt ∧ (u.runs.get c).state = .running
        ∧ (u.runs.get c).current = r.current ∧ (u.prompts.get (cavityOwner c)).map (·.code) = some e.code
        ∧ (u.prompts.get (cavityOwner c)).map (·.placement) = some .after ∧ Within .run s u
    let leaves (q' : StepQueue) (u : State) : Prop :=
      { u.queues.get c with outstanding := false } = { q' with outstanding := false }
    let toNext (load : Nat) (a : Action) (q' : StepQueue) (u : State) : Prop :=
      EnteredStep load a s.settings.approachBand (cavityReading c s) (u.runs.get c)
        ∧ (∀ p, Posted (.stepStarted c load) p u)
        ∧ (∀ m n x rest, queue.mark = false →
            queue.pending = { load := m, record := .rep n } :: { load := load, record := .action x } :: rest →
            ∀ p, Posted (.loopError c m) p u)
        ∧ (r.reader = none → leaves q' u) ∧ Within .run s u
    let toFinished (u : State) : Prop := FinishedRun c s u ∧ Within .run s u
    let toStarved (f : Port) (m : Option Nat) (q' : StepQueue) (u : State) : Prop :=
      EnteredStarved c f { r with remaining := m } q' s u ∧ Within .run s u
    (∀ (p : Port) (q b : Byte) (k : Hold), Accepts p s → cavityOf? b = some c →
      s.holds.get (editHold c) = some k → k.holder = p →
      let held (t : State) : State :=
        { t with holds := t.holds.set (editHold c) (some { holder := p, expiry := t.settings.holdTimeout * 10 }) }
      let skipped (step : CurrentStep) (post : State → Prop) : Prop :=
        ∃ u, exec (.skipStep p q b) s = .next (replied p q 0x1A .done (.skipStep step.load) (held u)) ∧ post u
      let ends (step : CurrentStep) : Prop :=
        r.state = .running ∧ r.current = some step
          ∧ (r.phase = some .exitPrompt ∨ (r.phase ≠ none ∧ noAfter step))
      (r.state ≠ .running → exec (.skipStep p q b) s = .next (replied p q 0x1A .state .none (held s)))
      ∧ (∀ step e, r.state = .running → (r.phase = some .heatup ∨ r.phase = some .hold) →
          r.current = some step → step.action.prompt = some e → e.placement = .after → skipped step (toExit e))
      ∧ (∀ step load a q', ends step → walked walkLimit queue = some (some (load, a), q') →
          skipped step (toNext load a q'))
      ∧ (∀ step q', ends step → r.reader = none → isClosed r = true → walked walkLimit queue = some (none, q') →
          skipped step toFinished)
      ∧ (∀ step q' f, ends step → r.reader = none → isClosed r = false → feederOf r = some f →
          walked walkLimit queue = some (none, q') → skipped step (toStarved f r.remaining q')))
    ∧ (s.resetHeld = false →
        let ends (step : CurrentStep) : Prop := stepCounts r = true ∧ r.current = some step ∧ noAfter step
        (stepCounts r = false → exec (.stepTimeExpiry c) s = .next s)
        ∧ (∀ step e, stepCounts r = true → r.current = some step → step.action.prompt = some e →
            e.placement = .after → ∃ u, exec (.stepTimeExpiry c) s = .next u ∧ toExit e u)
        ∧ (∀ step load a q', ends step → walked walkLimit queue = some (some (load, a), q') →
            ∃ u, exec (.stepTimeExpiry c) s = .next u ∧ toNext load a q' u)
        ∧ (∀ step q', ends step → r.reader = none → isClosed r = true → walked walkLimit queue = some (none, q') →
            ∃ u, exec (.stepTimeExpiry c) s = .next u ∧ toFinished u)
        ∧ (∀ step q' f, ends step → r.reader = none → isClosed r = false → feederOf r = some f →
            walked walkLimit queue = some (none, q') →
            ∃ u, exec (.stepTimeExpiry c) s = .next u ∧ toStarved f (some 0) q' u))

/-- ADJUST_STEP from the holder (R43): the checks in the order STATE, RANGE, STATE (log 24), then the parts given, one or
several at once (R182): a target, a remaining time and a steam level each change the run record's copy and nothing else of
the record but the denial reason. A remaining time is taken in PAUSED from STARVED too, and the part second counted is
dropped (log 24). -/
def Obligations.AdjustStepChangesTheCopy : Prop :=
  ∀ (p : Port) (q b presence target : Byte) (n : Half) (steam : Byte) (c : Cavity) (k : Hold) (s : State),
    Accepts p s → cavityOf? b = some c → s.holds.get (editHold c) = some k → k.holder = p →
    let r := s.runs.get c
    let i := Instr.adjustStep p q b presence target n steam
    let held (t : State) : State :=
      { t with holds := t.holds.set (editHold c) (some { holder := p, expiry := t.settings.holdTimeout * 10 }) }
    let hasTarget := presence.getLsbD 0 = true
    let hasTime := presence.getLsbD 1 = true
    let hasSteam := presence.getLsbD 2 = true
    (r.current = none ∨ r.state ∉ [.running, .starved, .paused] →
      exec i s = .next (replied p q 0x1B .state .none (held s)))
    ∧ (∀ step, r.current = some step → r.state ∈ [.running, .starved, .paused] →
        let wrong : Prop :=
          presence.toNat = 0 ∨ 8 ≤ presence.toNat
            ∨ (hasTarget ∧ (target.toNat < 30 ∨ 250 < target.toNat ∨ step.action.heat = .noHeat))
            ∨ (hasTime ∧ n.toNat = 0)
            ∨ (hasSteam ∧ (steam.toNat % 10 ≠ 0 ∨ 100 < steam.toNat))
        let untimely : Prop := hasTime ∧ (r.state = .starved ∨ r.phase = some .exitPrompt)
        (wrong → exec i s = .next (replied p q 0x1B .range .none (held s)))
        ∧ (¬ wrong → untimely → exec i s = .next (replied p q 0x1B .state .none (held s)))
        ∧ (¬ wrong → ¬ untimely →
            let timed : Prop := hasTime ∧ step.action.duration = none
            let copy : Action := { step.action with
              target := if hasTarget then some target.toNat else step.action.target
              duration := if timed then some n.toNat else step.action.duration
              basis := if timed then some .fromStart else step.action.basis
              steam := if hasSteam then steam.toNat else step.action.steam }
            ∃ u, exec i s = .next (replied p q 0x1B .done .none (held u))
              ∧ { u.runs.get c with denial := none }
                  = { r with
                      current := some { step with action := copy }
                      remaining := if hasTime then some (n.toNat * 10) else r.remaining
                      denial := none }
              ∧ u.queues = s.queues ∧ Within .run s u))

/-- SET_WATCH and CLEAR_WATCH from the holder (R70), in every run state: the slot is replaced whole and armed, or
emptied; a slot other than 1 or 2 and a field outside its values answer RANGE. -/
def Obligations.WatchOrdersWriteTheirSlot : Prop :=
  ∀ (p : Port) (q b slot src rel : Byte) (v : Half) (act : Byte) (c : Cavity) (k : Hold) (s : State),
    Accepts p s → cavityOf? b = some c → s.holds.get (editHold c) = some k → k.holder = p →
    let held : State :=
      { s with holds := s.holds.set (editHold c) (some { holder := p, expiry := s.settings.holdTimeout * 10 }) }
    let put (w : Option Watch) : State :=
      { held with
        climates := s.climates.set c
          (if slot = 1 then { s.climates.get c with watch1 := w } else { s.climates.get c with watch2 := w }) }
    ((slot = 1 ∨ slot = 2) →
      (∀ x y z, watchSourceOf? src = some x → watchRelationOf? rel = some y → watchActionOf? act = some z →
        v.toNat ≤ (match x with | .cavity => 300 | .core => 120) →
        exec (.setWatch p q b slot src rel v act) s = .next (replied p q 0x1C .done .none
          (put (some { source := x, relation := y, value := v.toNat, action := z, armed := true }))))
      ∧ exec (.clearWatch p q b slot) s = .next (replied p q 0x1D .done .none (put none)))
    ∧ (slot ≠ 1 → slot ≠ 2 →
        exec (.setWatch p q b slot src rel v act) s = .next (replied p q 0x1C .range .none held)
        ∧ exec (.clearWatch p q b slot) s = .next (replied p q 0x1D .range .none held))
    ∧ (1 < src.toNat ∨ 1 < rel.toNat ∨ 2 < act.toNat ∨ (src = 0 ∧ 300 < v.toNat) ∨ (src = 1 ∧ 120 < v.toNat) →
        exec (.setWatch p q b slot src rel v act) s = .next (replied p q 0x1C .range .none held))

/-- FEEDER_TIMEOUT and DOOR_TIMEOUT (R34, R41, R46, R38): a STARVED run is ABORTED with FEED_LOST; a door-suspended run
is PAUSED with reason DOOR; no other run is changed (log 3). The denial reason kept at the abort is the model's reading
(log 28). -/
def Obligations.FeederAndDoorTimeoutsEndTheWait : Prop :=
  ∀ (c : Cavity) (s : State), s.resetHeld = false →
    let r := s.runs.get c
    (r.state ≠ .starved → exec (.feederTimeout c) s = .next s)
    ∧ (r.state = .starved → ∃ t, exec (.feederTimeout c) s = .next t ∧ t.runs.get c = abortedRun r .feedLost
        ∧ t.queues.get c = emptied (s.queues.get c) ∧ t.prompts.get (cavityOwner c) = none ∧ Within .run s t)
    ∧ (r.doorSuspended = false → exec (.doorTimeout c) s = .next s)
    ∧ (r.doorSuspended = true → (r.state = .running ∨ r.state = .starved) → ∃ t, exec (.doorTimeout c) s = .next t
        ∧ t.runs.get c = pausedRun r .door ∧ t.queues = s.queues ∧ AllFrozen c t ∧ Within .run s t)

/-! ## Climate and drive timers -/

/-- REGULATION_UPDATE moves the setpoint (R52, R54): by ramp × 200 and the remainder over 60 hundredths toward the
target, ending there; at the target the remainder is 0, also where a movement ends exactly there (log 25). -/
def Obligations.RegulationMovesTheSetpoint : Prop :=
  ∀ (c : Cavity) (step : CurrentStep) (goal : Nat) (l : Loop) (s : State), s.resetHeld = false →
    counting (s.runs.get c) = true → (s.runs.get c).current = some step → step.action.target = some goal →
    (s.climates.get c).loop = some l →
    let sum := step.action.ramp * 200 + l.remainder
    ∃ t l', exec (.regulationUpdate c) s = .next t ∧ (t.climates.get c).loop = some l'
      ∧ (t.climates.get c).updateTime = some 0 ∧ l'.case = l.case ∧ l'.reached = l.reached
      ∧ (l.setpoint = goal * 100 → l' = l)
      ∧ (l.setpoint < goal * 100 → l'.setpoint = min (goal * 100) (l.setpoint + sum / 60))
      ∧ (goal * 100 < l.setpoint → l'.setpoint = max (goal * 100) (l.setpoint - sum / 60))
      ∧ (l.setpoint ≠ goal * 100 → l'.remainder = if l'.setpoint = goal * 100 then 0 else sum % 60)
      ∧ Within .heat s t

/-- REGULATION_UPDATE moves the setpoint (R54; log 25), computes the heat demand from where it then stands and writes the
holds (R52, R58, R59, R60): NONE and cooling before the approach ask for nothing; otherwise the difference over PROP_BAND,
rounded with a half upward, and the bias once the approach is reached, between 0 and 100. A step without a target has
heat mode NONE and is written 0 / 0. Under ALTERNATE the members' own OFF holds are 0, which is the model's choice
(log 47). Outside counting time, or without a step, nothing changes (log 3). -/
def Obligations.RegulationWritesTheHolds : Prop :=
  (∀ (c : Cavity) (s : State), s.resetHeld = false →
     counting (s.runs.get c) = false ∨ (s.runs.get c).current = none → exec (.regulationUpdate c) s = .next s)
  ∧ (∀ (c : Cavity) (step : CurrentStep) (s : State), s.resetHeld = false → counting (s.runs.get c) = true →
       (s.runs.get c).current = some step → step.action.target = none → step.action.heat = .noHeat →
       ∃ t, exec (.regulationUpdate c) s = .next t ∧ (t.climates.get c).demand = 0
         ∧ (t.climates.get c).updateTime = some 0 ∧ (t.climates.get c).loop = (s.climates.get c).loop
         ∧ (∀ l ∈ [topOf c, bottomOf c, ringOf c], holdsOf l t = (0, 0)) ∧ Within .heat s t)
  ∧ (∀ (c : Cavity) (step : CurrentStep) (goal reading : Nat) (l : Loop) (s : State), s.resetHeld = false →
       counting (s.runs.get c) = true → (s.runs.get c).current = some step → step.action.target = some goal →
       (s.climates.get c).loop = some l → 0 < s.settings.propBand →
       (s.sensors.get (cavitySensor c)).reading = some reading →
       let bias : Int := if l.reached then s.settings.holdBias.get c else 0
       ∃ (t : State) (l' : Loop) (d : Nat), exec (.regulationUpdate c) s = .next t
         ∧ (t.climates.get c).loop = some l' ∧ SetpointMoved step goal l l'
         ∧ (t.climates.get c).updateTime = some 0 ∧ (t.climates.get c).demand = d ∧ d ≤ 100
         ∧ (step.action.heat = .noHeat ∨ (l.case = .cooling ∧ l.reached = false) → d = 0)
         ∧ (step.action.heat ≠ .noHeat → ¬ (l.case = .cooling ∧ l.reached = false) →
             let diff : Int := l'.setpoint - 10 * reading
             ∃ percent : Int, 2 * s.settings.propBand * percent ≤ 2 * diff + s.settings.propBand
               ∧ 2 * diff + s.settings.propBand < 2 * s.settings.propBand * (percent + 1)
               ∧ (d : Int) = max 0 (min 100 (percent + bias)))
         ∧ (step.action.heat = .ring ∨ step.action.heat = .ringBottom → holdsOf (ringOf c) t = (2 * d, 200 - 2 * d))
         ∧ (step.action.heat ≠ .ring → step.action.heat ≠ .ringBottom → holdsOf (ringOf c) t = (0, 0))
         ∧ (step.action.heat = .topBottom ∨ step.action.heat = .top → holdsOf (topOf c) t = (2 * d, 200 - 2 * d))
         ∧ (step.action.heat ∈ [.topBottom, .bottom, .ringBottom] → holdsOf (bottomOf c) t = (2 * d, 200 - 2 * d))
         ∧ (step.action.heat ∈ [.noHeat, .ring, .bottom, .ringBottom] → holdsOf (topOf c) t = (0, 0))
         ∧ (step.action.heat ∈ [.noHeat, .ring, .top] → holdsOf (bottomOf c) t = (0, 0))
         ∧ (step.action.heat = .alternate → holdsOf (topOf c) t = (2 * d, 0) ∧ holdsOf (bottomOf c) t = (2 * d, 0)
             ∧ (t.pairs.get c).offHold = 400 - 4 * d)
         ∧ Within .heat s t)

/-- The end of an ON interval (R62, R66). A single timer releases its grant into an OFF interval, keeps it into the next
ON interval where its OFF hold is 0, or goes IDLE; a pair member hands its turn on. A timer not in ON_INTERVAL is left
alone (log 3). A turn or a pair OFF interval whose hold is 0 is skipped, and with every hold 0 both timers go IDLE. A turn
that comes back to its own timer is stated with the other member in neither set of the arbiter, as it is while it waits
its turn (R66). -/
def Obligations.OnIntervalEndsByTheHolds : Prop :=
  ∀ (l : Load) (s : State), s.resetHeld = false →
    let x := s.timers.get l
    (x.interval ≠ .onInterval ∨ x.frozen = true → exec (.onIntervalExpiry l) s = .next s)
    ∧ (x.interval = .onInterval → x.frozen = false → singleOff l s = true →
        (0 < x.off → ∃ t, exec (.onIntervalExpiry l) s = .next t
            ∧ t.timers.get l = { x with interval := .offInterval, remaining := some x.off }
            ∧ t.arbiter.get l = .none ∧ Within .power s t)
        ∧ (x.off = 0 → 0 < x.on → exec (.onIntervalExpiry l) s = .next
            { s with timers := s.timers.set l { x with interval := .onInterval, remaining := some x.on } })
        ∧ (x.off = 0 → x.on = 0 → ∃ t, exec (.onIntervalExpiry l) s = .next t
            ∧ t.timers.get l = { x with interval := .idle, remaining := none }
            ∧ t.arbiter.get l = .none ∧ Within .power s t))
    ∧ (∀ c, x.interval = .onInterval → x.frozen = false → (s.pairs.get c).paired = true →
        (l = topOf c → 0 < (s.timers.get (bottomOf c)).on → ∃ t, exec (.onIntervalExpiry l) s = .next t
            ∧ (t.pairs.get c).position = some .bottomTurn ∧ (t.timers.get l).interval = .offInterval
            ∧ t.arbiter.get l = .none ∧ OnTheWay (bottomOf c) (s.timers.get (bottomOf c)).on t ∧ Within .drive s t)
        ∧ (l = bottomOf c → 0 < (s.pairs.get c).offHold → ∃ t, exec (.onIntervalExpiry l) s = .next t
            ∧ (t.pairs.get c).position = some .pairOff ∧ (t.timers.get l).interval = .offInterval
            ∧ t.arbiter.get l = .none ∧ (t.timers.get (topOf c)).interval = .offInterval
            ∧ (t.timers.get (topOf c)).remaining = some (s.pairs.get c).offHold ∧ Within .drive s t)
        ∧ (l = topOf c → (s.timers.get (bottomOf c)).on = 0 → 0 < (s.pairs.get c).offHold →
            ∃ t, exec (.onIntervalExpiry l) s = .next t
            ∧ (t.pairs.get c).position = some .pairOff ∧ (t.timers.get (bottomOf c)).interval = .offInterval
            ∧ t.arbiter.get l = .none ∧ (t.timers.get l).interval = .offInterval
            ∧ (t.timers.get l).remaining = some (s.pairs.get c).offHold ∧ Within .drive s t)
        ∧ (l = topOf c → (s.timers.get (bottomOf c)).on = 0 → (s.pairs.get c).offHold = 0 → 0 < x.on →
            s.arbiter.get (bottomOf c) = .none → ∃ t, exec (.onIntervalExpiry l) s = .next t ∧ (t.pairs.get c).position = some .topTurn
            ∧ OnTheWay l x.on t ∧ (t.timers.get (bottomOf c)).interval = .offInterval ∧ Within .drive s t)
        ∧ (l = bottomOf c → (s.pairs.get c).offHold = 0 → 0 < (s.timers.get (topOf c)).on →
            ∃ t, exec (.onIntervalExpiry l) s = .next t ∧ (t.pairs.get c).position = some .topTurn
            ∧ OnTheWay (topOf c) (s.timers.get (topOf c)).on t ∧ (t.timers.get l).interval = .offInterval
            ∧ t.arbiter.get l = .none ∧ Within .drive s t)
        ∧ (l = bottomOf c → (s.pairs.get c).offHold = 0 → (s.timers.get (topOf c)).on = 0 → 0 < x.on →
            s.arbiter.get (topOf c) = .none → ∃ t, exec (.onIntervalExpiry l) s = .next t ∧ (t.pairs.get c).position = some .bottomTurn
            ∧ OnTheWay l x.on t ∧ (t.timers.get (topOf c)).interval = .offInterval ∧ Within .drive s t)
        ∧ (l = topOf c ∨ l = bottomOf c → (s.pairs.get c).offHold = 0 → (s.timers.get (topOf c)).on = 0 →
            (s.timers.get (bottomOf c)).on = 0 → ∃ t, exec (.onIntervalExpiry l) s = .next t
            ∧ (t.pairs.get c).position = none ∧ (t.timers.get (topOf c)).interval = .idle
            ∧ (t.timers.get (bottomOf c)).interval = .idle ∧ t.arbiter.get l = .none ∧ Within .drive s t))

/-- The end of an OFF interval (R61) and of a pair's OFF interval (R66): an ON interval begins, WAITING for its grant or
granted at once; an ON hold of 0 is skipped, and both holds 0 leave the timer IDLE. A timer that counts no OFF interval
is left alone (log 3). A pair's turn whose hold is 0 is skipped, and with every hold 0 both timers go IDLE. -/
def Obligations.OffIntervalEndsInAnOnInterval : Prop :=
  (∀ (l : Load) (s : State), s.resetHeld = false →
    let x := s.timers.get l
    (x.interval ≠ .offInterval ∨ x.frozen = true ∨ singleOff l s = false → exec (.offIntervalExpiry l) s = .next s)
    ∧ (x.interval = .offInterval → x.frozen = false → singleOff l s = true →
        (0 < x.on → ∃ t, exec (.offIntervalExpiry l) s = .next t ∧ OnTheWay l x.on t ∧ Within .power s t)
        ∧ (x.on = 0 → 0 < x.off → exec (.offIntervalExpiry l) s = .next
            { s with timers := s.timers.set l { x with remaining := some x.off } })
        ∧ (x.on = 0 → x.off = 0 → exec (.offIntervalExpiry l) s = .next
            { s with timers := s.timers.set l { x with interval := .idle, remaining := none } })))
  ∧ (∀ (c : Cavity) (s : State), s.resetHeld = false →
    ((s.pairs.get c).paired = false ∨ (s.pairs.get c).position ≠ some .pairOff
        ∨ (s.timers.get (topOf c)).frozen = true → exec (.pairOffExpiry c) s = .next s)
    ∧ ((s.pairs.get c).paired = true → (s.pairs.get c).position = some .pairOff →
        (s.timers.get (topOf c)).frozen = false → 0 < (s.timers.get (topOf c)).on →
        s.arbiter.get (bottomOf c) = .none →
        ∃ t, exec (.pairOffExpiry c) s = .next t ∧ (t.pairs.get c).position = some .topTurn
          ∧ OnTheWay (topOf c) (s.timers.get (topOf c)).on t ∧ (t.timers.get (bottomOf c)).interval = .offInterval
          ∧ Within .drive s t)
    ∧ ((s.pairs.get c).paired = true → (s.pairs.get c).position = some .pairOff →
        (s.timers.get (topOf c)).frozen = false → (s.timers.get (topOf c)).on = 0 →
        (0 < (s.timers.get (bottomOf c)).on →
          s.arbiter.get (topOf c) = .none →
          ∃ t, exec (.pairOffExpiry c) s = .next t ∧ (t.pairs.get c).position = some .bottomTurn
            ∧ OnTheWay (bottomOf c) (s.timers.get (bottomOf c)).on t ∧ (t.timers.get (topOf c)).interval = .offInterval
            ∧ Within .drive s t)
        ∧ ((s.timers.get (bottomOf c)).on = 0 → 0 < (s.pairs.get c).offHold →
          ∃ t, exec (.pairOffExpiry c) s = .next t ∧ (t.pairs.get c).position = some .pairOff
            ∧ (t.timers.get (topOf c)).interval = .offInterval
            ∧ (t.timers.get (topOf c)).remaining = some (s.pairs.get c).offHold
            ∧ (t.timers.get (bottomOf c)).interval = .offInterval ∧ t.arbiter = s.arbiter ∧ Within .drive s t)
        ∧ ((s.timers.get (bottomOf c)).on = 0 → (s.pairs.get c).offHold = 0 →
          ∃ t, exec (.pairOffExpiry c) s = .next t ∧ (t.pairs.get c).position = none
            ∧ (t.timers.get (topOf c)).interval = .idle ∧ (t.timers.get (bottomOf c)).interval = .idle
            ∧ t.arbiter = s.arbiter ∧ Within .drive s t)))

/-- A grant decision (R78, R62): down the chain each waiting load that fits is granted and its timer enters
ON_INTERVAL, up to the first that does not fit, which is the break load; it and all below keep waiting; no grant is
withdrawn; with every rating within the budget and no grant outstanding something is granted; nothing under
mains-low. -/
def Obligations.GrantDecisionStopsAtTheFirstThatDoesNotFit : Prop :=
  ∀ s : State, chainOk s.settings.chain = true →
    let t := grantDecision s
    (s.mains.low = true → t = s)
    ∧ (∀ l, s.arbiter.get l ≠ .waiting → t.arbiter.get l = s.arbiter.get l ∧ t.timers.get l = s.timers.get l)
    ∧ (∀ l, s.arbiter.get l = .waiting → t.arbiter.get l = .waiting ∧ t.timers.get l = s.timers.get l
        ∨ t.arbiter.get l = .granted ∧ t.timers.get l = { s.timers.get l with interval := .onInterval })
    ∧ (∀ b, breakLoad t = some b → s.settings.budget < grantedSum t + s.settings.rating.get b)
    ∧ (s.mains.low = false → breakLoad t = none → ∀ l, t.arbiter.get l ≠ .waiting)
    ∧ (∀ (b l : Load) (above below : List Load), breakLoad t = some b → s.settings.chain = above ++ b :: below →
        s.arbiter.get l = .waiting →
        (l ∈ above → t.arbiter.get l = .granted) ∧ (l ∈ below → t.arbiter.get l = .waiting))
    ∧ (s.mains.low = false → ratingsWithin s.settings = true → (∀ l, s.arbiter.get l ≠ .granted) →
        (∃ l, s.arbiter.get l = .waiting) → ∃ l, t.arbiter.get l = .granted)
    ∧ (grantedSum s ≤ s.settings.budget → grantedSum t ≤ s.settings.budget)
    ∧ Within .power s t

/-- The outputs (R88, R74, R82): a load's output is on only under a grant, so with the power chain safe the ratings of
the loads whose outputs are on sum to at most BUDGET_LIMIT, and none is on under mains-low. -/
def Obligations.OutputsStayWithinTheBudget : Prop :=
  ∀ s : State, PowerSafe s →
    outputSum s ≤ s.settings.budget
      ∧ (∀ l, loadOutput l s = true → s.arbiter.get l = .granted ∧ (s.timers.get l).interval = .onInterval)
      ∧ (s.mains.low = true → ∀ l, loadOutput l s = false)

/-! ## Steam generator, water and descaling -/

/-- The level electrodes (R92, R97, R101, R102, R107). LEVEL_HIGH wetting completes a steam fill, running or waiting for
water, into HEATING: its record, the steam-water total (R118), the scale accrued with the carry, the warn and the lock
(R121, R122) and a save at each multiple of 256 (R126); in DESCALE it completes the solution's fill into HEAT_SOAK and the
rinse's into RINSE_DRAIN, accruing nothing (R133, R134, R135); with no fill open only the flag changes. LEVEL_LOW drying in HEATING, READY or DELIVERING drains
under the lock or without a demand, and else starts a top-up, complete at once with LEVEL_HIGH wet (looked at first,
log 19) and waiting for water with the tank absent (R97, R98, R99). LEVEL_LOW wetting restarts a drain's dry time. That
LEVEL_HIGH's drying comes as an operand of LEVEL_LOW's events, and alone where LEVEL_LOW stands so already, is the
model's choice (log 12); a flag that already stands so changes nothing else (log 4). -/
def Obligations.LevelElectrodesDriveTheGenerator : Prop :=
  ∀ s : State, s.resetHeld = false →
    let dried (high : Bool) : Bool := if high then false else s.gen.levelHighWet
    (s.gen.levelHighWet = true → exec .levelHighWet s = .next s)
    ∧ (s.gen.fill = none → exec .levelHighWet s = .next { s with gen := { s.gen with levelHighWet := true } })
    ∧ (∀ (f : Fill) (m : MeterFill), s.gen.levelHighWet = false → s.gen.fill = some f → s.meter.fill = some m →
        let v := min 65535 (m.pulses * 100 / s.settings.flowCal)
        let sum := v * s.settings.hardness + s.scale.carry
        let recorded (t : State) : Prop :=
          t.gen.fill = none ∧ t.gen.levelHighWet = true ∧ t.meter.fill = none
            ∧ t.meter.latest = some { volume := v, source := m.source, purpose := m.purpose }
            ∧ tankPump t = false ∧ inletValve t = false
            ∧ (m.purpose ≠ .steam → t.meter.total = s.meter.total ∧ t.scale = s.scale)
        (s.gen.state = .filling ∨ s.gen.state = .waterWait → ∃ t, exec .levelHighWet s = .next t
          ∧ recorded t ∧ t.gen.state = .heating ∧ t.gen.heatAccount = some 0 ∧ t.gen.waitPrompt = none
          ∧ holdsOf .genHeat t = (200, 0) ∧ t.prompts.generator = none
          ∧ (m.purpose = .steam → t.meter.total = min 4294967295 (s.meter.total + v)
              ∧ t.scale.points = min 65535 (s.scale.points + sum / 100) ∧ t.scale.carry = sum % 100
              ∧ t.scale.warn = (s.scale.warn || decide (s.settings.scaleWarn ≤ t.scale.points))
              ∧ t.scale.lock = (s.scale.lock || decide (s.settings.scaleLock ≤ t.scale.points))
              ∧ t.scale.savedPoints
                  = (if t.scale.points / 256 = s.scale.points / 256 then s.scale.savedPoints else some t.scale.points)
              ∧ (∀ p, (s.scale.warn = false → t.scale.warn = true →
                    Posted (.scaleWarn .accrual t.scale.points s.settings.scaleWarn) p t)
                  ∧ (s.scale.lock = false → t.scale.lock = true →
                    Posted (.scaleLock .accrual t.scale.points s.settings.scaleLock) p t)))
          ∧ Within .steam s t)
        ∧ (s.gen.state = .descale → s.proc.phase = .fillSolution → ∃ t, exec .levelHighWet s = .next t
          ∧ recorded t ∧ t.gen.state = .descale ∧ t.proc.phase = .heatSoak ∧ t.proc.solutionVolume = some v
          ∧ t.proc.savedPhase = some .heatSoak ∧ holdsOf .genHeat t = (200, 0) ∧ Within .descale s t)
        ∧ (s.gen.state = .descale → s.proc.phase = .rinseFill → ∃ t, exec .levelHighWet s = .next t
          ∧ recorded t ∧ t.gen.state = .descale ∧ t.proc.phase = .rinseDrain
          ∧ t.proc.rinseNumber = s.proc.rinseNumber ∧ t.gen.afterDrain = some .report ∧ t.gen.drainTime = some 0
          ∧ t.gen.dryTime = some 0 ∧ drainPump t = true ∧ Within .descale s t))
    ∧ (∀ high, s.gen.levelLowWet = false → exec (.levelLowDry high) s
        = .next { s with gen := { s.gen with levelHighWet := dried high } })
    ∧ (∀ high, s.gen.levelLowWet = true → s.gen.state ∈ [.heating, .ready, .delivering] →
        (s.scale.lock = true ∨ anyDemand s = false → ∃ t, exec (.levelLowDry high) s = .next t
            ∧ t.gen.state = .draining ∧ t.gen.afterDrain = some .empty ∧ t.gen.levelLowWet = false
            ∧ t.gen.levelHighWet = dried high ∧ drainPump t = true ∧ Within .steam s t)
        ∧ (s.scale.lock = false → anyDemand s = true → dried high = true → ∃ t, exec (.levelLowDry high) s = .next t
            ∧ t.gen.state = .heating ∧ t.gen.levelLowWet = false ∧ t.gen.levelHighWet = true
            ∧ t.gen.fill = none ∧ t.meter.fill = none ∧ t.gen.heatAccount = some 0 ∧ holdsOf .genHeat t = (200, 0)
            ∧ t.meter.latest = some { volume := 0, source := s.settings.waterSource, purpose := .steam }
            ∧ Within .steam s t)
        ∧ (s.scale.lock = false → anyDemand s = true → dried high = false → s.settings.waterSource = .tank →
            s.tankPresent = false → ∃ t, exec (.levelLowDry high) s = .next t
            ∧ t.gen.state = .waterWait ∧ t.gen.fill = some { purpose := .steam, source := .tank, watchdog := 0 }
            ∧ t.meter.fill.map (·.pulses) = some 0 ∧ (t.prompts.generator).map (·.code) = some 240
            ∧ t.gen.waitPrompt = (t.prompts.generator).map (·.id) ∧ tankPump t = false ∧ t.gen.credit = s.gen.credit
            ∧ Within .steam s t)
        ∧ (s.scale.lock = false → anyDemand s = true → dried high = false →
            (s.settings.waterSource = .plumbed ∨ s.tankPresent = true) → ∃ t, exec (.levelLowDry high) s = .next t
              ∧ t.gen.state = .filling
              ∧ t.gen.fill = some { purpose := .steam, source := s.settings.waterSource, watchdog := 0 }
              ∧ t.gen.credit = s.gen.credit ∧ t.gen.windowTime = none ∧ t.gen.serving = none
              ∧ t.meter.fill = some { source := s.settings.waterSource, purpose := .steam, pulses := 0, period := none
                                      quiet := 0, measuring := false }
              ∧ Within .steam s t))
    ∧ (∀ high, s.gen.levelLowWet = true → s.gen.state ∉ [.heating, .ready, .delivering] →
        exec (.levelLowDry high) s
          = .next { s with gen := { s.gen with levelLowWet := false, levelHighWet := dried high } })
    ∧ (∀ high, exec (.levelLowWet high) s = .next { s with
        gen := { s.gen with
          levelLowWet := true
          levelHighWet := dried high
          dryTime := if drainRunning s = true ∧ s.gen.levelLowWet = false then some 0 else s.gen.dryTime } })

/-- The no-flow watchdog (R98, R99, R109, R133): a stalled steam fill from TANK waits for water and raises REFILL_TANK, or
is given up into a drain where no demand is left; one from PLUMBED faults with NO_WATER. In DESCALE the fill ends
incomplete: the solution's goes back to WAIT_SOLUTION, a rinse's from TANK to WAIT_RINSE, each with a new prompt, and a
rinse's from PLUMBED aborts the procedure. No fill running, or mains-low present, and nothing changes (log 3).
TANK_REMOVAL and TANK_INSERTION (R167, R98, R99, R132, R133, R157): the tank state; a running fill from TANK stalls, under
mains-low too; the entries the tank answers are marked, a standing REFILL_TANK in WATER_WAIT among them, and a marked REFILL_TANK, ADD_DESCALER or RINSE_WATER is answered by the insertion.
A change already made changes nothing (log 4). -/
def Obligations.StallsAndTankEventsMoveTheFill : Prop :=
  (∀ (s : State) (f : Fill), s.resetHeld = false → s.gen.fill = some f →
     let steamWaits (t : State) : Prop :=
       t.gen.state = .waterWait ∧ t.gen.fill = some { f with watchdog := 0 } ∧ t.meter = s.meter
         ∧ (t.prompts.generator).map (·.code) = some 240
         ∧ t.gen.waitPrompt = (t.prompts.generator).map (·.id) ∧ tankPump t = false
     let steamGivenUp (t : State) : Prop :=
       t.gen.state = .draining ∧ t.gen.afterDrain = some .empty ∧ t.gen.fill = none ∧ t.gen.waitPrompt = none
         ∧ t.meter = { s.meter with fill := none } ∧ t.prompts.generator = none ∧ tankPump t = false
         ∧ drainPump t = true
     let ended (t : State) : Prop :=
       t.gen.fill = none ∧ t.meter = { s.meter with fill := none } ∧ tankPump t = false ∧ inletValve t = false
     let asks (phase : ProcPhase) (code : Nat) (t : State) : Prop :=
       ended t ∧ t.gen.state = .descale ∧ t.proc.phase = phase ∧ t.proc.rinseNumber = s.proc.rinseNumber
         ∧ (t.prompts.descaler).map (·.code) = some code ∧ t.proc.promptId = (t.prompts.descaler).map (·.id)
         ∧ t.proc.savedPhase = some phase
     (s.gen.state = .filling →
       (f.source = .tank → anyDemand s = true → s.mains.low = false →
         ∃ t, exec .fillWatchdogStall s = .next t ∧ steamWaits t ∧ Within .steam s t)
       ∧ (f.source = .tank → anyDemand s = false → s.mains.low = false →
         ∃ t, exec .fillWatchdogStall s = .next t ∧ steamGivenUp t ∧ Within .steam s t)
       ∧ (f.source = .plumbed → s.mains.low = false → ∃ t, exec .fillWatchdogStall s = .next t
           ∧ t.gen.state = .fault ∧ t.gen.faultKind = some .noWater ∧ t.gen.faultFrom = some .filling
           ∧ t.gen.fill = none ∧ t.meter.fill = none ∧ inletValve t = false ∧ t.gen.credit = s.gen.credit
           ∧ Within .steam s t)
       ∧ (f.source = .tank → s.tankPresent = true → s.prompts.descaler = none → ∃ t, exec .tankRemoval s = .next t
           ∧ t.tankPresent = false ∧ (anyDemand s = true → steamWaits t
             ∧ (t.prompts.generator).map (·.tankRemoved) = some true)
           ∧ (anyDemand s = false → steamGivenUp t) ∧ Within { Parts.steam with tankPresent := true } s t))
     ∧ (s.gen.state = .descale → s.proc.phase = .fillSolution →
         (s.mains.low = false → ∃ t, exec .fillWatchdogStall s = .next t ∧ asks .waitSolution 241 t
           ∧ Within .descale s t)
         ∧ (f.source = .tank → s.tankPresent = true → s.prompts.generator = none → ∃ t, exec .tankRemoval s = .next t
             ∧ t.tankPresent = false ∧ asks .waitSolution 241 t ∧ (t.prompts.descaler).map (·.tankRemoved) = some true
             ∧ Within { Parts.descale with tankPresent := true } s t))
     ∧ (s.gen.state = .descale → s.proc.phase = .rinseFill →
         (f.source = .tank → s.mains.low = false → ∃ t, exec .fillWatchdogStall s = .next t ∧ asks .waitRinse 242 t
           ∧ Within .descale s t)
         ∧ (f.source = .tank → s.tankPresent = true → s.prompts.generator = none → ∃ t, exec .tankRemoval s = .next t
             ∧ t.tankPresent = false ∧ asks .waitRinse 242 t ∧ (t.prompts.descaler).map (·.tankRemoved) = some true
             ∧ Within { Parts.descale with tankPresent := true } s t)
         ∧ (∀ k, f.source = .plumbed → s.proc.kind = some k → s.mains.low = false → ∃ t, exec .fillWatchdogStall s = .next t ∧ ended t
             ∧ t.proc.phase = .idle ∧ t.proc.kind = none ∧ t.proc.rinseOwed = true
             ∧ t.proc.lastOutcome = some (.aborted k .noWater .rinseFill) ∧ t.prompts.descaler = none
             ∧ t.gen.state = .draining ∧ t.gen.afterDrain = some .rinseOwed ∧ Within .descale s t)))
  ∧ (∀ s : State, s.resetHeld = false →
       (fillRunning s = false ∨ s.mains.low = true → exec .fillWatchdogStall s = .next s)
       ∧ (s.tankPresent = false → exec .tankRemoval s = .next s)
       ∧ (s.tankPresent = true → exec .tankInsertion s = .next s)
       ∧ (s.tankPresent = true → (fillRunning s = false ∨ s.gen.fill.map (·.source) ≠ some .tank) →
           (∀ e, s.prompts.generator = some e → e.code = 240) →
           (∀ e, s.prompts.descaler = some e → 240 ≤ e.code ∧ e.code ≤ 242) →
           exec .tankRemoval s = .next { s with
             tankPresent := false
             prompts := { s.prompts with
               generator := s.prompts.generator.map (fun e => { e with tankRemoved := true })
               descaler := s.prompts.descaler.map (fun e => { e with tankRemoved := true }) } })
       ∧ (s.tankPresent = false → s.prompts.generator = none → s.prompts.descaler = none →
           exec .tankInsertion s = .next { s with tankPresent := true })
       ∧ (∀ e f, s.tankPresent = false → s.gen.state = .waterWait → s.gen.fill = some f → s.prompts.generator = some e →
           e.code = 240 → e.tankRemoved = true → s.prompts.descaler = none →
           ∃ t, exec .tankInsertion s = .next t ∧ t.tankPresent = true ∧ t.gen.state = .filling
             ∧ t.gen.fill = some { f with watchdog := 0 } ∧ t.prompts.generator = none ∧ t.meter = s.meter
             ∧ Within { Parts.steam with tankPresent := true } s t)
       ∧ (∀ e, s.tankPresent = false → s.gen.state = .descale → s.gen.levelHighWet = false →
           s.prompts.descaler = some e → e.tankRemoved = true → s.prompts.generator = none →
           let pours (phase : ProcPhase) (purpose : Purpose) (src : WaterSource) : Prop :=
             ∃ t, exec .tankInsertion s = .next t ∧ t.tankPresent = true ∧ t.prompts.descaler = none
               ∧ t.proc.phase = phase ∧ t.proc.promptId = none
               ∧ t.gen.fill = some { purpose := purpose, source := src, watchdog := 0 }
               ∧ t.meter.fill.map (·.pulses) = some 0 ∧ Within { Parts.descale with tankPresent := true } s t
           (e.code = 241 → s.proc.phase = .waitSolution → pours .fillSolution .descaleSolution .tank)
           ∧ (∀ src, e.code = 242 → s.proc.phase = .waitRinse → s.proc.rinseSource = some src →
               pours .rinseFill .rinse src))
       ∧ (∀ e, s.tankPresent = false → s.gen.state = .descale → s.gen.levelHighWet = true →
           s.prompts.descaler = some e → e.tankRemoved = true → s.prompts.generator = none →
           (e.code = 241 → s.proc.phase = .waitSolution → ∃ t, exec .tankInsertion s = .next t ∧ t.tankPresent = true
             ∧ FilledAtOnce .descaleSolution .tank t ∧ Within { Parts.descale with tankPresent := true } s t)
           ∧ (∀ src, e.code = 242 → s.proc.phase = .waitRinse → s.proc.rinseSource = some src →
             ∃ t, exec .tankInsertion s = .next t ∧ t.tankPresent = true
               ∧ FilledAtOnce .rinse src t ∧ Within { Parts.descale with tankPresent := true } s t)))

/-- WINDOW_END (R104): the gains of the present demands up to 200; the cavity chosen among those with 100 or more, the
other than last served where both are eligible, A where none was served; 100 spent on it and its valve open for the new
window; with none eligible both valves shut. -/
def Obligations.WindowEndServesByCredit : Prop :=
  ∀ s : State, s.resetHeld = false →
    let gain (c : Cavity) : Nat :=
      if (s.gen.demand.get c).status = .present then min 200 (s.gen.credit.get c + (s.gen.demand.get c).level)
      else s.gen.credit.get c
    let fit (c : Cavity) : Prop := (s.gen.demand.get c).status = .present ∧ 100 ≤ gain c
    let serves (c : Cavity) : Prop := ∃ t, exec .windowEnd s = .next t
      ∧ t.gen.state = .delivering ∧ t.gen.serving = some c ∧ t.gen.lastServed = some c
      ∧ t.gen.windowTime = some 0 ∧ t.gen.credit.get c = gain c - 100
      ∧ t.gen.credit.get (otherCavity c) = gain (otherCavity c)
      ∧ steamValve c t = true ∧ steamValve (otherCavity c) t = false
      ∧ (s.gen.state = .ready → holdsOf .genHeat t = (200, 0)) ∧ Within .steam s t
    s.gen.state = .ready ∨ s.gen.state = .delivering →
    (∀ c, fit c → ¬ fit (otherCavity c) → serves c)
    ∧ (∀ c, fit .A → fit .B → s.gen.lastServed = some (otherCavity c) → serves c)
    ∧ (fit .A → fit .B → s.gen.lastServed = none → serves .A)
    ∧ (¬ fit .A → ¬ fit .B → ∃ t, exec .windowEnd s = .next t ∧ t.gen.state = .ready
        ∧ t.gen.windowTime = some 0 ∧ t.gen.credit = ⟨gain .A, gain .B⟩ ∧ t.gen.lastServed = s.gen.lastServed
        ∧ steamValve .A t = false ∧ steamValve .B t = false
        ∧ (s.gen.state = .delivering → holdsOf .genHeat t = (60, 140)) ∧ Within .steam s t)

/-- The drains (R106, R107): the idle drain of a READY generator without demand; the end of a drain by its after
drain, where a steam fill then wanted (R95) is complete at once with LEVEL_HIGH wet (log 19) and waits for water with the
tank absent (R97, R98); a drain with LEVEL_LOW still wet that has failed. In DESCALE the end is reported to the controller (R132, R135,
R139): PREP_DRAIN asks for the solution; DRAIN_SOLUTION begins the first rinse and RINSE_DRAIN the next, up to
RINSE_COUNT; after the last a rinse is complete, and a descale is DONE with the scale account zeroed, the generator
given back to EMPTY; a failed drain aborts the procedure (R137). Where nothing of this runs, nothing changes, and no
window ends outside READY and DELIVERING (log 3). HEAT_SLOW (R101, R123): the account stops at 300 s with the
slow-posted flag set, and the points below SCALE_WARN are raised to it; else (log 3) nothing changes. -/
def Obligations.DrainsEndAndSlowHeatingIsReported : Prop :=
  (∀ s : State, s.resetHeld = false →
     (s.gen.state ∉ [.ready, .delivering] → exec .windowEnd s = .next s)
     ∧ (s.gen.state ≠ .ready ∨ anyDemand s = true → exec .idleDrain s = .next s)
     ∧ (s.gen.state = .ready → anyDemand s = false → ∃ t, exec .idleDrain s = .next t
         ∧ t.gen.state = .draining ∧ t.gen.afterDrain = some .empty ∧ t.gen.drainTime = some 0
         ∧ t.gen.dryTime = some 0 ∧ holdsOf .genHeat t = (0, 0) ∧ drainPump t = true ∧ Within .steam s t)
     ∧ (drainRunning s = false ∨ s.gen.levelLowWet = true ∨ s.mains.low = true → exec .drainComplete s = .next s)
     ∧ (s.gen.state = .draining → s.gen.levelLowWet = false → s.mains.low = false →
         (s.gen.afterDrain = some .rinseOwed → ∃ t, exec .drainComplete s = .next t
             ∧ t.gen.state = .rinseOwed ∧ drainPump t = false ∧ t.gen.drainTime = none ∧ Within .steam s t)
         ∧ (s.gen.afterDrain = some .empty → anyPresent s = false ∨ s.scale.lock = true →
             ∃ t, exec .drainComplete s = .next t
               ∧ t.gen.state = .empty ∧ drainPump t = false ∧ t.gen.drainTime = none ∧ Within .steam s t)
         ∧ (s.gen.afterDrain = some .empty → anyPresent s = true → s.scale.lock = false → s.gen.levelHighWet = false →
             (s.settings.waterSource = .plumbed ∨ s.tankPresent = true) → ∃ t, exec .drainComplete s = .next t
               ∧ t.gen.state = .filling ∧ drainPump t = false
               ∧ t.gen.fill = some { purpose := .steam, source := s.settings.waterSource, watchdog := 0 }
               ∧ t.meter.fill.map (·.pulses) = some 0 ∧ Within .steam s t)
         ∧ (s.gen.afterDrain = some .empty → anyPresent s = true → s.scale.lock = false → s.gen.levelHighWet = true →
             ∃ t, exec .drainComplete s = .next t
               ∧ t.gen.state = .heating ∧ drainPump t = false ∧ t.gen.fill = none ∧ t.meter.fill = none
               ∧ t.meter.latest = some { volume := 0, source := s.settings.waterSource, purpose := .steam }
               ∧ holdsOf .genHeat t = (200, 0) ∧ Within .steam s t)
         ∧ (s.gen.afterDrain = some .empty → anyPresent s = true → s.scale.lock = false → s.gen.levelHighWet = false →
             s.settings.waterSource = .tank → s.tankPresent = false → ∃ t, exec .drainComplete s = .next t
               ∧ t.gen.state = .waterWait ∧ drainPump t = false ∧ tankPump t = false
               ∧ t.gen.fill = some { purpose := .steam, source := .tank, watchdog := 0 }
               ∧ t.meter.fill.map (·.pulses) = some 0 ∧ (t.prompts.generator).map (·.code) = some 240
               ∧ Within .steam s t))
     ∧ (drainRunning s = false ∨ s.gen.levelLowWet = false ∨ s.mains.low = true → exec .drainFail s = .next s)
     ∧ (s.gen.state = .draining → s.gen.levelLowWet = true → s.mains.low = false → ∃ t, exec .drainFail s = .next t
         ∧ t.gen.state = .fault ∧ t.gen.faultKind = some .drainFail ∧ t.gen.faultFrom = some .draining
         ∧ drainPump t = false ∧ Within .steam s t))
  ∧ (∀ (s : State) (k : ProcKind), s.resetHeld = false → s.mains.low = false → s.gen.state = .descale →
       s.gen.afterDrain = some .report → s.proc.kind = some k →
       let dry := s.gen.levelLowWet = false
       let drained (t : State) : Prop := exec .drainComplete s = .next t ∧ Within .descale s t
       let held (t : State) : Prop := t.gen.state = .descale ∧ t.gen.afterDrain = none ∧ t.gen.drainTime = none
         ∧ t.gen.dryTime = none ∧ drainPump t = false ∧ t.proc.kind = some k ∧ t.scale = s.scale
       let asks (code : Nat) (t : State) : Prop :=
         (t.prompts.descaler).map (·.code) = some code ∧ t.proc.promptId = (t.prompts.descaler).map (·.id)
       let rinses (n : Nat) : Prop :=
         (s.proc.rinseSource = some .tank → ∃ t, drained t ∧ held t ∧ asks 242 t ∧ t.proc.phase = .waitRinse
           ∧ t.proc.rinseNumber = some n)
         ∧ (s.proc.rinseSource = some .plumbed → s.gen.levelHighWet = false → ∃ t, drained t ∧ held t
             ∧ t.proc.phase = .rinseFill ∧ t.proc.rinseNumber = some n ∧ inletValve t = true
             ∧ t.gen.fill = some { purpose := .rinse, source := .plumbed, watchdog := 0 }
             ∧ t.meter.fill.map (·.pulses) = some 0)
         ∧ (s.proc.rinseSource = some .plumbed → s.gen.levelHighWet = true → ∃ t, drained t
             ∧ FilledAtOnce .rinse .plumbed t ∧ t.proc.rinseNumber = some n)
       let given (t : State) : Prop := t.proc.phase = .idle ∧ t.proc.kind = none ∧ t.proc.rinseNumber = none
         ∧ t.proc.rinseOwed = false ∧ t.proc.lastOutcome = some (.complete k) ∧ drainPump t = false
         ∧ t.gen.state = .empty
       (dry → s.proc.phase = .prepDrain → ∃ t, drained t ∧ held t ∧ asks 241 t ∧ t.proc.phase = .waitSolution
           ∧ t.proc.rinseNumber = s.proc.rinseNumber)
       ∧ (dry → s.proc.phase = .drainSolution → rinses 1)
       ∧ (∀ n, dry → s.proc.phase = .rinseDrain → s.proc.rinseNumber = some n →
           (n < s.settings.rinseCount → rinses (n + 1))
           ∧ (s.settings.rinseCount ≤ n → k = .rinse → anyPresent s = false ∨ s.scale.lock = true →
               ∃ t, drained t ∧ given t ∧ t.scale = s.scale)
           ∧ (s.settings.rinseCount ≤ n → k = .descale → anyPresent s = false →
               ∃ t, drained t ∧ given t ∧ t.scale.points = 0 ∧ t.scale.carry = 0 ∧ t.scale.warn = false
                 ∧ t.scale.lock = false ∧ t.scale.savedPoints = some 0
                 ∧ ∀ p, Posted (.descaleDone (s.proc.solutionVolume.getD 0) n) p t))
       ∧ (s.gen.levelLowWet = true → s.proc.phase ≠ .idle → ∃ t, exec .drainFail s = .next t
           ∧ t.gen.state = .fault ∧ t.gen.faultKind = some .drainFail ∧ t.gen.faultFrom = some .descale
           ∧ t.gen.afterDrain = none ∧ drainPump t = false ∧ t.proc.phase = .idle ∧ t.proc.kind = none
           ∧ t.proc.rinseOwed
               = (if k = .rinse ∨ s.proc.phase ∉ [.prepDrain, .waitSolution] then true else s.proc.rinseOwed)
           ∧ t.proc.lastOutcome = some (.aborted k .fault s.proc.phase) ∧ t.prompts.descaler = none
           ∧ (∀ p, Posted (.descaleAborted k .fault s.proc.phase) p t) ∧ Within .descale s t))
  ∧ (∀ s : State, s.resetHeld = false →
       (s.gen.state ≠ .heating ∨ s.arbiter.genHeat ≠ .granted ∨ s.gen.slowPosted = true → exec .heatSlow s = .next s)
       ∧ (s.gen.state = .heating → s.arbiter.genHeat = .granted → s.gen.slowPosted = false →
           ∃ t, exec .heatSlow s = .next t
             ∧ t.gen = { s.gen with heatAccount := some 3000, slowPosted := true }
             ∧ t.scale.points = max s.scale.points s.settings.scaleWarn ∧ t.scale.carry = s.scale.carry
             ∧ (s.scale.points < s.settings.scaleWarn → t.scale.warn = true)
             ∧ Within { gen := true, scale := true, store := true, runs := true, attention := true } s t))

/-- DRAIN_GEN and GEN_RESET (R108, R110). -/
def Obligations.GeneratorOrdersAnswerByState : Prop :=
  ∀ (p : Port) (q : Byte) (s : State), Accepts p s →
    let holdsWater := s.gen.state ∈ [.filling, .waterWait, .heating, .ready, .delivering]
    (holdsWater → anyDemand s = true → exec (.drainGen p q) s = .next (replied p q 0x30 .steamInUse .none s))
    ∧ (holdsWater → anyDemand s = false → ∃ u, exec (.drainGen p q) s = .next (replied p q 0x30 .done .none u)
        ∧ u.gen.state = .draining ∧ u.gen.afterDrain = some .empty ∧ u.gen.fill = none
        ∧ (s.gen.fill ≠ none → u.meter.fill = none ∧ u.prompts.generator = none) ∧ Within .steam s u)
    ∧ (s.gen.state = .draining → exec (.drainGen p q) s = .next (replied p q 0x30 .done .none s))
    ∧ (s.gen.state ∈ [.empty, .rinseOwed, .fault] → exec (.drainGen p q) s = .next (replied p q 0x30 .state .none s))
    ∧ (s.gen.state = .descale → exec (.drainGen p q) s = .next (replied p q 0x30 .genBusy .none s))
    ∧ (s.gen.state ≠ .fault ∨ s.sensors.genTemp.status = .faulted →
        exec (.genReset p q) s = .next (replied p q 0x31 .state .none s))
    ∧ (s.gen.state = .fault → s.sensors.genTemp.status ≠ .faulted →
        ∃ u, exec (.genReset p q) s = .next (replied p q 0x31 .done .none u)
          ∧ u.gen.state = .draining ∧ u.gen.faultKind = none ∧ u.gen.faultFrom = none
          ∧ u.gen.afterDrain = some (if s.proc.rinseOwed then .rinseOwed else .empty) ∧ Within .steam s u)

/-- The flow pulses and the quiet time (R116, R117, R119, R98, R100, R133, R137): a pulse without an open fill is a stray;
in a fill, steam or descale, it adds one and gives the period after the first (the gap since the pulse before it is an
operand, log 14), and feeds the watchdog of a running fill but under mains-low; a volume above 1500 ml with LEVEL_HIGH
dry is an overfill, which aborts a procedure under way; 4 s of quiet, the count standing there (log 3), make the period
absent, and without an open fill there is no quiet time to end (log 3). -/
def Obligations.FlowPulsesAreMetered : Prop :=
  ∀ (gap : Nat) (s : State), s.resetHeld = false →
    let fed : Gen := { s.gen with
      fill := if fillRunning s = true ∧ s.mains.low = false
        then s.gen.fill.map (fun f => { f with watchdog := 0 }) else s.gen.fill }
    (s.meter.fill = none → exec (.flowPulse gap) s = .next
      { s with meter := { s.meter with stray := min 65535 (s.meter.stray + 1) }, gen := fed })
    ∧ (∀ m : MeterFill, s.meter.fill = some m →
        let m' : MeterFill := { m with
          pulses := min 65535 (m.pulses + 1), quiet := 0, measuring := true
          period := if m.measuring then some (max 1 (min 65535 gap)) else none }
        let overfull : Prop := 1500 < m'.pulses * 100 / s.settings.flowCal ∧ s.gen.levelHighWet = false
        let faulted (t : State) : Prop :=
          t.gen.state = .fault ∧ t.gen.faultKind = some .overfill ∧ t.gen.faultFrom = some s.gen.state
            ∧ t.gen.fill = none ∧ (s.gen.fill ≠ none → t.meter.fill = none) ∧ t.meter.latest = s.meter.latest
        (¬ overfull → exec (.flowPulse gap) s = .next { s with meter := { s.meter with fill := some m' }, gen := fed })
        ∧ (overfull → s.gen.state ∉ [.fault, .descale] →
            ∃ t, exec (.flowPulse gap) s = .next t ∧ faulted t ∧ Within .steam s t)
        ∧ (∀ k, overfull → s.gen.state = .descale → s.proc.kind = some k →
            ∃ t, exec (.flowPulse gap) s = .next t ∧ faulted t ∧ t.proc.phase = .idle ∧ t.proc.kind = none
              ∧ t.proc.lastOutcome = some (.aborted k .fault s.proc.phase) ∧ t.prompts.descaler = none
              ∧ Within .descale s t))
    ∧ exec .quietTimeExpiry s = .next { s with
        meter := { s.meter with
          fill := s.meter.fill.map (fun f => { f with period := none, quiet := 40, measuring := false }) } }

/-- START_DESCALE and START_RINSE (R130, R131, R111): the checks in order; the procedure's fields, the generator in
DESCALE with both credits 0, and the first phase; a rinse's fill that starts with LEVEL_HIGH wet is complete with volume 0
(R97, R133). ABORT_DESCALE (R138, R136, R111): IDLE answers STATE; else the
procedure is aborted with reason ORDER, a rinse owed from FILL_SOLUTION on and by every rinse, its prompt cleared and
the generator given back, to a drain when a rinse is owed or LEVEL_LOW is wet. -/
def Obligations.ProcedureOrdersTakeAndGiveBackTheGenerator : Prop :=
  (∀ (p : Port) (q : Byte) (s : State), Accepts p s →
     let no (i : Instr) (id : Byte) (a : Answer) : Prop := exec i s = .next (replied p q id a .none s)
     (s.proc.phase ≠ .idle → no (.startDescale p q) 0x38 .state ∧ no (.startRinse p q) 0x3A .state)
     ∧ (s.proc.phase = .idle → s.gen.state ∉ [.empty, .ready, .rinseOwed] → no (.startDescale p q) 0x38 .genBusy)
     ∧ (s.proc.phase = .idle → s.gen.state ∉ [.empty, .rinseOwed] → no (.startRinse p q) 0x3A .genBusy)
     ∧ (s.proc.phase = .idle → s.gen.state ∈ [.empty, .ready, .rinseOwed] → steamInUse s = true →
         no (.startDescale p q) 0x38 .steamInUse)
     ∧ (s.proc.phase = .idle → s.gen.state = .empty → steamInUse s = true → no (.startRinse p q) 0x3A .steamInUse)
     ∧ (s.proc.phase = .idle → s.gen.state ∈ [.empty, .ready, .rinseOwed] → steamInUse s = false →
         ∃ u, exec (.startDescale p q) s = .next (replied p q 0x38 .done .none u)
           ∧ u.proc.phase = .prepDrain ∧ u.proc.kind = some .descale ∧ u.proc.rinseNumber = some 0
           ∧ u.proc.rinseSource = some s.settings.waterSource ∧ u.proc.rinseOwed = s.proc.rinseOwed
           ∧ u.gen.state = .descale ∧ u.gen.credit = ⟨0, 0⟩ ∧ u.gen.afterDrain = some .report ∧ drainPump u = true
           ∧ u.proc.savedPhase = some .prepDrain ∧ Within .descale s u)
     ∧ (s.proc.phase = .idle → (s.gen.state = .rinseOwed ∨ s.gen.state = .empty ∧ steamInUse s = false) →
         (s.settings.waterSource = .tank → ∃ u, exec (.startRinse p q) s = .next (replied p q 0x3A .done .none u)
           ∧ u.proc.phase = .waitRinse ∧ u.proc.kind = some .rinse ∧ u.proc.rinseNumber = some 1
           ∧ u.gen.state = .descale ∧ (u.prompts.descaler).map (·.code) = some 242
           ∧ u.proc.promptId = (u.prompts.descaler).map (·.id) ∧ Within .descale s u)
         ∧ (s.settings.waterSource = .plumbed → s.gen.levelHighWet = false →
             ∃ u, exec (.startRinse p q) s = .next (replied p q 0x3A .done .none u)
               ∧ u.proc.phase = .rinseFill ∧ u.proc.kind = some .rinse ∧ u.proc.rinseNumber = some 1
               ∧ u.gen.state = .descale ∧ inletValve u = true ∧ Within .descale s u)
         ∧ (s.settings.waterSource = .plumbed → s.gen.levelHighWet = true →
             ∃ u, exec (.startRinse p q) s = .next (replied p q 0x3A .done .none u)
               ∧ FilledAtOnce .rinse .plumbed u ∧ u.proc.kind = some .rinse ∧ u.proc.rinseNumber = some 1
               ∧ Within .descale s u)))
  ∧ (∀ (p : Port) (q : Byte) (s : State), Accepts p s →
       (s.proc.phase = .idle → exec (.abortDescale p q) s = .next (replied p q 0x39 .state .none s))
       ∧ (∀ k, s.proc.phase ≠ .idle → s.proc.kind = some k →
           ∃ u, exec (.abortDescale p q) s = .next (replied p q 0x39 .done .none u)
             ∧ u.proc.phase = .idle ∧ u.proc.kind = none ∧ u.proc.rinseNumber = none
             ∧ u.proc.lastOutcome = some (.aborted k .order s.proc.phase)
             ∧ u.proc.rinseOwed
                 = (if k = .rinse ∨ s.proc.phase ∉ [.prepDrain, .waitSolution] then true else s.proc.rinseOwed)
             ∧ u.prompts.descaler = none
             ∧ (u.proc.rinseOwed = true → u.gen.state = .draining ∧ u.gen.afterDrain = some .rinseOwed)
             ∧ (u.proc.rinseOwed = false → s.gen.levelLowWet = true →
                 u.gen.state = .draining ∧ u.gen.afterDrain = some .empty)
             ∧ (u.proc.rinseOwed = false → s.gen.levelLowWet = false → anyPresent s = false → u.gen.state = .empty)
             ∧ Within .descale s u))

/-- The soak (R69, R134): each soak update writes the heater's holds from the soak temperature and the reading, with the
formula of R58 and no bias; at SOAK_TIME the solution is drained. Outside SOAK or under mains-low nothing changes
(log 3). -/
def Obligations.SoakHoldsTheTemperatureThenDrains : Prop :=
  ∀ s : State, s.resetHeld = false →
    (s.gen.state ≠ .descale ∨ s.proc.phase ≠ .soak ∨ s.mains.low = true →
      exec .soakUpdate s = .next s ∧ exec .soakTimeExpiry s = .next s)
    ∧ (∀ reading, s.gen.state = .descale → s.proc.phase = .soak → s.mains.low = false →
        s.sensors.genTemp.reading = some reading → 0 < s.settings.propBand →
        let diff : Int := s.settings.soakTemp * 100 - 10 * reading
        (∃ (t : State) (d : Nat) (percent : Int), exec .soakUpdate s = .next t ∧ holdsOf .genHeat t = (2 * d, 200 - 2 * d)
          ∧ 2 * s.settings.propBand * percent ≤ 2 * diff + s.settings.propBand
          ∧ 2 * diff + s.settings.propBand < 2 * s.settings.propBand * (percent + 1)
          ∧ (d : Int) = max 0 (min 100 percent)
          ∧ t.gen = { s.gen with soakUpdate := some 0 } ∧ Within { gen := true, timers := true, arbiter := true } s t)
        ∧ (∃ t, exec .soakTimeExpiry s = .next t ∧ t.proc.phase = .drainSolution ∧ t.proc.soakTime = none
          ∧ t.gen.afterDrain = some .report ∧ t.gen.drainTime = some 0 ∧ t.gen.soakUpdate = none
          ∧ holdsOf .genHeat t = (0, 0) ∧ t.arbiter.genHeat = .none ∧ drainPump t = true ∧ Within .descale s t))

/-! ## Sensors and safety inputs -/

/-- SENSOR_SAMPLE at its sensor (R162, R163, R164): the status, the reading, the run time (which the model advances by
250 ms a sample, log 13) and the in-range flag after a sample, in each status; a sample not delivered changes nothing
else. -/
def Obligations.SampleIsJudgedByItsSensor : Prop :=
  ∀ (x : Sensor) (sample : Sample) (s : State), s.resetHeld = false →
    let r := s.sensors.get x
    let top : Int := match x with | .cavTempA | .cavTempB => 3000 | .coreA | .coreB => 1200 | .genTemp => 1600
    let v : Option Nat := match sample with
      | .tenths t => if 0 ≤ t ∧ t ≤ top then some t.toNat else none
      | .openOrShorted => none
    let only (r' : SensorRecord) : Prop :=
      exec (.sensorSample x sample) s = .next { s with sensors := s.sensors.set x r' }
    let handed (r' : SensorRecord) : Prop := ∃ t, exec (.sensorSample x sample) s = .next t
      ∧ t.sensors = s.sensors.set x r' ∧ Within { Parts.answer with sensors := true } s t
    (r.status = .absent → exec (.sensorSample x sample) s = .next s)
    ∧ (∀ n, r.status = .valid → v = some n → handed { r with reading := some n, inRange := true })
    ∧ (r.status = .valid → v = none → only { r with status := .suspect, runTime := some 0, inRange := false })
    ∧ (∀ n, r.status = .suspect → v = some n →
        handed { status := .valid, reading := some n, runTime := none, inRange := true })
    ∧ (∀ m, r.status = .suspect → v = none → r.runTime = some m →
        (m + 250 < 1000 → only { r with runTime := some (m + 250), inRange := false })
        ∧ (1000 ≤ m + 250 → handed { status := .faulted, reading := none, runTime := none, inRange := false }))
    ∧ (r.status = .faulted → v = none → only { r with runTime := none, inRange := false })
    ∧ (∀ n, r.status = .faulted → v = some n →
        (r.runTime = none → only { r with runTime := some 0, inRange := true })
        ∧ (∀ m, r.runTime = some m →
            (m + 250 < 5000 → only { r with runTime := some (m + 250), inRange := true })
            ∧ (5000 ≤ m + 250 →
                handed { status := .valid, reading := some n, runTime := none, inRange := true })))

/-- What a delivered sample, a new fault and its clearing do at the sensor's users (R56, R29, R31, R71, R44, R101, R109,
R134, R48, R49, R163, R164). A watch that a cavity or core sample trips is disarmed and reported; its NOTIFY leaves the
run, its END_STEP ends a step in HEATUP or HOLD, its PAUSE_RUN pauses the run; a cavity sample that also meets the
approach enters HOLD first (log 16). The core end condition, which passes a step with an AFTER prompt to EXIT_PROMPT, and
the approach are stated without a watch of the cavity in the way. A core sensor's fault acts as a probe removal, and its
clearing as an insertion that answers INSERT_PROBE, before the sample is delivered (log 16). A GEN_TEMP sample ends
HEATING and HEAT_SOAK at their settings; 140.0 °C under a grant is a dry boil, looked at before them (log 20). A cavity
sensor's fault aborts the run, its denial reason kept (log 28). -/
def Obligations.SamplesActOnTheirUsers : Prop :=
  ∀ (c : Cavity) (n : Nat) (s : State), s.resetHeld = false →
    let r := s.runs.get c
    let k := s.climates.get c
    let cav := Instr.sensorSample (cavitySensor c) (.tenths n)
    let core := Instr.sensorSample (coreSensor c) (.tenths n)
    let gen := Instr.sensorSample .genTemp (.tenths n)
    ((s.sensors.get (cavitySensor c)).status = .valid → n ≤ 3000 →
      (∀ step l goal, k.watch1 = none → k.watch2 = none → r.state = .running → counting r = true →
          r.phase = some .heatup → r.current = some step → step.action.target = some goal → k.loop = some l →
          approachMet l.case goal step.band n = true → k.restartOwed = false →
          ∃ t, exec cav s = .next t ∧ (t.runs.get c).phase = some .hold
            ∧ (t.climates.get c).loop = some { l with reached := true } ∧ (t.runs.get c).current = r.current))
    ∧ (∀ (slot : Nat) (w : Watch), slot = 1 ∨ slot = 2 → watchOf slot k = some w → watchOf (3 - slot) k = none →
        w.armed = true → (w.relation = .atOrAbove ∧ w.value * 10 ≤ n ∨ w.relation = .atOrBelow ∧ n ≤ w.value * 10) →
        (w.source = .cavity → (s.sensors.get (cavitySensor c)).status = .valid ∧ n ≤ 3000) →
        (w.source = .core → (s.sensors.get (coreSensor c)).status = .valid ∧ n ≤ 1200
          ∧ (r.coreCond ≠ some .live ∨ (r.current.bind (·.action.core)).all (fun goal => n < goal * 10) = true)) →
        let sample := if w.source = .cavity then cav else core
        let met : Bool :=
          match r.current, k.loop with
          | some step, some l => step.action.target.any (fun goal => approachMet l.case goal step.band n)
          | some _, none | none, some _ | none, none => false
        let seen : Run :=
          if w.source = .cavity ∧ r.state = .running ∧ counting r = true ∧ r.phase = some .heatup ∧ met = true
          then { r with phase := some .hold } else r
        let tripped (t : State) : Prop := exec sample s = .next t
          ∧ watchOf slot (t.climates.get c) = some { w with armed := false }
          ∧ watchOf (3 - slot) (t.climates.get c) = none
          ∧ ∀ p, Posted (.watchTrip c slot w.source n w.action) p t
        (w.action = .notify ∨ r.state ∉ [.running, .starved]
            ∨ (w.action = .endStep ∧ (r.state ≠ .running ∨ (r.phase ≠ some .heatup ∧ r.phase ≠ some .hold))) →
          ∃ t, tripped t ∧ SameRun (t.runs.get c) seen ∧ t.queues.get c = s.queues.get c)
        ∧ (∀ step e, w.action = .endStep → r.state = .running → (r.phase = some .heatup ∨ r.phase = some .hold) →
            r.current = some step → step.action.prompt = some e → e.placement = .after →
            ∃ t, tripped t ∧ (t.runs.get c).phase = some .exitPrompt ∧ (t.runs.get c).current = r.current
              ∧ (t.prompts.get (cavityOwner c)).map (·.code) = some e.code)
        ∧ (∀ step load a, w.action = .endStep → r.state = .running → (r.phase = some .heatup ∨ r.phase = some .hold) →
            r.current = some step → (∀ e, step.action.prompt = some e → e.placement ≠ .after) →
            WalkReaches load a (s.queues.get c) →
            let reading := if w.source = .cavity then n else cavityReading c s
            ∃ t, tripped t ∧ EnteredStep load a s.settings.approachBand reading (t.runs.get c))
        ∧ (w.action = .pauseRun → (r.state = .running ∨ r.state = .starved) →
            ∃ t, tripped t ∧ t.runs.get c = pausedRun seen .watch ∧ AllFrozen c t ∧ t.queues.get c = s.queues.get c))
    ∧ (∀ step goal, (s.sensors.get (coreSensor c)).status = .valid → n ≤ 1200 → k.watch1 = none →
        k.watch2 = none → r.current = some step → step.action.core = some goal →
        r.coreCond = some .live → r.state = .running → counting r = true →
        (r.phase = some .heatup ∨ r.phase = some .hold) → goal * 10 ≤ n →
        (∀ load a, (∀ e, step.action.prompt = some e → e.placement ≠ .after) → WalkReaches load a (s.queues.get c) →
          ∃ t, exec core s = .next t
            ∧ EnteredStep load a s.settings.approachBand (cavityReading c s) (t.runs.get c))
        ∧ (∀ e, step.action.prompt = some e → e.placement = .after → ∃ t, exec core s = .next t
            ∧ (t.runs.get c).phase = some .exitPrompt ∧ (t.runs.get c).state = .running
            ∧ (t.runs.get c).current = r.current ∧ t.queues.get c = s.queues.get c
            ∧ (t.prompts.get (cavityOwner c)).map (·.code) = some e.code
            ∧ (t.prompts.get (cavityOwner c)).map (·.placement) = some .after))
    ∧ (∀ step m, (s.sensors.get (coreSensor c)).status = .suspect →
        (s.sensors.get (coreSensor c)).runTime = some m → 1000 ≤ m + 250 → (r.state = .running ∨ r.state = .paused) →
        r.current = some step → step.action.core ≠ none → (r.phase = some .heatup ∨ r.phase = some .hold) →
        r.coreCond = some .live → ∃ t, exec (.sensorSample (coreSensor c) .openOrShorted) s = .next t
          ∧ (t.sensors.get (coreSensor c)).status = .faulted
          ∧ (step.action.duration ≠ none → t.runs.get c = { r with coreCond := some .suspended })
          ∧ (step.action.duration = none →
              (t.prompts.get (cavityOwner c)).map (·.code) = some 243
              ∧ (r.state = .running → t.runs.get c = pausedRun { r with coreCond := some .waitingProbe } .probe)
              ∧ (r.state = .paused → t.runs.get c = { r with coreCond := some .waitingProbe })))
    ∧ (∀ step goal m, (s.sensors.get (coreSensor c)).status = .faulted →
        (s.sensors.get (coreSensor c)).runTime = some m → 5000 ≤ m + 250 → n ≤ 1200 → k.watch1 = none →
        k.watch2 = none → (r.state = .running ∨ r.state = .paused) → r.current = some step →
        step.action.core = some goal → n < goal * 10 → (r.phase = some .heatup ∨ r.phase = some .hold) →
        (r.coreCond = some .suspended ∨ r.coreCond = some .waitingProbe) →
        let asked := (s.prompts.get (cavityOwner c)).map (·.code) = some 243
        let cleared (r' : Run) : Prop := ∃ t, exec core s = .next t ∧ (t.sensors.get (coreSensor c)).status = .valid
          ∧ SameRun (t.runs.get c) r' ∧ (asked → t.prompts.get (cavityOwner c) = none)
        (¬ (asked ∧ r.state = .paused ∧ r.pauseReason = some .probe) → cleared { r with coreCond := some .live })
        ∧ (asked → r.state = .paused → r.pauseReason = some .probe → ResumesInTime r s →
            cleared (resumedRun c { r with coreCond := some .live } s)))
    ∧ (s.sensors.genTemp.status = .valid → n ≤ 1600 →
        let calm := n < 1400 ∨ s.arbiter.genHeat ≠ .granted
        (s.gen.state = .heating → s.settings.readyTemp * 10 ≤ n → calm →
          ∃ t, exec gen s = .next t ∧ t.gen.state = .ready ∧ t.gen.windowTime = some 0 ∧ t.gen.idleTime = some 0
            ∧ holdsOf .genHeat t = (60, 140))
        ∧ (s.gen.state = .descale → s.proc.phase = .heatSoak → calm →
            (s.settings.soakTemp * 10 ≤ n → ∃ t, exec gen s = .next t ∧ t.proc.phase = .soak
              ∧ t.proc.soakTime = some 0 ∧ t.gen.soakUpdate = some 0 ∧ t.proc.savedPhase = some .soak
              ∧ holdsOf .genHeat t = (0, 200) ∧ Within { Parts.descale with sensors := true } s t)
            ∧ (n < s.settings.soakTemp * 10 → ∃ t, exec gen s = .next t ∧ t.proc = s.proc ∧ t.gen = s.gen))
        ∧ (1400 ≤ n → s.arbiter.genHeat = .granted → s.gen.state ≠ .fault → ∃ t, exec gen s = .next t
            ∧ t.gen.state = .fault ∧ t.gen.faultKind = some .dryBoil ∧ t.gen.faultFrom = some s.gen.state
            ∧ t.arbiter.genHeat = .none))
    ∧ (∀ m, (s.sensors.get (cavitySensor c)).status = .suspect →
        (s.sensors.get (cavitySensor c)).runTime = some m → 1000 ≤ m + 250 → inProgress r = true →
        ∃ t, exec (.sensorSample (cavitySensor c) .openOrShorted) s = .next t ∧ t.runs.get c = abortedRun r .sensor
          ∧ t.queues.get c = emptied (s.queues.get c))
    ∧ (∀ m, s.sensors.genTemp.status = .suspect → s.sensors.genTemp.runTime = some m → 1000 ≤ m + 250 →
        s.gen.state ≠ .fault → ∃ t, exec (.sensorSample .genTemp .openOrShorted) s = .next t
          ∧ t.gen.state = .fault ∧ t.gen.faultKind = some .sensor ∧ t.gen.faultFrom = some s.gen.state
          ∧ t.gen.credit = s.gen.credit)

/-- DOOR_OPEN and DOOR_CLOSE (R166, R45, R64, R72, R105): the door state; the door-suspended overlay of a RUNNING or
STARVED run with its timers frozen, its fan off and its valve shut; its removal. A door that closes on a
door-acknowledged entry, opened since it was raised, answers it (R157, R32), after that removal (log 16): a NOTICE has no
effect, BEFORE leaves ENTRY_PROMPT, AFTER ends the step, and an answer while PAUSED is deferred. PROBE_INSERTION and
PROBE_REMOVAL (R165, R49): the probe state, the core sensor's record, and the core condition of a step with a core target
in HEATUP or HOLD; an insertion answers INSERT_PROBE and resumes a run PAUSED for it. A change already made changes
nothing (log 4). -/
def Obligations.DoorAndProbeEventsMoveTheRun : Prop :=
  (∀ (c : Cavity) (s : State), s.resetHeld = false →
     let r := s.runs.get c
     (s.doorOpen.get c = true → exec (.doorOpen c) s = .next s)
     ∧ (s.doorOpen.get c = false → exec (.doorClose c) s = .next s)
     ∧ (s.doorOpen.get c = false → ∃ t, exec (.doorOpen c) s = .next t
         ∧ t.doorOpen = s.doorOpen.set c true ∧ t.queues = s.queues ∧ fanLevel c t = .off
         ∧ (r.state = .running ∨ r.state = .starved →
             t.runs.get c = { r with doorSuspended := true, doorTime := some 0 } ∧ AllFrozen c t
             ∧ (0 < stepSteam r → steamValve c t = false ∧ t.gen.credit = s.gen.credit))
         ∧ (r.state ∉ [.running, .starved] → t.runs.get c = r)
         ∧ Within { Parts.run with doorOpen := true } s t)
     ∧ (s.doorOpen.get c = true →
         (∀ e, s.prompts.get (cavityOwner c) = some e → e.doorAck = false ∨ e.doorOpened = false) →
         ∃ t, exec (.doorClose c) s = .next t ∧ t.doorOpen = s.doorOpen.set c false ∧ t.queues = s.queues
           ∧ { t.runs.get c with denial := none }
               = { r with doorSuspended := false, doorTime := none, denial := none }
           ∧ (r.state ≠ .paused → s.limitLatch.get c = false →
               ∀ l ∈ [topOf c, bottomOf c, ringOf c], (t.timers.get l).frozen = false)
           ∧ Within { Parts.run with doorOpen := true } s t)
     ∧ (∀ e, s.doorOpen.get c = true → s.prompts.get (cavityOwner c) = some e → e.doorAck = true →
         e.doorOpened = true →
         let lifted : Run := { r with doorSuspended := false, doorTime := none }
         let closes (post : State → Prop) : Prop := ∃ t, exec (.doorClose c) s = .next t
           ∧ t.doorOpen = s.doorOpen.set c false ∧ post t ∧ Within { Parts.run with doorOpen := true } s t
         let cleared (t : State) : Prop := t.prompts.get (cavityOwner c) = none ∧ t.queues = s.queues
           ∧ ∀ p, Posted (.promptCleared (cavityOwner c) e.code e.id .door) p t
         AnswerActs c e lifted s closes
         ∧ (e.placement = .before ∨ e.placement = .after → r.state = .paused →
             closes (fun t => SameRun (t.runs.get c) { lifted with deferred := true } ∧ cleared t))
         ∧ (e.placement = .notice → closes (fun t => SameRun (t.runs.get c) lifted ∧ cleared t))))
  ∧ (∀ (c : Cavity) (s : State), s.resetHeld = false →
       let r := s.runs.get c
       let k := s.sensors.get (coreSensor c)
       (s.probePresent.get c = true → exec (.probeInsertion c) s = .next s)
       ∧ (s.probePresent.get c = false → exec (.probeRemoval c) s = .next s)
       ∧ (s.probePresent.get c = false → ∃ t, exec (.probeInsertion c) s = .next t
           ∧ t.probePresent = s.probePresent.set c true
           ∧ t.sensors = s.sensors.set (coreSensor c) { k with status := .valid, reading := none, runTime := none }
           ∧ (r.state = .running → (∃ step, r.current = some step ∧ step.action.core ≠ none) →
               (r.phase = some .heatup ∨ r.phase = some .hold) →
               (r.coreCond = some .suspended ∨ r.coreCond = some .waitingProbe) →
               t.runs.get c = { r with coreCond := some .live })
           ∧ (∀ e, s.prompts.get (cavityOwner c) = some e → e.code = 243 → r.state ≠ .paused →
               t.prompts.get (cavityOwner c) = none)
           ∧ (∀ e step, s.prompts.get (cavityOwner c) = some e → e.code = 243 → r.state = .paused →
               r.pauseReason = some .probe → r.current = some step → step.action.core ≠ none →
               (r.phase = some .heatup ∨ r.phase = some .hold) → r.coreCond = some .waitingProbe → ResumesInTime r s →
               SameRun (t.runs.get c) (resumedRun c { r with coreCond := some .live } s)
                 ∧ t.prompts.get (cavityOwner c) = none)
           ∧ Within { Parts.run with sensors := true, probePresent := true } s t)
       ∧ (s.probePresent.get c = true → ∃ t, exec (.probeRemoval c) s = .next t
           ∧ t.probePresent = s.probePresent.set c false
           ∧ t.sensors = s.sensors.set (coreSensor c) { k with status := .absent, reading := none, runTime := none }
           ∧ (∀ step, (r.state = .running ∨ r.state = .paused) → r.current = some step → step.action.core ≠ none →
               (r.phase = some .heatup ∨ r.phase = some .hold) → r.coreCond = some .live →
               (step.action.duration ≠ none → t.runs.get c = { r with coreCond := some .suspended })
               ∧ (step.action.duration = none →
                   (t.prompts.get (cavityOwner c)).map (·.code) = some 243
                   ∧ (r.state = .running → t.runs.get c = pausedRun { r with coreCond := some .waitingProbe } .probe)
                   ∧ (r.state = .paused → t.runs.get c = { r with coreCond := some .waitingProbe })))
           ∧ Within { Parts.run with sensors := true, probePresent := true } s t))

/-- The limits (R168, R169, R48, R64): a trip sets the latch, aborts the run in progress and leaves the cavity's
timers frozen; the input's fall leaves the latch; CLEAR_LIMIT clears it only with the input inactive. The mains (R170,
R171, R82, R47, R138): mains-low withdraws every grant and holds every RUNNING or STARVED run; mains-back lifts the
overlay; the expiry aborts the runs that carry it, each but for the denial reason that the generator may set there (R96),
and a procedure under way. An event that finds nothing to change changes nothing (logs 3, 4), and a run aborted by its
limit keeps its denial reason (log 28). -/
def Obligations.LimitAndMainsEventsStopTheRuns : Prop :=
  (∀ (c : Cavity) (s : State), s.resetHeld = false →
     let r := s.runs.get c
     (s.limitActive.get c = true → exec (.limitTrip c) s = .next s)
     ∧ (s.limitActive.get c = false → ∃ t, exec (.limitTrip c) s = .next t
         ∧ t.limitActive = s.limitActive.set c true ∧ t.limitLatch = s.limitLatch.set c true ∧ AllFrozen c t
         ∧ loadOutput (topOf c) t = false ∧ loadOutput (bottomOf c) t = false ∧ loadOutput (ringOf c) t = false
         ∧ (inProgress r = true → t.runs.get c = abortedRun r .limit ∧ t.queues.get c = emptied (s.queues.get c)
             ∧ t.prompts.get (cavityOwner c) = none)
         ∧ (inProgress r = false → t.runs.get c = r)
         ∧ Within { Parts.run with limitActive := true, limitLatch := true } s t)
     ∧ exec (.limitRelease c) s = .next { s with limitActive := s.limitActive.set c false }
     ∧ (∀ (p : Port) (q b : Byte), Accepts p s → cavityOf? b = some c →
         (s.limitActive.get c = true → exec (.clearLimit p q b) s = .next (replied p q 0x5A .state .none s))
         ∧ (s.limitActive.get c = false → ∃ u, exec (.clearLimit p q b) s = .next (replied p q 0x5A .done .none u)
             ∧ u.limitLatch = s.limitLatch.set c false ∧ { u.runs.get c with denial := none } = { r with denial := none }
             ∧ (r.doorSuspended = false → r.state ≠ .paused →
                 ∀ l ∈ [topOf c, bottomOf c, ringOf c], (u.timers.get l).frozen = false)
             ∧ Within { Parts.run with limitLatch := true } s u)))
  ∧ (∀ s : State, s.resetHeld = false →
       (s.mains.low = true → exec .mainsLow s = .next s)
       ∧ (s.mains.low = false → exec .mainsBack s = .next s)
       ∧ (s.mains.low = false ∨ s.mains.expiryGiven = true → exec .mainsLowExpiry s = .next s)
       ∧ (s.mains.low = false → ∃ t, exec .mainsLow s = .next t
           ∧ t.mains = { low := true, lowTime := some 0, expiryGiven := false }
           ∧ (∀ l, t.arbiter.get l ≠ .granted ∧ loadOutput l t = false)
           ∧ (∀ c, (s.runs.get c).state = .running ∨ (s.runs.get c).state = .starved →
               { t.runs.get c with denial := none } = { s.runs.get c with mainsHeld := true, denial := none }
                 ∧ fanLevel c t = .off)
           ∧ t.queues = s.queues ∧ Within { Parts.run with mains := true } s t)
       ∧ (s.mains.low = true → ∃ t, exec .mainsBack s = .next t
           ∧ t.mains = { low := false, lowTime := none, expiryGiven := false }
           ∧ (∀ c, (t.runs.get c).mainsHeld = false ∧ (t.runs.get c).state = (s.runs.get c).state
               ∧ (t.runs.get c).current = (s.runs.get c).current)
           ∧ t.queues = s.queues ∧ Within { Parts.run with mains := true } s t)
       ∧ (s.mains.low = true → s.mains.expiryGiven = false → ∃ t, exec .mainsLowExpiry s = .next t
           ∧ t.mains = { low := true, lowTime := some 50, expiryGiven := true }
           ∧ (∀ c, (s.runs.get c).mainsHeld = true → SameRun (t.runs.get c) (abortedRun (s.runs.get c) .mainsLoss))
           ∧ (∀ c, (s.runs.get c).mainsHeld = false → (t.runs.get c).state = (s.runs.get c).state)
           ∧ t.proc.phase = .idle
           ∧ (∀ k, s.proc.phase ≠ .idle → s.proc.kind = some k →
               t.proc.lastOutcome = some (.aborted k .mainsLoss s.proc.phase))
           ∧ Within { Parts.answer with mains := true } s t))

/-! ## Prompts, store and settings -/

/-- ACK_PROMPT (R156, R32, R49, R99): an id that is not in the table is TOO_LATE and changes nothing; else the entry goes,
PROMPT_CLEARED names the port, and the owner proceeds: a NOTICE has no effect, BEFORE leaves ENTRY_PROMPT by the
approach test, AFTER ends the step (R33), an answer while PAUSED is deferred, INSERT_PROBE drops the core condition where
the probe cannot be used and resumes a run PAUSED for it, REFILL_TANK resumes the fill, ADD_DESCALER and RINSE_WATER begin
the descale controller's fill (R132, R133), which is complete at its start with LEVEL_HIGH wet (looked at first, log 19)
and stalls there with the tank absent. PROMPT_TIMEOUT (R158, R32, R41), of an entry whose timeout counts: CONTINUE, and
PAUSE of a NOTICE, remove it, and CONTINUE acts as the answer does; PAUSE of BEFORE or AFTER leaves it TIMED_OUT and
pauses the run; ABORT removes it and aborts the run in progress, its denial reason kept (log 28). An entry without a
timeout has none (log 3). -/
def Obligations.PromptsAreAnsweredOrTimeOut : Prop :=
  (∀ (p : Port) (q : Byte) (id : Half) (s : State), Accepts p s →
     (id = 0 ∨ (∀ o e, s.prompts.get o = some e → e.id ≠ id.toNat) →
       exec (.ackPrompt p q id) s = .next (replied p q 0x20 .tooLate .none s))
     ∧ (∀ o e, id ≠ 0 → s.prompts.get o = some e → e.id = id.toNat →
         (∀ o' e', o' ≠ o → s.prompts.get o' = some e' → e'.id ≠ id.toNat) →
         let cleared (t : State) : State :=
           broadcast (.promptCleared o e.code e.id (.ack p)) { t with prompts := t.prompts.set o none }
         let i := Instr.ackPrompt p q id
         (∀ c, o = cavityOwner c → e.code < 200 →
           let r := s.runs.get c
           (e.placement = .notice → exec i s = .next (replied p q 0x20 .done .none (cleared s)))
           ∧ (e.placement = .before ∨ e.placement = .after → r.state = .paused →
               exec i s = .next (replied p q 0x20 .done .none
                 (cleared { s with runs := s.runs.set c { r with deferred := true } })))
           ∧ AnswerActs c e r s (fun post =>
               ∃ u, exec i s = .next (replied p q 0x20 .done .none u) ∧ post u ∧ Within .run s u))
         ∧ (∀ c, o = cavityOwner c → e.code = 243 →
             let r := s.runs.get c
             let r' : Run :=
               if (r.state = .running ∨ r.state = .paused) ∧ (r.phase = some .heatup ∨ r.phase = some .hold)
                 ∧ (r.current.bind (·.action.core)).isSome = true ∧ r.coreCond = some .waitingProbe
                 ∧ (s.probePresent.get c = false ∨ (s.sensors.get (coreSensor c)).status = .faulted)
               then { r with coreCond := some .dropped } else r
             (¬ (r.state = .paused ∧ r.pauseReason = some .probe) →
               exec i s = .next (replied p q 0x20 .done .none (cleared { s with runs := s.runs.set c r' })))
             ∧ (r.state = .paused → r.pauseReason = some .probe → ResumesInTime r s →
                 ∃ u, exec i s = .next (replied p q 0x20 .done .none u) ∧ SameRun (u.runs.get c) (resumedRun c r' s)
                   ∧ u.prompts.get o = none ∧ u.queues = s.queues ∧ Within .run s u))
         ∧ (∀ f, o = .generator → s.gen.state = .waterWait → s.gen.fill = some f →
             (f.source = .plumbed ∨ s.tankPresent = true) →
             ∃ u, exec i s = .next (replied p q 0x20 .done .none u) ∧ u.gen.state = .filling
               ∧ u.gen.fill = some { f with watchdog := 0 } ∧ u.prompts.generator = none ∧ u.meter = s.meter
               ∧ Within .steam s u)
         ∧ (o = .descaler → s.gen.state = .descale → s.gen.levelHighWet = false →
             let pours (phase : ProcPhase) (purpose : Purpose) (src : WaterSource) : Prop :=
               ∃ u, exec i s = .next (replied p q 0x20 .done .none u) ∧ u.prompts.descaler = none
                 ∧ u.proc.phase = phase ∧ u.proc.promptId = none ∧ u.proc.rinseNumber = s.proc.rinseNumber
                 ∧ u.gen.fill = some { purpose := purpose, source := src, watchdog := 0 }
                 ∧ u.meter.fill.map (·.pulses) = some 0 ∧ (src = .tank → tankPump u = true)
                 ∧ (src = .plumbed → inletValve u = true) ∧ Within .descale s u
             let stalls (phase : ProcPhase) (code : Nat) : Prop :=
               ∃ u, exec i s = .next (replied p q 0x20 .done .none u) ∧ u.proc.phase = phase
                 ∧ (u.prompts.descaler).map (·.code) = some code
                 ∧ u.proc.promptId = (u.prompts.descaler).map (·.id)
                 ∧ u.gen.fill = none ∧ u.meter.fill = none ∧ Within .descale s u
             (s.proc.phase = .waitSolution →
               (s.tankPresent = true → pours .fillSolution .descaleSolution .tank)
               ∧ (s.tankPresent = false → stalls .waitSolution 241))
             ∧ (∀ src, s.proc.phase = .waitRinse → s.proc.rinseSource = some src →
                 (src = .plumbed ∨ s.tankPresent = true → pours .rinseFill .rinse src)
                 ∧ (src = .tank → s.tankPresent = false → stalls .waitRinse 242)))
         ∧ (o = .descaler → s.gen.state = .descale → s.gen.levelHighWet = true →
             (s.proc.phase = .waitSolution → ∃ u, exec i s = .next (replied p q 0x20 .done .none u)
               ∧ u.prompts.descaler = none ∧ FilledAtOnce .descaleSolution .tank u ∧ Within .descale s u)
             ∧ (∀ src, s.proc.phase = .waitRinse → s.proc.rinseSource = some src →
                 ∃ u, exec i s = .next (replied p q 0x20 .done .none u)
                   ∧ u.prompts.descaler = none ∧ FilledAtOnce .rinse src u ∧ Within .descale s u))))
  ∧ (∀ (o : Owner) (s : State), s.resetHeld = false →
       ((∀ e, s.prompts.get o = some e → e.timeout = none) → exec (.promptTimeout o) s = .next s)
       ∧ (∀ c e n, o = cavityOwner c → s.prompts.get o = some e → e.timeout = some n →
           let r := s.runs.get c
           let cleared (t : State) : State :=
             broadcast (.promptCleared o e.code e.id .timeout) { t with prompts := t.prompts.set o none }
           (e.placement = .notice → (e.onTimeout = some .cont ∨ e.onTimeout = some .pause) →
             exec (.promptTimeout o) s = .next (cleared s))
           ∧ ((e.placement = .before ∨ e.placement = .after) → e.onTimeout = some .cont → r.state = .paused →
               exec (.promptTimeout o) s
                 = .next (cleared { s with runs := s.runs.set c { r with deferred := true } }))
           ∧ (e.onTimeout = some .cont → AnswerActs c e r s (fun post =>
               ∃ t, exec (.promptTimeout o) s = .next t ∧ post t ∧ Within .run s t))
           ∧ ((e.placement = .before ∨ e.placement = .after) → e.onTimeout = some .pause →
               (r.state = .running ∨ r.state = .starved) → ∃ t, exec (.promptTimeout o) s = .next t
                 ∧ t.prompts.get o = some { e with timedOut := true, timeout := none }
                 ∧ t.runs.get c = pausedRun r .prompt ∧ AllFrozen c t ∧ Within .run s t)
           ∧ (e.onTimeout = some .abort → inProgress r = true → ∃ t, exec (.promptTimeout o) s = .next t
               ∧ t.prompts.get o = none ∧ t.runs.get c = abortedRun r .prompt
               ∧ t.queues.get c = emptied (s.queues.get c) ∧ Within .run s t)))

/-- The staging buffer's orders from the holder of STORE (R147, R148, R145): STORE_OPEN, STORE_LABEL, STORE_STEP and
STORE_CANCEL, with every refusal. -/
def Obligations.StagingOrdersFillTheBuffer : Prop :=
  ∀ (p : Port) (q : Byte) (k : Hold) (s : State), Accepts p s → s.holds.store = some k → k.holder = p →
    let held (b : Option Staging) : State :=
      { s with
        holds := { s.holds with store := some { holder := p, expiry := s.settings.holdTimeout * 10 } }
        staging := b }
    let answer (i : Instr) (id : Byte) (a : Answer) (r : Results) (b : Option Staging) : Prop :=
      exec i s = .next (replied p q id a r (held b))
    (∀ slot : Byte,
      (39 < slot.toNat → answer (.storeOpen p q slot) 0x48 .range .none s.staging)
      ∧ (slot.toNat ≤ 39 → slot.toNat < s.settings.fence → p ≠ .service →
          answer (.storeOpen p q slot) 0x48 .fence .none s.staging)
      ∧ (slot.toNat ≤ 39 → (s.settings.fence ≤ slot.toNat ∨ p = .service) →
          answer (.storeOpen p q slot) 0x48 .done .none (some { slot := slot.toNat, label := [], records := [] })))
    ∧ (∀ (n : Byte) (label : List Byte), label.length = n.toNat →
        (s.staging = none → answer (.storeLabel p q n label) 0x49 .state .none none)
        ∧ (∀ b, s.staging = some b → 16 < label.length → answer (.storeLabel p q n label) 0x49 .range .none (some b))
        ∧ (∀ b, s.staging = some b → label.length ≤ 16 →
            answer (.storeLabel p q n label) 0x49 .done .none (some { b with label := label })))
    ∧ (∀ record : List Byte, record.length = 18 →
        (s.staging = none → answer (.storeStep p q record) 0x4A .state .none none)
        ∧ (∀ b, s.staging = some b →
            (acceptRecord record = none → answer (.storeStep p q record) 0x4A .range .none (some b))
            ∧ (∀ r, acceptRecord record = some r → 48 ≤ b.records.length →
                answer (.storeStep p q record) 0x4A .full .none (some b))
            ∧ (∀ r, acceptRecord record = some r → b.records.length < 48 →
                answer (.storeStep p q record) 0x4A .done (.staged (b.records.length + 1))
                  (some { b with records := b.records ++ [r] }))))
    ∧ answer (.storeCancel p q) 0x4C .done .none none

/-- The orders that queue a write (R149, R150, R197, R152): STORE_COMMIT, ERASE_PROGRAM and SAVE_SETTINGS. The first
check that fails gives the answer; an accepted write is in flight at once, or waits behind the one in flight. What a loop
body counts past an earlier REPEAT of the same MARK, for LOOP_TOO_LONG, is the model's reading (log 37). -/
def Obligations.AcceptedWritesJoinTheQueue : Prop :=
  ∀ (p : Port) (q : Byte) (s : State), Accepts p s → (s.store.inFlight = none → s.store.waiting = []) →
    let queued (e : WriteEntry) : Store :=
      if s.store.inFlight = none then { s.store with inFlight := some e }
      else { s.store with waiting := s.store.waiting ++ [e] }
    let fence (slot : Nat) : Prop := slot < s.settings.fence ∧ p ≠ .service
    (∀ k, s.holds.store = some k → k.holder = p →
      let held : State :=
        { s with holds := { s.holds with store := some { holder := p, expiry := s.settings.holdTimeout * 10 } } }
      let commit (a : Answer) (t : State) : Prop := exec (.storeCommit p q) s = .next (replied p q 0x4B a .none t)
      let erase (b : Byte) (a : Answer) (t : State) : Prop :=
        exec (.eraseProgram p q b) s = .next (replied p q 0x4D a .none t)
      (s.staging = none → commit .state held)
      ∧ (∀ b, s.staging = some b →
          (fence b.slot → commit .fence held)
          ∧ (¬ fence b.slot →
              (b.records = [] → commit .state held)
              ∧ (b.records ≠ [] →
                  (bodiesFit none b.records = false → commit .loopTooLong held)
                  ∧ (bodiesFit none b.records = true →
                      (0 < useCount b.slot s → commit .inUse held)
                      ∧ (useCount b.slot s = 0 →
                          (384 + recordCount (projected b.slot s) < b.records.length + projectedUse s →
                            commit .poolFull held)
                          ∧ (b.records.length + projectedUse s ≤ 384 + recordCount (projected b.slot s) →
                              (2 ≤ portWriteCount s → commit .storeBusy held)
                              ∧ (portWriteCount s < 2 → commit .done { held with
                                  staging := none
                                  store := queued (.commit b.slot { label := b.label, records := b.records } p) })))))))
      ∧ (∀ b : Byte,
          (39 < b.toNat → erase b .range held)
          ∧ (b.toNat ≤ 39 →
              (fence b.toNat → erase b .fence held)
              ∧ (¬ fence b.toNat →
                  (projected b.toNat s = none → erase b .state held)
                  ∧ (projected b.toNat s ≠ none →
                      (0 < useCount b.toNat s → erase b .inUse held)
                      ∧ (useCount b.toNat s = 0 →
                          (2 ≤ portWriteCount s → erase b .storeBusy held)
                          ∧ (portWriteCount s < 2 →
                              erase b .done { held with store := queued (.erase b.toNat p) })))))))
    ∧ (2 ≤ portWriteCount s → exec (.saveSettings p q) s = .next (replied p q 0x52 .storeBusy .none s))
    ∧ (portWriteCount s < 2 → exec (.saveSettings p q) s = .next (replied p q 0x52 .done .none
        { s with store := queued (.settings s.settings p) }))

/-- STORE_WRITE_COMPLETE (R153, R126, R129): a commit or erase is tested again, IN_USE before FENCE (and both before a
failed WRITE, log 42), and installed only with result OK; a save replaces its record with result OK; STORE_DONE goes to
the port in the entry, value 2 of its detail 0 with OK (log 46); the next waiting entry begins. With no write in flight
nothing changes (log 4). -/
def Obligations.WriteCompletionInstallsAndReports : Prop :=
  ∀ (written : Bool) (s : State), s.resetHeld = false →
    let i := Instr.storeWriteComplete written
    let next : Store := { s.store with inFlight := s.store.waiting.head?, waiting := s.store.waiting.tail }
    let report (p : Port) (slot kind result why : Nat) : PerPort Attention :=
      s.attention.set p
        (offer (detail 5 slot result (toHalf kind) (toHalf why)) (s.attention.get p))
    (s.store.inFlight = none → exec i s = .next s)
    ∧ (∀ (slot : Nat) (p : Port) (content : Option Program) (kind : Nat) (e : WriteEntry),
        s.store.inFlight = some e →
        ((∃ prog, e = .commit slot prog p ∧ content = some prog ∧ kind = 0)
          ∨ e = .erase slot p ∧ content = none ∧ kind = 1) →
        (0 < useCount slot s → exec i s = .next { s with store := next, attention := report p slot kind 1 0 })
        ∧ (useCount slot s = 0 → slot < s.settings.fence → p ≠ .service →
            exec i s = .next { s with store := next, attention := report p slot kind 1 1 })
        ∧ (useCount slot s = 0 → (s.settings.fence ≤ slot ∨ p = .service) →
            (written = false → exec i s = .next { s with store := next, attention := report p slot kind 1 2 })
            ∧ (written = true → exec i s = .next { s with
                store := { next with slots := s.store.slots.setIfInBounds slot content }
                attention := report p slot kind 0 0 })))
    ∧ (∀ v p, s.store.inFlight = some (.settings v p) →
        (written = true → exec i s = .next { s with
          store := { next with settings := some { value := v, intact := true } }, attention := report p 255 2 0 0 })
        ∧ (written = false → exec i s = .next { s with store := next, attention := report p 255 2 1 2 }))
    ∧ (∀ v, s.store.inFlight = some (.scale v) →
        (written = true → exec i s = .next { s with
          store := { next with scale := some { value := v, intact := true } }
          scale := { s.scale with saveResult := some .ok } })
        ∧ (written = false → ∃ t, exec i s = .next t ∧ t.store.scale = s.store.scale
            ∧ t.scale = { s.scale with saveResult := some .fail, savedPoints := some s.scale.points }
            ∧ .scale { points := s.scale.points, carry := s.scale.carry } ∈ accepted t
            ∧ Within { store := true, scale := true } s t))
    ∧ (∀ v, s.store.inFlight = some (.procedure v) →
        (written = true → exec i s = .next { s with
          store := { next with procedure := some { value := v, intact := true } }
          proc := { s.proc with saveResult := some .ok } })
        ∧ (written = false → ∃ t, exec i s = .next t ∧ t.store.procedure = s.store.procedure
            ∧ t.proc = { s.proc with saveResult := some .fail, savedPhase := some s.proc.phase }
            ∧ Within { store := true, proc := true } s t))

/-- SET_PARAM (R195, R178, R194, R84 to R87): the refusals in order; an accepted value is in force and answered, and
with the power chain safe the granted sum is within the budget afterwards. The owners' consequences in the same handling:
FEED_TIMEOUT, DOOR_TIMEOUT, IDLE_DRAIN and SOAK_TIME at or below the time counted expire it (R34, R46, R106, R134); the
thresholds are tested with reason SETTING, a new lock in EMPTY or DRAINING refusing the demands (R122, R124, R96); FLOW_CAL
tests the open fill's volume for an overfill (R100); the other settings change nothing else. -/
def Obligations.SetParamPutsTheValueInForce : Prop :=
  ∀ (p : Port) (q b : Byte) (value : List Byte) (s : State), Accepts p s →
    let no (a : Answer) : Prop := exec (.setParam p q b value) s = .next (replied p q 0x50 a .none s)
    (settingOf? b = none → no .range)
    ∧ (∀ x, settingOf? b = some x → value.length ≠ (if x = .chain then 7 else 2) → no .range)
    ∧ (∀ x, settingOf? b = some x → value.length = (if x = .chain then 7 else 2) →
        (serviceOnly x = true → p ≠ .service → no .denied)
        ∧ (serviceOnly x = false ∨ p = .service →
            (∀ hi lo, x ≠ .chain → value = [hi, lo] → settingAccepts s.settings x (hi.toNat * 256 + lo.toNat) = false →
              no .range)
            ∧ (∀ hi lo, x ≠ .chain → value = [hi, lo] → settingAccepts s.settings x (hi.toNat * 256 + lo.toNat) = true →
                ∃ u, exec (.setParam p q b value) s
                    = .next (replied p q 0x50 .done (.param (.num (hi.toNat * 256 + lo.toNat))) u)
                  ∧ u.settings = setNumber s.settings x (hi.toNat * 256 + lo.toNat)
                  ∧ settingValue u.settings x = .num (hi.toNat * 256 + lo.toNat)
                  ∧ (PowerSafe s → grantedSum u ≤ u.settings.budget)
                  ∧ SettingActs x (hi.toNat * 256 + lo.toNat) s u
                  ∧ Within { Parts.answer with settings := true } s u)
            ∧ (∀ l, x = .chain → chainOf? value = some l → chainOk l = true →
                ∃ u, exec (.setParam p q b value) s = .next (replied p q 0x50 .done (.param (.chain l)) u)
                  ∧ u.settings = { s.settings with chain := l } ∧ (PowerSafe s → grantedSum u ≤ u.settings.budget)
                  ∧ Within { Parts.answer with settings := true } s u)
            ∧ (x = .chain → (∀ l, chainOf? value = some l → chainOk l = false) → no .range)))
end

