-- ==== Sys2Proof/Laws/State.lean ====
section
/-! SUPPORT. The small lemmas of State: reading a family after a write, and every field after every update. -/

namespace Sys2Proof.Machine

/-! ## Families -/

@[simp] theorem PerCavity.get_set_self {α : Type} (x : PerCavity α) (c : Cavity) (y : α) : (x.set c y).get c = y := by
  cases c <;> rfl

theorem PerCavity.get_set {α : Type} (x : PerCavity α) (c j : Cavity) (y : α) :
    (x.set c y).get j = if j = c then y else x.get j := by
  cases c <;> cases j <;> rfl

@[simp] theorem PerCavity.get_set_of_ne {α : Type} (x : PerCavity α) {c j : Cavity} (y : α) (ne : j ≠ c) :
    (x.set c y).get j = x.get j := by
  rw [PerCavity.get_set, if_neg ne]

@[simp] theorem PerCavity.set_get {α : Type} (x : PerCavity α) (c : Cavity) : x.set c (x.get c) = x := by
  cases c <;> rfl

@[simp] theorem PerCavity.set_set {α : Type} (x : PerCavity α) (c : Cavity) (y z : α) : (x.set c y).set c z = x.set c z := by
  cases c <;> rfl

@[simp] theorem PerPort.get_set_self {α : Type} (x : PerPort α) (p : Port) (y : α) : (x.set p y).get p = y := by
  cases p <;> rfl

theorem PerPort.get_set {α : Type} (x : PerPort α) (p j : Port) (y : α) :
    (x.set p y).get j = if j = p then y else x.get j := by
  cases p <;> cases j <;> rfl

@[simp] theorem PerPort.get_set_of_ne {α : Type} (x : PerPort α) {p j : Port} (y : α) (ne : j ≠ p) :
    (x.set p y).get j = x.get j := by
  rw [PerPort.get_set, if_neg ne]

@[simp] theorem PerPort.set_get {α : Type} (x : PerPort α) (p : Port) : x.set p (x.get p) = x := by
  cases p <;> rfl

@[simp] theorem PerPort.set_set {α : Type} (x : PerPort α) (p : Port) (y z : α) : (x.set p y).set p z = x.set p z := by
  cases p <;> rfl

@[simp] theorem PerLoad.get_set_self {α : Type} (x : PerLoad α) (l : Load) (y : α) : (x.set l y).get l = y := by
  cases l <;> rfl

theorem PerLoad.get_set {α : Type} (x : PerLoad α) (l j : Load) (y : α) :
    (x.set l y).get j = if j = l then y else x.get j := by
  cases l <;> cases j <;> rfl

@[simp] theorem PerLoad.get_set_of_ne {α : Type} (x : PerLoad α) {l j : Load} (y : α) (ne : j ≠ l) :
    (x.set l y).get j = x.get j := by
  rw [PerLoad.get_set, if_neg ne]

@[simp] theorem PerLoad.set_get {α : Type} (x : PerLoad α) (l : Load) : x.set l (x.get l) = x := by
  cases l <;> rfl

@[simp] theorem PerLoad.set_set {α : Type} (x : PerLoad α) (l : Load) (y z : α) : (x.set l y).set l z = x.set l z := by
  cases l <;> rfl

@[simp] theorem PerSensor.get_set_self {α : Type} (x : PerSensor α) (k : Sensor) (y : α) : (x.set k y).get k = y := by
  cases k <;> rfl

theorem PerSensor.get_set {α : Type} (x : PerSensor α) (k j : Sensor) (y : α) :
    (x.set k y).get j = if j = k then y else x.get j := by
  cases k <;> cases j <;> rfl

@[simp] theorem PerSensor.get_set_of_ne {α : Type} (x : PerSensor α) {k j : Sensor} (y : α) (ne : j ≠ k) :
    (x.set k y).get j = x.get j := by
  rw [PerSensor.get_set, if_neg ne]

@[simp] theorem PerSensor.set_get {α : Type} (x : PerSensor α) (k : Sensor) : x.set k (x.get k) = x := by
  cases k <;> rfl

@[simp] theorem PerSensor.set_set {α : Type} (x : PerSensor α) (k : Sensor) (y z : α) : (x.set k y).set k z = x.set k z := by
  cases k <;> rfl

@[simp] theorem PerHold.get_set_self {α : Type} (x : PerHold α) (h : HoldObject) (y : α) : (x.set h y).get h = y := by
  cases h <;> rfl

theorem PerHold.get_set {α : Type} (x : PerHold α) (h j : HoldObject) (y : α) :
    (x.set h y).get j = if j = h then y else x.get j := by
  cases h <;> cases j <;> rfl

@[simp] theorem PerHold.get_set_of_ne {α : Type} (x : PerHold α) {h j : HoldObject} (y : α) (ne : j ≠ h) :
    (x.set h y).get j = x.get j := by
  rw [PerHold.get_set, if_neg ne]

@[simp] theorem PerHold.set_get {α : Type} (x : PerHold α) (h : HoldObject) : x.set h (x.get h) = x := by
  cases h <;> rfl

@[simp] theorem PerHold.set_set {α : Type} (x : PerHold α) (h : HoldObject) (y z : α) : (x.set h y).set h z = x.set h z := by
  cases h <;> rfl

@[simp] theorem PerOwner.get_set_self {α : Type} (x : PerOwner α) (o : Owner) (y : α) : (x.set o y).get o = y := by
  cases o <;> rfl

theorem PerOwner.get_set {α : Type} (x : PerOwner α) (o j : Owner) (y : α) :
    (x.set o y).get j = if j = o then y else x.get j := by
  cases o <;> cases j <;> rfl

@[simp] theorem PerOwner.get_set_of_ne {α : Type} (x : PerOwner α) {o j : Owner} (y : α) (ne : j ≠ o) :
    (x.set o y).get j = x.get j := by
  rw [PerOwner.get_set, if_neg ne]

@[simp] theorem PerOwner.set_get {α : Type} (x : PerOwner α) (o : Owner) : x.set o (x.get o) = x := by
  cases o <;> rfl

@[simp] theorem PerOwner.set_set {α : Type} (x : PerOwner α) (o : Owner) (y z : α) : (x.set o y).set o z = x.set o z := by
  cases o <;> rfl

@[simp] theorem PerCavity.get_other_set {α : Type} (x : PerCavity α) (c : Cavity) (y : α) :
    (x.set c y).get (otherCavity c) = x.get (otherCavity c) := by
  cases c <;> rfl

@[simp] theorem otherCavity_ne (c : Cavity) : otherCavity c ≠ c := by cases c <;> decide

@[simp] theorem PerLoad.get_all {α : Type} (v : α) (l : Load) : (PerLoad.all v).get l = v := by cases l <;> rfl

/-! ## Fields after an update -/

@[simp] theorem modRun_settings (c : Cavity) (f : Run → Run) (s : State) : (modRun c f s).settings = s.settings := rfl
@[simp] theorem modRun_runs (c : Cavity) (f : Run → Run) (s : State) :
    (modRun c f s).runs = s.runs.set c (f (s.runs.get c)) := rfl
@[simp] theorem modRun_queues (c : Cavity) (f : Run → Run) (s : State) : (modRun c f s).queues = s.queues := rfl
@[simp] theorem modRun_climates (c : Cavity) (f : Run → Run) (s : State) : (modRun c f s).climates = s.climates := rfl
@[simp] theorem modRun_pairs (c : Cavity) (f : Run → Run) (s : State) : (modRun c f s).pairs = s.pairs := rfl
@[simp] theorem modRun_timers (c : Cavity) (f : Run → Run) (s : State) : (modRun c f s).timers = s.timers := rfl
@[simp] theorem modRun_arbiter (c : Cavity) (f : Run → Run) (s : State) : (modRun c f s).arbiter = s.arbiter := rfl
@[simp] theorem modRun_gen (c : Cavity) (f : Run → Run) (s : State) : (modRun c f s).gen = s.gen := rfl
@[simp] theorem modRun_meter (c : Cavity) (f : Run → Run) (s : State) : (modRun c f s).meter = s.meter := rfl
@[simp] theorem modRun_scale (c : Cavity) (f : Run → Run) (s : State) : (modRun c f s).scale = s.scale := rfl
@[simp] theorem modRun_proc (c : Cavity) (f : Run → Run) (s : State) : (modRun c f s).proc = s.proc := rfl
@[simp] theorem modRun_store (c : Cavity) (f : Run → Run) (s : State) : (modRun c f s).store = s.store := rfl
@[simp] theorem modRun_staging (c : Cavity) (f : Run → Run) (s : State) : (modRun c f s).staging = s.staging := rfl
@[simp] theorem modRun_prompts (c : Cavity) (f : Run → Run) (s : State) : (modRun c f s).prompts = s.prompts := rfl
@[simp] theorem modRun_promptCounter (c : Cavity) (f : Run → Run) (s : State) :
    (modRun c f s).promptCounter = s.promptCounter := rfl
@[simp] theorem modRun_sensors (c : Cavity) (f : Run → Run) (s : State) : (modRun c f s).sensors = s.sensors := rfl
@[simp] theorem modRun_doorOpen (c : Cavity) (f : Run → Run) (s : State) : (modRun c f s).doorOpen = s.doorOpen := rfl
@[simp] theorem modRun_probePresent (c : Cavity) (f : Run → Run) (s : State) :
    (modRun c f s).probePresent = s.probePresent := rfl
@[simp] theorem modRun_limitActive (c : Cavity) (f : Run → Run) (s : State) :
    (modRun c f s).limitActive = s.limitActive := rfl
@[simp] theorem modRun_limitLatch (c : Cavity) (f : Run → Run) (s : State) :
    (modRun c f s).limitLatch = s.limitLatch := rfl
@[simp] theorem modRun_tankPresent (c : Cavity) (f : Run → Run) (s : State) :
    (modRun c f s).tankPresent = s.tankPresent := rfl
@[simp] theorem modRun_mains (c : Cavity) (f : Run → Run) (s : State) : (modRun c f s).mains = s.mains := rfl
@[simp] theorem modRun_ports (c : Cavity) (f : Run → Run) (s : State) : (modRun c f s).ports = s.ports := rfl
@[simp] theorem modRun_holds (c : Cavity) (f : Run → Run) (s : State) : (modRun c f s).holds = s.holds := rfl
@[simp] theorem modRun_attention (c : Cavity) (f : Run → Run) (s : State) :
    (modRun c f s).attention = s.attention := rfl
@[simp] theorem modRun_resetHeld (c : Cavity) (f : Run → Run) (s : State) :
    (modRun c f s).resetHeld = s.resetHeld := rfl
@[simp] theorem modRun_freeIndex (c : Cavity) (f : Run → Run) (s : State) :
    (modRun c f s).freeIndex = s.freeIndex := rfl
@[simp] theorem modRun_pending (c : Cavity) (f : Run → Run) (s : State) : (modRun c f s).pending = s.pending := rfl

@[simp] theorem modQueue_settings (c : Cavity) (f : StepQueue → StepQueue) (s : State) :
    (modQueue c f s).settings = s.settings := rfl
@[simp] theorem modQueue_runs (c : Cavity) (f : StepQueue → StepQueue) (s : State) :
    (modQueue c f s).runs = s.runs := rfl
@[simp] theorem modQueue_queues (c : Cavity) (f : StepQueue → StepQueue) (s : State) :
    (modQueue c f s).queues = s.queues.set c (f (s.queues.get c)) := rfl
@[simp] theorem modQueue_climates (c : Cavity) (f : StepQueue → StepQueue) (s : State) :
    (modQueue c f s).climates = s.climates := rfl
@[simp] theorem modQueue_pairs (c : Cavity) (f : StepQueue → StepQueue) (s : State) :
    (modQueue c f s).pairs = s.pairs := rfl
@[simp] theorem modQueue_timers (c : Cavity) (f : StepQueue → StepQueue) (s : State) :
    (modQueue c f s).timers = s.timers := rfl
@[simp] theorem modQueue_arbiter (c : Cavity) (f : StepQueue → StepQueue) (s : State) :
    (modQueue c f s).arbiter = s.arbiter := rfl
@[simp] theorem modQueue_gen (c : Cavity) (f : StepQueue → StepQueue) (s : State) :
    (modQueue c f s).gen = s.gen := rfl
@[simp] theorem modQueue_meter (c : Cavity) (f : StepQueue → StepQueue) (s : State) :
    (modQueue c f s).meter = s.meter := rfl
@[simp] theorem modQueue_scale (c : Cavity) (f : StepQueue → StepQueue) (s : State) :
    (modQueue c f s).scale = s.scale := rfl
@[simp] theorem modQueue_proc (c : Cavity) (f : StepQueue → StepQueue) (s : State) :
    (modQueue c f s).proc = s.proc := rfl
@[simp] theorem modQueue_store (c : Cavity) (f : StepQueue → StepQueue) (s : State) :
    (modQueue c f s).store = s.store := rfl
@[simp] theorem modQueue_staging (c : Cavity) (f : StepQueue → StepQueue) (s : State) :
    (modQueue c f s).staging = s.staging := rfl
@[simp] theorem modQueue_prompts (c : Cavity) (f : StepQueue → StepQueue) (s : State) :
    (modQueue c f s).prompts = s.prompts := rfl
@[simp] theorem modQueue_promptCounter (c : Cavity) (f : StepQueue → StepQueue) (s : State) :
    (modQueue c f s).promptCounter = s.promptCounter := rfl
@[simp] theorem modQueue_sensors (c : Cavity) (f : StepQueue → StepQueue) (s : State) :
    (modQueue c f s).sensors = s.sensors := rfl
@[simp] theorem modQueue_doorOpen (c : Cavity) (f : StepQueue → StepQueue) (s : State) :
    (modQueue c f s).doorOpen = s.doorOpen := rfl
@[simp] theorem modQueue_probePresent (c : Cavity) (f : StepQueue → StepQueue) (s : State) :
    (modQueue c f s).probePresent = s.probePresent := rfl
@[simp] theorem modQueue_limitActive (c : Cavity) (f : StepQueue → StepQueue) (s : State) :
    (modQueue c f s).limitActive = s.limitActive := rfl
@[simp] theorem modQueue_limitLatch (c : Cavity) (f : StepQueue → StepQueue) (s : State) :
    (modQueue c f s).limitLatch = s.limitLatch := rfl
@[simp] theorem modQueue_tankPresent (c : Cavity) (f : StepQueue → StepQueue) (s : State) :
    (modQueue c f s).tankPresent = s.tankPresent := rfl
@[simp] theorem modQueue_mains (c : Cavity) (f : StepQueue → StepQueue) (s : State) :
    (modQueue c f s).mains = s.mains := rfl
@[simp] theorem modQueue_ports (c : Cavity) (f : StepQueue → StepQueue) (s : State) :
    (modQueue c f s).ports = s.ports := rfl
@[simp] theorem modQueue_holds (c : Cavity) (f : StepQueue → StepQueue) (s : State) :
    (modQueue c f s).holds = s.holds := rfl
@[simp] theorem modQueue_attention (c : Cavity) (f : StepQueue → StepQueue) (s : State) :
    (modQueue c f s).attention = s.attention := rfl
@[simp] theorem modQueue_resetHeld (c : Cavity) (f : StepQueue → StepQueue) (s : State) :
    (modQueue c f s).resetHeld = s.resetHeld := rfl
@[simp] theorem modQueue_freeIndex (c : Cavity) (f : StepQueue → StepQueue) (s : State) :
    (modQueue c f s).freeIndex = s.freeIndex := rfl
@[simp] theorem modQueue_pending (c : Cavity) (f : StepQueue → StepQueue) (s : State) :
    (modQueue c f s).pending = s.pending := rfl

@[simp] theorem modClimate_settings (c : Cavity) (f : Climate → Climate) (s : State) :
    (modClimate c f s).settings = s.settings := rfl
@[simp] theorem modClimate_runs (c : Cavity) (f : Climate → Climate) (s : State) :
    (modClimate c f s).runs = s.runs := rfl
@[simp] theorem modClimate_queues (c : Cavity) (f : Climate → Climate) (s : State) :
    (modClimate c f s).queues = s.queues := rfl
@[simp] theorem modClimate_climates (c : Cavity) (f : Climate → Climate) (s : State) :
    (modClimate c f s).climates = s.climates.set c (f (s.climates.get c)) := rfl
@[simp] theorem modClimate_pairs (c : Cavity) (f : Climate → Climate) (s : State) :
    (modClimate c f s).pairs = s.pairs := rfl
@[simp] theorem modClimate_timers (c : Cavity) (f : Climate → Climate) (s : State) :
    (modClimate c f s).timers = s.timers := rfl
@[simp] theorem modClimate_arbiter (c : Cavity) (f : Climate → Climate) (s : State) :
    (modClimate c f s).arbiter = s.arbiter := rfl
@[simp] theorem modClimate_gen (c : Cavity) (f : Climate → Climate) (s : State) :
    (modClimate c f s).gen = s.gen := rfl
@[simp] theorem modClimate_meter (c : Cavity) (f : Climate → Climate) (s : State) :
    (modClimate c f s).meter = s.meter := rfl
@[simp] theorem modClimate_scale (c : Cavity) (f : Climate → Climate) (s : State) :
    (modClimate c f s).scale = s.scale := rfl
@[simp] theorem modClimate_proc (c : Cavity) (f : Climate → Climate) (s : State) :
    (modClimate c f s).proc = s.proc := rfl
@[simp] theorem modClimate_store (c : Cavity) (f : Climate → Climate) (s : State) :
    (modClimate c f s).store = s.store := rfl
@[simp] theorem modClimate_staging (c : Cavity) (f : Climate → Climate) (s : State) :
    (modClimate c f s).staging = s.staging := rfl
@[simp] theorem modClimate_prompts (c : Cavity) (f : Climate → Climate) (s : State) :
    (modClimate c f s).prompts = s.prompts := rfl
@[simp] theorem modClimate_promptCounter (c : Cavity) (f : Climate → Climate) (s : State) :
    (modClimate c f s).promptCounter = s.promptCounter := rfl
@[simp] theorem modClimate_sensors (c : Cavity) (f : Climate → Climate) (s : State) :
    (modClimate c f s).sensors = s.sensors := rfl
@[simp] theorem modClimate_doorOpen (c : Cavity) (f : Climate → Climate) (s : State) :
    (modClimate c f s).doorOpen = s.doorOpen := rfl
@[simp] theorem modClimate_probePresent (c : Cavity) (f : Climate → Climate) (s : State) :
    (modClimate c f s).probePresent = s.probePresent := rfl
@[simp] theorem modClimate_limitActive (c : Cavity) (f : Climate → Climate) (s : State) :
    (modClimate c f s).limitActive = s.limitActive := rfl
@[simp] theorem modClimate_limitLatch (c : Cavity) (f : Climate → Climate) (s : State) :
    (modClimate c f s).limitLatch = s.limitLatch := rfl
@[simp] theorem modClimate_tankPresent (c : Cavity) (f : Climate → Climate) (s : State) :
    (modClimate c f s).tankPresent = s.tankPresent := rfl
@[simp] theorem modClimate_mains (c : Cavity) (f : Climate → Climate) (s : State) :
    (modClimate c f s).mains = s.mains := rfl
@[simp] theorem modClimate_ports (c : Cavity) (f : Climate → Climate) (s : State) :
    (modClimate c f s).ports = s.ports := rfl
@[simp] theorem modClimate_holds (c : Cavity) (f : Climate → Climate) (s : State) :
    (modClimate c f s).holds = s.holds := rfl
@[simp] theorem modClimate_attention (c : Cavity) (f : Climate → Climate) (s : State) :
    (modClimate c f s).attention = s.attention := rfl
@[simp] theorem modClimate_resetHeld (c : Cavity) (f : Climate → Climate) (s : State) :
    (modClimate c f s).resetHeld = s.resetHeld := rfl
@[simp] theorem modClimate_freeIndex (c : Cavity) (f : Climate → Climate) (s : State) :
    (modClimate c f s).freeIndex = s.freeIndex := rfl
@[simp] theorem modClimate_pending (c : Cavity) (f : Climate → Climate) (s : State) :
    (modClimate c f s).pending = s.pending := rfl

@[simp] theorem modPair_settings (c : Cavity) (f : Pair → Pair) (s : State) :
    (modPair c f s).settings = s.settings := rfl
@[simp] theorem modPair_runs (c : Cavity) (f : Pair → Pair) (s : State) : (modPair c f s).runs = s.runs := rfl
@[simp] theorem modPair_queues (c : Cavity) (f : Pair → Pair) (s : State) : (modPair c f s).queues = s.queues := rfl
@[simp] theorem modPair_climates (c : Cavity) (f : Pair → Pair) (s : State) :
    (modPair c f s).climates = s.climates := rfl
@[simp] theorem modPair_pairs (c : Cavity) (f : Pair → Pair) (s : State) :
    (modPair c f s).pairs = s.pairs.set c (f (s.pairs.get c)) := rfl
@[simp] theorem modPair_timers (c : Cavity) (f : Pair → Pair) (s : State) : (modPair c f s).timers = s.timers := rfl
@[simp] theorem modPair_arbiter (c : Cavity) (f : Pair → Pair) (s : State) :
    (modPair c f s).arbiter = s.arbiter := rfl
@[simp] theorem modPair_gen (c : Cavity) (f : Pair → Pair) (s : State) : (modPair c f s).gen = s.gen := rfl
@[simp] theorem modPair_meter (c : Cavity) (f : Pair → Pair) (s : State) : (modPair c f s).meter = s.meter := rfl
@[simp] theorem modPair_scale (c : Cavity) (f : Pair → Pair) (s : State) : (modPair c f s).scale = s.scale := rfl
@[simp] theorem modPair_proc (c : Cavity) (f : Pair → Pair) (s : State) : (modPair c f s).proc = s.proc := rfl
@[simp] theorem modPair_store (c : Cavity) (f : Pair → Pair) (s : State) : (modPair c f s).store = s.store := rfl
@[simp] theorem modPair_staging (c : Cavity) (f : Pair → Pair) (s : State) :
    (modPair c f s).staging = s.staging := rfl
@[simp] theorem modPair_prompts (c : Cavity) (f : Pair → Pair) (s : State) :
    (modPair c f s).prompts = s.prompts := rfl
@[simp] theorem modPair_promptCounter (c : Cavity) (f : Pair → Pair) (s : State) :
    (modPair c f s).promptCounter = s.promptCounter := rfl
@[simp] theorem modPair_sensors (c : Cavity) (f : Pair → Pair) (s : State) :
    (modPair c f s).sensors = s.sensors := rfl
@[simp] theorem modPair_doorOpen (c : Cavity) (f : Pair → Pair) (s : State) :
    (modPair c f s).doorOpen = s.doorOpen := rfl
@[simp] theorem modPair_probePresent (c : Cavity) (f : Pair → Pair) (s : State) :
    (modPair c f s).probePresent = s.probePresent := rfl
@[simp] theorem modPair_limitActive (c : Cavity) (f : Pair → Pair) (s : State) :
    (modPair c f s).limitActive = s.limitActive := rfl
@[simp] theorem modPair_limitLatch (c : Cavity) (f : Pair → Pair) (s : State) :
    (modPair c f s).limitLatch = s.limitLatch := rfl
@[simp] theorem modPair_tankPresent (c : Cavity) (f : Pair → Pair) (s : State) :
    (modPair c f s).tankPresent = s.tankPresent := rfl
@[simp] theorem modPair_mains (c : Cavity) (f : Pair → Pair) (s : State) : (modPair c f s).mains = s.mains := rfl
@[simp] theorem modPair_ports (c : Cavity) (f : Pair → Pair) (s : State) : (modPair c f s).ports = s.ports := rfl
@[simp] theorem modPair_holds (c : Cavity) (f : Pair → Pair) (s : State) : (modPair c f s).holds = s.holds := rfl
@[simp] theorem modPair_attention (c : Cavity) (f : Pair → Pair) (s : State) :
    (modPair c f s).attention = s.attention := rfl
@[simp] theorem modPair_resetHeld (c : Cavity) (f : Pair → Pair) (s : State) :
    (modPair c f s).resetHeld = s.resetHeld := rfl
@[simp] theorem modPair_freeIndex (c : Cavity) (f : Pair → Pair) (s : State) :
    (modPair c f s).freeIndex = s.freeIndex := rfl
@[simp] theorem modPair_pending (c : Cavity) (f : Pair → Pair) (s : State) :
    (modPair c f s).pending = s.pending := rfl

@[simp] theorem modTimer_settings (l : Load) (f : Timer → Timer) (s : State) :
    (modTimer l f s).settings = s.settings := rfl
@[simp] theorem modTimer_runs (l : Load) (f : Timer → Timer) (s : State) : (modTimer l f s).runs = s.runs := rfl
@[simp] theorem modTimer_queues (l : Load) (f : Timer → Timer) (s : State) : (modTimer l f s).queues = s.queues := rfl
@[simp] theorem modTimer_climates (l : Load) (f : Timer → Timer) (s : State) :
    (modTimer l f s).climates = s.climates := rfl
@[simp] theorem modTimer_pairs (l : Load) (f : Timer → Timer) (s : State) : (modTimer l f s).pairs = s.pairs := rfl
@[simp] theorem modTimer_timers (l : Load) (f : Timer → Timer) (s : State) :
    (modTimer l f s).timers = s.timers.set l (f (s.timers.get l)) := rfl
@[simp] theorem modTimer_arbiter (l : Load) (f : Timer → Timer) (s : State) :
    (modTimer l f s).arbiter = s.arbiter := rfl
@[simp] theorem modTimer_gen (l : Load) (f : Timer → Timer) (s : State) : (modTimer l f s).gen = s.gen := rfl
@[simp] theorem modTimer_meter (l : Load) (f : Timer → Timer) (s : State) : (modTimer l f s).meter = s.meter := rfl
@[simp] theorem modTimer_scale (l : Load) (f : Timer → Timer) (s : State) : (modTimer l f s).scale = s.scale := rfl
@[simp] theorem modTimer_proc (l : Load) (f : Timer → Timer) (s : State) : (modTimer l f s).proc = s.proc := rfl
@[simp] theorem modTimer_store (l : Load) (f : Timer → Timer) (s : State) : (modTimer l f s).store = s.store := rfl
@[simp] theorem modTimer_staging (l : Load) (f : Timer → Timer) (s : State) :
    (modTimer l f s).staging = s.staging := rfl
@[simp] theorem modTimer_prompts (l : Load) (f : Timer → Timer) (s : State) :
    (modTimer l f s).prompts = s.prompts := rfl
@[simp] theorem modTimer_promptCounter (l : Load) (f : Timer → Timer) (s : State) :
    (modTimer l f s).promptCounter = s.promptCounter := rfl
@[simp] theorem modTimer_sensors (l : Load) (f : Timer → Timer) (s : State) :
    (modTimer l f s).sensors = s.sensors := rfl
@[simp] theorem modTimer_doorOpen (l : Load) (f : Timer → Timer) (s : State) :
    (modTimer l f s).doorOpen = s.doorOpen := rfl
@[simp] theorem modTimer_probePresent (l : Load) (f : Timer → Timer) (s : State) :
    (modTimer l f s).probePresent = s.probePresent := rfl
@[simp] theorem modTimer_limitActive (l : Load) (f : Timer → Timer) (s : State) :
    (modTimer l f s).limitActive = s.limitActive := rfl
@[simp] theorem modTimer_limitLatch (l : Load) (f : Timer → Timer) (s : State) :
    (modTimer l f s).limitLatch = s.limitLatch := rfl
@[simp] theorem modTimer_tankPresent (l : Load) (f : Timer → Timer) (s : State) :
    (modTimer l f s).tankPresent = s.tankPresent := rfl
@[simp] theorem modTimer_mains (l : Load) (f : Timer → Timer) (s : State) : (modTimer l f s).mains = s.mains := rfl
@[simp] theorem modTimer_ports (l : Load) (f : Timer → Timer) (s : State) : (modTimer l f s).ports = s.ports := rfl
@[simp] theorem modTimer_holds (l : Load) (f : Timer → Timer) (s : State) : (modTimer l f s).holds = s.holds := rfl
@[simp] theorem modTimer_attention (l : Load) (f : Timer → Timer) (s : State) :
    (modTimer l f s).attention = s.attention := rfl
@[simp] theorem modTimer_resetHeld (l : Load) (f : Timer → Timer) (s : State) :
    (modTimer l f s).resetHeld = s.resetHeld := rfl
@[simp] theorem modTimer_freeIndex (l : Load) (f : Timer → Timer) (s : State) :
    (modTimer l f s).freeIndex = s.freeIndex := rfl
@[simp] theorem modTimer_pending (l : Load) (f : Timer → Timer) (s : State) :
    (modTimer l f s).pending = s.pending := rfl

@[simp] theorem setStatus_settings (l : Load) (x : LoadStatus) (s : State) :
    (setStatus l x s).settings = s.settings := rfl
@[simp] theorem setStatus_runs (l : Load) (x : LoadStatus) (s : State) : (setStatus l x s).runs = s.runs := rfl
@[simp] theorem setStatus_queues (l : Load) (x : LoadStatus) (s : State) : (setStatus l x s).queues = s.queues := rfl
@[simp] theorem setStatus_climates (l : Load) (x : LoadStatus) (s : State) :
    (setStatus l x s).climates = s.climates := rfl
@[simp] theorem setStatus_pairs (l : Load) (x : LoadStatus) (s : State) : (setStatus l x s).pairs = s.pairs := rfl
@[simp] theorem setStatus_timers (l : Load) (x : LoadStatus) (s : State) : (setStatus l x s).timers = s.timers := rfl
@[simp] theorem setStatus_arbiter (l : Load) (x : LoadStatus) (s : State) :
    (setStatus l x s).arbiter = s.arbiter.set l x := rfl
@[simp] theorem setStatus_gen (l : Load) (x : LoadStatus) (s : State) : (setStatus l x s).gen = s.gen := rfl
@[simp] theorem setStatus_meter (l : Load) (x : LoadStatus) (s : State) : (setStatus l x s).meter = s.meter := rfl
@[simp] theorem setStatus_scale (l : Load) (x : LoadStatus) (s : State) : (setStatus l x s).scale = s.scale := rfl
@[simp] theorem setStatus_proc (l : Load) (x : LoadStatus) (s : State) : (setStatus l x s).proc = s.proc := rfl
@[simp] theorem setStatus_store (l : Load) (x : LoadStatus) (s : State) : (setStatus l x s).store = s.store := rfl
@[simp] theorem setStatus_staging (l : Load) (x : LoadStatus) (s : State) :
    (setStatus l x s).staging = s.staging := rfl
@[simp] theorem setStatus_prompts (l : Load) (x : LoadStatus) (s : State) :
    (setStatus l x s).prompts = s.prompts := rfl
@[simp] theorem setStatus_promptCounter (l : Load) (x : LoadStatus) (s : State) :
    (setStatus l x s).promptCounter = s.promptCounter := rfl
@[simp] theorem setStatus_sensors (l : Load) (x : LoadStatus) (s : State) :
    (setStatus l x s).sensors = s.sensors := rfl
@[simp] theorem setStatus_doorOpen (l : Load) (x : LoadStatus) (s : State) :
    (setStatus l x s).doorOpen = s.doorOpen := rfl
@[simp] theorem setStatus_probePresent (l : Load) (x : LoadStatus) (s : State) :
    (setStatus l x s).probePresent = s.probePresent := rfl
@[simp] theorem setStatus_limitActive (l : Load) (x : LoadStatus) (s : State) :
    (setStatus l x s).limitActive = s.limitActive := rfl
@[simp] theorem setStatus_limitLatch (l : Load) (x : LoadStatus) (s : State) :
    (setStatus l x s).limitLatch = s.limitLatch := rfl
@[simp] theorem setStatus_tankPresent (l : Load) (x : LoadStatus) (s : State) :
    (setStatus l x s).tankPresent = s.tankPresent := rfl
@[simp] theorem setStatus_mains (l : Load) (x : LoadStatus) (s : State) : (setStatus l x s).mains = s.mains := rfl
@[simp] theorem setStatus_ports (l : Load) (x : LoadStatus) (s : State) : (setStatus l x s).ports = s.ports := rfl
@[simp] theorem setStatus_holds (l : Load) (x : LoadStatus) (s : State) : (setStatus l x s).holds = s.holds := rfl
@[simp] theorem setStatus_attention (l : Load) (x : LoadStatus) (s : State) :
    (setStatus l x s).attention = s.attention := rfl
@[simp] theorem setStatus_resetHeld (l : Load) (x : LoadStatus) (s : State) :
    (setStatus l x s).resetHeld = s.resetHeld := rfl
@[simp] theorem setStatus_freeIndex (l : Load) (x : LoadStatus) (s : State) :
    (setStatus l x s).freeIndex = s.freeIndex := rfl
@[simp] theorem setStatus_pending (l : Load) (x : LoadStatus) (s : State) :
    (setStatus l x s).pending = s.pending := rfl

@[simp] theorem modGen_settings (f : Gen → Gen) (s : State) : (modGen f s).settings = s.settings := rfl
@[simp] theorem modGen_runs (f : Gen → Gen) (s : State) : (modGen f s).runs = s.runs := rfl
@[simp] theorem modGen_queues (f : Gen → Gen) (s : State) : (modGen f s).queues = s.queues := rfl
@[simp] theorem modGen_climates (f : Gen → Gen) (s : State) : (modGen f s).climates = s.climates := rfl
@[simp] theorem modGen_pairs (f : Gen → Gen) (s : State) : (modGen f s).pairs = s.pairs := rfl
@[simp] theorem modGen_timers (f : Gen → Gen) (s : State) : (modGen f s).timers = s.timers := rfl
@[simp] theorem modGen_arbiter (f : Gen → Gen) (s : State) : (modGen f s).arbiter = s.arbiter := rfl
@[simp] theorem modGen_gen (f : Gen → Gen) (s : State) : (modGen f s).gen = f s.gen := rfl
@[simp] theorem modGen_meter (f : Gen → Gen) (s : State) : (modGen f s).meter = s.meter := rfl
@[simp] theorem modGen_scale (f : Gen → Gen) (s : State) : (modGen f s).scale = s.scale := rfl
@[simp] theorem modGen_proc (f : Gen → Gen) (s : State) : (modGen f s).proc = s.proc := rfl
@[simp] theorem modGen_store (f : Gen → Gen) (s : State) : (modGen f s).store = s.store := rfl
@[simp] theorem modGen_staging (f : Gen → Gen) (s : State) : (modGen f s).staging = s.staging := rfl
@[simp] theorem modGen_prompts (f : Gen → Gen) (s : State) : (modGen f s).prompts = s.prompts := rfl
@[simp] theorem modGen_promptCounter (f : Gen → Gen) (s : State) : (modGen f s).promptCounter = s.promptCounter := rfl
@[simp] theorem modGen_sensors (f : Gen → Gen) (s : State) : (modGen f s).sensors = s.sensors := rfl
@[simp] theorem modGen_doorOpen (f : Gen → Gen) (s : State) : (modGen f s).doorOpen = s.doorOpen := rfl
@[simp] theorem modGen_probePresent (f : Gen → Gen) (s : State) : (modGen f s).probePresent = s.probePresent := rfl
@[simp] theorem modGen_limitActive (f : Gen → Gen) (s : State) : (modGen f s).limitActive = s.limitActive := rfl
@[simp] theorem modGen_limitLatch (f : Gen → Gen) (s : State) : (modGen f s).limitLatch = s.limitLatch := rfl
@[simp] theorem modGen_tankPresent (f : Gen → Gen) (s : State) : (modGen f s).tankPresent = s.tankPresent := rfl
@[simp] theorem modGen_mains (f : Gen → Gen) (s : State) : (modGen f s).mains = s.mains := rfl
@[simp] theorem modGen_ports (f : Gen → Gen) (s : State) : (modGen f s).ports = s.ports := rfl
@[simp] theorem modGen_holds (f : Gen → Gen) (s : State) : (modGen f s).holds = s.holds := rfl
@[simp] theorem modGen_attention (f : Gen → Gen) (s : State) : (modGen f s).attention = s.attention := rfl
@[simp] theorem modGen_resetHeld (f : Gen → Gen) (s : State) : (modGen f s).resetHeld = s.resetHeld := rfl
@[simp] theorem modGen_freeIndex (f : Gen → Gen) (s : State) : (modGen f s).freeIndex = s.freeIndex := rfl
@[simp] theorem modGen_pending (f : Gen → Gen) (s : State) : (modGen f s).pending = s.pending := rfl

@[simp] theorem modProc_settings (f : Procedure → Procedure) (s : State) : (modProc f s).settings = s.settings := rfl
@[simp] theorem modProc_runs (f : Procedure → Procedure) (s : State) : (modProc f s).runs = s.runs := rfl
@[simp] theorem modProc_queues (f : Procedure → Procedure) (s : State) : (modProc f s).queues = s.queues := rfl
@[simp] theorem modProc_climates (f : Procedure → Procedure) (s : State) : (modProc f s).climates = s.climates := rfl
@[simp] theorem modProc_pairs (f : Procedure → Procedure) (s : State) : (modProc f s).pairs = s.pairs := rfl
@[simp] theorem modProc_timers (f : Procedure → Procedure) (s : State) : (modProc f s).timers = s.timers := rfl
@[simp] theorem modProc_arbiter (f : Procedure → Procedure) (s : State) : (modProc f s).arbiter = s.arbiter := rfl
@[simp] theorem modProc_gen (f : Procedure → Procedure) (s : State) : (modProc f s).gen = s.gen := rfl
@[simp] theorem modProc_meter (f : Procedure → Procedure) (s : State) : (modProc f s).meter = s.meter := rfl
@[simp] theorem modProc_scale (f : Procedure → Procedure) (s : State) : (modProc f s).scale = s.scale := rfl
@[simp] theorem modProc_proc (f : Procedure → Procedure) (s : State) : (modProc f s).proc = f s.proc := rfl
@[simp] theorem modProc_store (f : Procedure → Procedure) (s : State) : (modProc f s).store = s.store := rfl
@[simp] theorem modProc_staging (f : Procedure → Procedure) (s : State) : (modProc f s).staging = s.staging := rfl
@[simp] theorem modProc_prompts (f : Procedure → Procedure) (s : State) : (modProc f s).prompts = s.prompts := rfl
@[simp] theorem modProc_promptCounter (f : Procedure → Procedure) (s : State) :
    (modProc f s).promptCounter = s.promptCounter := rfl
@[simp] theorem modProc_sensors (f : Procedure → Procedure) (s : State) : (modProc f s).sensors = s.sensors := rfl
@[simp] theorem modProc_doorOpen (f : Procedure → Procedure) (s : State) : (modProc f s).doorOpen = s.doorOpen := rfl
@[simp] theorem modProc_probePresent (f : Procedure → Procedure) (s : State) :
    (modProc f s).probePresent = s.probePresent := rfl
@[simp] theorem modProc_limitActive (f : Procedure → Procedure) (s : State) :
    (modProc f s).limitActive = s.limitActive := rfl
@[simp] theorem modProc_limitLatch (f : Procedure → Procedure) (s : State) :
    (modProc f s).limitLatch = s.limitLatch := rfl
@[simp] theorem modProc_tankPresent (f : Procedure → Procedure) (s : State) :
    (modProc f s).tankPresent = s.tankPresent := rfl
@[simp] theorem modProc_mains (f : Procedure → Procedure) (s : State) : (modProc f s).mains = s.mains := rfl
@[simp] theorem modProc_ports (f : Procedure → Procedure) (s : State) : (modProc f s).ports = s.ports := rfl
@[simp] theorem modProc_holds (f : Procedure → Procedure) (s : State) : (modProc f s).holds = s.holds := rfl
@[simp] theorem modProc_attention (f : Procedure → Procedure) (s : State) :
    (modProc f s).attention = s.attention := rfl
@[simp] theorem modProc_resetHeld (f : Procedure → Procedure) (s : State) :
    (modProc f s).resetHeld = s.resetHeld := rfl
@[simp] theorem modProc_freeIndex (f : Procedure → Procedure) (s : State) :
    (modProc f s).freeIndex = s.freeIndex := rfl
@[simp] theorem modProc_pending (f : Procedure → Procedure) (s : State) : (modProc f s).pending = s.pending := rfl

@[simp] theorem modScale_settings (f : Scale → Scale) (s : State) : (modScale f s).settings = s.settings := rfl
@[simp] theorem modScale_runs (f : Scale → Scale) (s : State) : (modScale f s).runs = s.runs := rfl
@[simp] theorem modScale_queues (f : Scale → Scale) (s : State) : (modScale f s).queues = s.queues := rfl
@[simp] theorem modScale_climates (f : Scale → Scale) (s : State) : (modScale f s).climates = s.climates := rfl
@[simp] theorem modScale_pairs (f : Scale → Scale) (s : State) : (modScale f s).pairs = s.pairs := rfl
@[simp] theorem modScale_timers (f : Scale → Scale) (s : State) : (modScale f s).timers = s.timers := rfl
@[simp] theorem modScale_arbiter (f : Scale → Scale) (s : State) : (modScale f s).arbiter = s.arbiter := rfl
@[simp] theorem modScale_gen (f : Scale → Scale) (s : State) : (modScale f s).gen = s.gen := rfl
@[simp] theorem modScale_meter (f : Scale → Scale) (s : State) : (modScale f s).meter = s.meter := rfl
@[simp] theorem modScale_scale (f : Scale → Scale) (s : State) : (modScale f s).scale = f s.scale := rfl
@[simp] theorem modScale_proc (f : Scale → Scale) (s : State) : (modScale f s).proc = s.proc := rfl
@[simp] theorem modScale_store (f : Scale → Scale) (s : State) : (modScale f s).store = s.store := rfl
@[simp] theorem modScale_staging (f : Scale → Scale) (s : State) : (modScale f s).staging = s.staging := rfl
@[simp] theorem modScale_prompts (f : Scale → Scale) (s : State) : (modScale f s).prompts = s.prompts := rfl
@[simp] theorem modScale_promptCounter (f : Scale → Scale) (s : State) :
    (modScale f s).promptCounter = s.promptCounter := rfl
@[simp] theorem modScale_sensors (f : Scale → Scale) (s : State) : (modScale f s).sensors = s.sensors := rfl
@[simp] theorem modScale_doorOpen (f : Scale → Scale) (s : State) : (modScale f s).doorOpen = s.doorOpen := rfl
@[simp] theorem modScale_probePresent (f : Scale → Scale) (s : State) :
    (modScale f s).probePresent = s.probePresent := rfl
@[simp] theorem modScale_limitActive (f : Scale → Scale) (s : State) :
    (modScale f s).limitActive = s.limitActive := rfl
@[simp] theorem modScale_limitLatch (f : Scale → Scale) (s : State) : (modScale f s).limitLatch = s.limitLatch := rfl
@[simp] theorem modScale_tankPresent (f : Scale → Scale) (s : State) :
    (modScale f s).tankPresent = s.tankPresent := rfl
@[simp] theorem modScale_mains (f : Scale → Scale) (s : State) : (modScale f s).mains = s.mains := rfl
@[simp] theorem modScale_ports (f : Scale → Scale) (s : State) : (modScale f s).ports = s.ports := rfl
@[simp] theorem modScale_holds (f : Scale → Scale) (s : State) : (modScale f s).holds = s.holds := rfl
@[simp] theorem modScale_attention (f : Scale → Scale) (s : State) : (modScale f s).attention = s.attention := rfl
@[simp] theorem modScale_resetHeld (f : Scale → Scale) (s : State) : (modScale f s).resetHeld = s.resetHeld := rfl
@[simp] theorem modScale_freeIndex (f : Scale → Scale) (s : State) : (modScale f s).freeIndex = s.freeIndex := rfl
@[simp] theorem modScale_pending (f : Scale → Scale) (s : State) : (modScale f s).pending = s.pending := rfl

@[simp] theorem modStore_settings (f : Store → Store) (s : State) : (modStore f s).settings = s.settings := rfl
@[simp] theorem modStore_runs (f : Store → Store) (s : State) : (modStore f s).runs = s.runs := rfl
@[simp] theorem modStore_queues (f : Store → Store) (s : State) : (modStore f s).queues = s.queues := rfl
@[simp] theorem modStore_climates (f : Store → Store) (s : State) : (modStore f s).climates = s.climates := rfl
@[simp] theorem modStore_pairs (f : Store → Store) (s : State) : (modStore f s).pairs = s.pairs := rfl
@[simp] theorem modStore_timers (f : Store → Store) (s : State) : (modStore f s).timers = s.timers := rfl
@[simp] theorem modStore_arbiter (f : Store → Store) (s : State) : (modStore f s).arbiter = s.arbiter := rfl
@[simp] theorem modStore_gen (f : Store → Store) (s : State) : (modStore f s).gen = s.gen := rfl
@[simp] theorem modStore_meter (f : Store → Store) (s : State) : (modStore f s).meter = s.meter := rfl
@[simp] theorem modStore_scale (f : Store → Store) (s : State) : (modStore f s).scale = s.scale := rfl
@[simp] theorem modStore_proc (f : Store → Store) (s : State) : (modStore f s).proc = s.proc := rfl
@[simp] theorem modStore_store (f : Store → Store) (s : State) : (modStore f s).store = f s.store := rfl
@[simp] theorem modStore_staging (f : Store → Store) (s : State) : (modStore f s).staging = s.staging := rfl
@[simp] theorem modStore_prompts (f : Store → Store) (s : State) : (modStore f s).prompts = s.prompts := rfl
@[simp] theorem modStore_promptCounter (f : Store → Store) (s : State) :
    (modStore f s).promptCounter = s.promptCounter := rfl
@[simp] theorem modStore_sensors (f : Store → Store) (s : State) : (modStore f s).sensors = s.sensors := rfl
@[simp] theorem modStore_doorOpen (f : Store → Store) (s : State) : (modStore f s).doorOpen = s.doorOpen := rfl
@[simp] theorem modStore_probePresent (f : Store → Store) (s : State) :
    (modStore f s).probePresent = s.probePresent := rfl
@[simp] theorem modStore_limitActive (f : Store → Store) (s : State) :
    (modStore f s).limitActive = s.limitActive := rfl
@[simp] theorem modStore_limitLatch (f : Store → Store) (s : State) : (modStore f s).limitLatch = s.limitLatch := rfl
@[simp] theorem modStore_tankPresent (f : Store → Store) (s : State) :
    (modStore f s).tankPresent = s.tankPresent := rfl
@[simp] theorem modStore_mains (f : Store → Store) (s : State) : (modStore f s).mains = s.mains := rfl
@[simp] theorem modStore_ports (f : Store → Store) (s : State) : (modStore f s).ports = s.ports := rfl
@[simp] theorem modStore_holds (f : Store → Store) (s : State) : (modStore f s).holds = s.holds := rfl
@[simp] theorem modStore_attention (f : Store → Store) (s : State) : (modStore f s).attention = s.attention := rfl
@[simp] theorem modStore_resetHeld (f : Store → Store) (s : State) : (modStore f s).resetHeld = s.resetHeld := rfl
@[simp] theorem modStore_freeIndex (f : Store → Store) (s : State) : (modStore f s).freeIndex = s.freeIndex := rfl
@[simp] theorem modStore_pending (f : Store → Store) (s : State) : (modStore f s).pending = s.pending := rfl

@[simp] theorem modSensor_settings (x : Sensor) (f : SensorRecord → SensorRecord) (s : State) :
    (modSensor x f s).settings = s.settings := rfl
@[simp] theorem modSensor_runs (x : Sensor) (f : SensorRecord → SensorRecord) (s : State) :
    (modSensor x f s).runs = s.runs := rfl
@[simp] theorem modSensor_queues (x : Sensor) (f : SensorRecord → SensorRecord) (s : State) :
    (modSensor x f s).queues = s.queues := rfl
@[simp] theorem modSensor_climates (x : Sensor) (f : SensorRecord → SensorRecord) (s : State) :
    (modSensor x f s).climates = s.climates := rfl
@[simp] theorem modSensor_pairs (x : Sensor) (f : SensorRecord → SensorRecord) (s : State) :
    (modSensor x f s).pairs = s.pairs := rfl
@[simp] theorem modSensor_timers (x : Sensor) (f : SensorRecord → SensorRecord) (s : State) :
    (modSensor x f s).timers = s.timers := rfl
@[simp] theorem modSensor_arbiter (x : Sensor) (f : SensorRecord → SensorRecord) (s : State) :
    (modSensor x f s).arbiter = s.arbiter := rfl
@[simp] theorem modSensor_gen (x : Sensor) (f : SensorRecord → SensorRecord) (s : State) :
    (modSensor x f s).gen = s.gen := rfl
@[simp] theorem modSensor_meter (x : Sensor) (f : SensorRecord → SensorRecord) (s : State) :
    (modSensor x f s).meter = s.meter := rfl
@[simp] theorem modSensor_scale (x : Sensor) (f : SensorRecord → SensorRecord) (s : State) :
    (modSensor x f s).scale = s.scale := rfl
@[simp] theorem modSensor_proc (x : Sensor) (f : SensorRecord → SensorRecord) (s : State) :
    (modSensor x f s).proc = s.proc := rfl
@[simp] theorem modSensor_store (x : Sensor) (f : SensorRecord → SensorRecord) (s : State) :
    (modSensor x f s).store = s.store := rfl
@[simp] theorem modSensor_staging (x : Sensor) (f : SensorRecord → SensorRecord) (s : State) :
    (modSensor x f s).staging = s.staging := rfl
@[simp] theorem modSensor_prompts (x : Sensor) (f : SensorRecord → SensorRecord) (s : State) :
    (modSensor x f s).prompts = s.prompts := rfl
@[simp] theorem modSensor_promptCounter (x : Sensor) (f : SensorRecord → SensorRecord) (s : State) :
    (modSensor x f s).promptCounter = s.promptCounter := rfl
@[simp] theorem modSensor_sensors (x : Sensor) (f : SensorRecord → SensorRecord) (s : State) :
    (modSensor x f s).sensors = s.sensors.set x (f (s.sensors.get x)) := rfl
@[simp] theorem modSensor_doorOpen (x : Sensor) (f : SensorRecord → SensorRecord) (s : State) :
    (modSensor x f s).doorOpen = s.doorOpen := rfl
@[simp] theorem modSensor_probePresent (x : Sensor) (f : SensorRecord → SensorRecord) (s : State) :
    (modSensor x f s).probePresent = s.probePresent := rfl
@[simp] theorem modSensor_limitActive (x : Sensor) (f : SensorRecord → SensorRecord) (s : State) :
    (modSensor x f s).limitActive = s.limitActive := rfl
@[simp] theorem modSensor_limitLatch (x : Sensor) (f : SensorRecord → SensorRecord) (s : State) :
    (modSensor x f s).limitLatch = s.limitLatch := rfl
@[simp] theorem modSensor_tankPresent (x : Sensor) (f : SensorRecord → SensorRecord) (s : State) :
    (modSensor x f s).tankPresent = s.tankPresent := rfl
@[simp] theorem modSensor_mains (x : Sensor) (f : SensorRecord → SensorRecord) (s : State) :
    (modSensor x f s).mains = s.mains := rfl
@[simp] theorem modSensor_ports (x : Sensor) (f : SensorRecord → SensorRecord) (s : State) :
    (modSensor x f s).ports = s.ports := rfl
@[simp] theorem modSensor_holds (x : Sensor) (f : SensorRecord → SensorRecord) (s : State) :
    (modSensor x f s).holds = s.holds := rfl
@[simp] theorem modSensor_attention (x : Sensor) (f : SensorRecord → SensorRecord) (s : State) :
    (modSensor x f s).attention = s.attention := rfl
@[simp] theorem modSensor_resetHeld (x : Sensor) (f : SensorRecord → SensorRecord) (s : State) :
    (modSensor x f s).resetHeld = s.resetHeld := rfl
@[simp] theorem modSensor_freeIndex (x : Sensor) (f : SensorRecord → SensorRecord) (s : State) :
    (modSensor x f s).freeIndex = s.freeIndex := rfl
@[simp] theorem modSensor_pending (x : Sensor) (f : SensorRecord → SensorRecord) (s : State) :
    (modSensor x f s).pending = s.pending := rfl

@[simp] theorem modPort_settings (p : Port) (f : PortRecord → PortRecord) (s : State) :
    (modPort p f s).settings = s.settings := rfl
@[simp] theorem modPort_runs (p : Port) (f : PortRecord → PortRecord) (s : State) :
    (modPort p f s).runs = s.runs := rfl
@[simp] theorem modPort_queues (p : Port) (f : PortRecord → PortRecord) (s : State) :
    (modPort p f s).queues = s.queues := rfl
@[simp] theorem modPort_climates (p : Port) (f : PortRecord → PortRecord) (s : State) :
    (modPort p f s).climates = s.climates := rfl
@[simp] theorem modPort_pairs (p : Port) (f : PortRecord → PortRecord) (s : State) :
    (modPort p f s).pairs = s.pairs := rfl
@[simp] theorem modPort_timers (p : Port) (f : PortRecord → PortRecord) (s : State) :
    (modPort p f s).timers = s.timers := rfl
@[simp] theorem modPort_arbiter (p : Port) (f : PortRecord → PortRecord) (s : State) :
    (modPort p f s).arbiter = s.arbiter := rfl
@[simp] theorem modPort_gen (p : Port) (f : PortRecord → PortRecord) (s : State) : (modPort p f s).gen = s.gen := rfl
@[simp] theorem modPort_meter (p : Port) (f : PortRecord → PortRecord) (s : State) :
    (modPort p f s).meter = s.meter := rfl
@[simp] theorem modPort_scale (p : Port) (f : PortRecord → PortRecord) (s : State) :
    (modPort p f s).scale = s.scale := rfl
@[simp] theorem modPort_proc (p : Port) (f : PortRecord → PortRecord) (s : State) :
    (modPort p f s).proc = s.proc := rfl
@[simp] theorem modPort_store (p : Port) (f : PortRecord → PortRecord) (s : State) :
    (modPort p f s).store = s.store := rfl
@[simp] theorem modPort_staging (p : Port) (f : PortRecord → PortRecord) (s : State) :
    (modPort p f s).staging = s.staging := rfl
@[simp] theorem modPort_prompts (p : Port) (f : PortRecord → PortRecord) (s : State) :
    (modPort p f s).prompts = s.prompts := rfl
@[simp] theorem modPort_promptCounter (p : Port) (f : PortRecord → PortRecord) (s : State) :
    (modPort p f s).promptCounter = s.promptCounter := rfl
@[simp] theorem modPort_sensors (p : Port) (f : PortRecord → PortRecord) (s : State) :
    (modPort p f s).sensors = s.sensors := rfl
@[simp] theorem modPort_doorOpen (p : Port) (f : PortRecord → PortRecord) (s : State) :
    (modPort p f s).doorOpen = s.doorOpen := rfl
@[simp] theorem modPort_probePresent (p : Port) (f : PortRecord → PortRecord) (s : State) :
    (modPort p f s).probePresent = s.probePresent := rfl
@[simp] theorem modPort_limitActive (p : Port) (f : PortRecord → PortRecord) (s : State) :
    (modPort p f s).limitActive = s.limitActive := rfl
@[simp] theorem modPort_limitLatch (p : Port) (f : PortRecord → PortRecord) (s : State) :
    (modPort p f s).limitLatch = s.limitLatch := rfl
@[simp] theorem modPort_tankPresent (p : Port) (f : PortRecord → PortRecord) (s : State) :
    (modPort p f s).tankPresent = s.tankPresent := rfl
@[simp] theorem modPort_mains (p : Port) (f : PortRecord → PortRecord) (s : State) :
    (modPort p f s).mains = s.mains := rfl
@[simp] theorem modPort_ports (p : Port) (f : PortRecord → PortRecord) (s : State) :
    (modPort p f s).ports = s.ports.set p (f (s.ports.get p)) := rfl
@[simp] theorem modPort_holds (p : Port) (f : PortRecord → PortRecord) (s : State) :
    (modPort p f s).holds = s.holds := rfl
@[simp] theorem modPort_attention (p : Port) (f : PortRecord → PortRecord) (s : State) :
    (modPort p f s).attention = s.attention := rfl
@[simp] theorem modPort_resetHeld (p : Port) (f : PortRecord → PortRecord) (s : State) :
    (modPort p f s).resetHeld = s.resetHeld := rfl
@[simp] theorem modPort_freeIndex (p : Port) (f : PortRecord → PortRecord) (s : State) :
    (modPort p f s).freeIndex = s.freeIndex := rfl
@[simp] theorem modPort_pending (p : Port) (f : PortRecord → PortRecord) (s : State) :
    (modPort p f s).pending = s.pending := rfl

@[simp] theorem setHold_settings (h : HoldObject) (x : Option Hold) (s : State) :
    (setHold h x s).settings = s.settings := rfl
@[simp] theorem setHold_runs (h : HoldObject) (x : Option Hold) (s : State) : (setHold h x s).runs = s.runs := rfl
@[simp] theorem setHold_queues (h : HoldObject) (x : Option Hold) (s : State) :
    (setHold h x s).queues = s.queues := rfl
@[simp] theorem setHold_climates (h : HoldObject) (x : Option Hold) (s : State) :
    (setHold h x s).climates = s.climates := rfl
@[simp] theorem setHold_pairs (h : HoldObject) (x : Option Hold) (s : State) : (setHold h x s).pairs = s.pairs := rfl
@[simp] theorem setHold_timers (h : HoldObject) (x : Option Hold) (s : State) :
    (setHold h x s).timers = s.timers := rfl
@[simp] theorem setHold_arbiter (h : HoldObject) (x : Option Hold) (s : State) :
    (setHold h x s).arbiter = s.arbiter := rfl
@[simp] theorem setHold_gen (h : HoldObject) (x : Option Hold) (s : State) : (setHold h x s).gen = s.gen := rfl
@[simp] theorem setHold_meter (h : HoldObject) (x : Option Hold) (s : State) : (setHold h x s).meter = s.meter := rfl
@[simp] theorem setHold_scale (h : HoldObject) (x : Option Hold) (s : State) : (setHold h x s).scale = s.scale := rfl
@[simp] theorem setHold_proc (h : HoldObject) (x : Option Hold) (s : State) : (setHold h x s).proc = s.proc := rfl
@[simp] theorem setHold_store (h : HoldObject) (x : Option Hold) (s : State) : (setHold h x s).store = s.store := rfl
@[simp] theorem setHold_staging (h : HoldObject) (x : Option Hold) (s : State) :
    (setHold h x s).staging = s.staging := rfl
@[simp] theorem setHold_prompts (h : HoldObject) (x : Option Hold) (s : State) :
    (setHold h x s).prompts = s.prompts := rfl
@[simp] theorem setHold_promptCounter (h : HoldObject) (x : Option Hold) (s : State) :
    (setHold h x s).promptCounter = s.promptCounter := rfl
@[simp] theorem setHold_sensors (h : HoldObject) (x : Option Hold) (s : State) :
    (setHold h x s).sensors = s.sensors := rfl
@[simp] theorem setHold_doorOpen (h : HoldObject) (x : Option Hold) (s : State) :
    (setHold h x s).doorOpen = s.doorOpen := rfl
@[simp] theorem setHold_probePresent (h : HoldObject) (x : Option Hold) (s : State) :
    (setHold h x s).probePresent = s.probePresent := rfl
@[simp] theorem setHold_limitActive (h : HoldObject) (x : Option Hold) (s : State) :
    (setHold h x s).limitActive = s.limitActive := rfl
@[simp] theorem setHold_limitLatch (h : HoldObject) (x : Option Hold) (s : State) :
    (setHold h x s).limitLatch = s.limitLatch := rfl
@[simp] theorem setHold_tankPresent (h : HoldObject) (x : Option Hold) (s : State) :
    (setHold h x s).tankPresent = s.tankPresent := rfl
@[simp] theorem setHold_mains (h : HoldObject) (x : Option Hold) (s : State) : (setHold h x s).mains = s.mains := rfl
@[simp] theorem setHold_ports (h : HoldObject) (x : Option Hold) (s : State) : (setHold h x s).ports = s.ports := rfl
@[simp] theorem setHold_holds (h : HoldObject) (x : Option Hold) (s : State) :
    (setHold h x s).holds = s.holds.set h x := rfl
@[simp] theorem setHold_attention (h : HoldObject) (x : Option Hold) (s : State) :
    (setHold h x s).attention = s.attention := rfl
@[simp] theorem setHold_resetHeld (h : HoldObject) (x : Option Hold) (s : State) :
    (setHold h x s).resetHeld = s.resetHeld := rfl
@[simp] theorem setHold_freeIndex (h : HoldObject) (x : Option Hold) (s : State) :
    (setHold h x s).freeIndex = s.freeIndex := rfl
@[simp] theorem setHold_pending (h : HoldObject) (x : Option Hold) (s : State) :
    (setHold h x s).pending = s.pending := rfl

@[simp] theorem setPrompt_settings (o : Owner) (x : Option Prompt) (s : State) :
    (setPrompt o x s).settings = s.settings := rfl
@[simp] theorem setPrompt_runs (o : Owner) (x : Option Prompt) (s : State) : (setPrompt o x s).runs = s.runs := rfl
@[simp] theorem setPrompt_queues (o : Owner) (x : Option Prompt) (s : State) :
    (setPrompt o x s).queues = s.queues := rfl
@[simp] theorem setPrompt_climates (o : Owner) (x : Option Prompt) (s : State) :
    (setPrompt o x s).climates = s.climates := rfl
@[simp] theorem setPrompt_pairs (o : Owner) (x : Option Prompt) (s : State) : (setPrompt o x s).pairs = s.pairs := rfl
@[simp] theorem setPrompt_timers (o : Owner) (x : Option Prompt) (s : State) :
    (setPrompt o x s).timers = s.timers := rfl
@[simp] theorem setPrompt_arbiter (o : Owner) (x : Option Prompt) (s : State) :
    (setPrompt o x s).arbiter = s.arbiter := rfl
@[simp] theorem setPrompt_gen (o : Owner) (x : Option Prompt) (s : State) : (setPrompt o x s).gen = s.gen := rfl
@[simp] theorem setPrompt_meter (o : Owner) (x : Option Prompt) (s : State) : (setPrompt o x s).meter = s.meter := rfl
@[simp] theorem setPrompt_scale (o : Owner) (x : Option Prompt) (s : State) : (setPrompt o x s).scale = s.scale := rfl
@[simp] theorem setPrompt_proc (o : Owner) (x : Option Prompt) (s : State) : (setPrompt o x s).proc = s.proc := rfl
@[simp] theorem setPrompt_store (o : Owner) (x : Option Prompt) (s : State) : (setPrompt o x s).store = s.store := rfl
@[simp] theorem setPrompt_staging (o : Owner) (x : Option Prompt) (s : State) :
    (setPrompt o x s).staging = s.staging := rfl
@[simp] theorem setPrompt_prompts (o : Owner) (x : Option Prompt) (s : State) :
    (setPrompt o x s).prompts = s.prompts.set o x := rfl
@[simp] theorem setPrompt_promptCounter (o : Owner) (x : Option Prompt) (s : State) :
    (setPrompt o x s).promptCounter = s.promptCounter := rfl
@[simp] theorem setPrompt_sensors (o : Owner) (x : Option Prompt) (s : State) :
    (setPrompt o x s).sensors = s.sensors := rfl
@[simp] theorem setPrompt_doorOpen (o : Owner) (x : Option Prompt) (s : State) :
    (setPrompt o x s).doorOpen = s.doorOpen := rfl
@[simp] theorem setPrompt_probePresent (o : Owner) (x : Option Prompt) (s : State) :
    (setPrompt o x s).probePresent = s.probePresent := rfl
@[simp] theorem setPrompt_limitActive (o : Owner) (x : Option Prompt) (s : State) :
    (setPrompt o x s).limitActive = s.limitActive := rfl
@[simp] theorem setPrompt_limitLatch (o : Owner) (x : Option Prompt) (s : State) :
    (setPrompt o x s).limitLatch = s.limitLatch := rfl
@[simp] theorem setPrompt_tankPresent (o : Owner) (x : Option Prompt) (s : State) :
    (setPrompt o x s).tankPresent = s.tankPresent := rfl
@[simp] theorem setPrompt_mains (o : Owner) (x : Option Prompt) (s : State) : (setPrompt o x s).mains = s.mains := rfl
@[simp] theorem setPrompt_ports (o : Owner) (x : Option Prompt) (s : State) : (setPrompt o x s).ports = s.ports := rfl
@[simp] theorem setPrompt_holds (o : Owner) (x : Option Prompt) (s : State) : (setPrompt o x s).holds = s.holds := rfl
@[simp] theorem setPrompt_attention (o : Owner) (x : Option Prompt) (s : State) :
    (setPrompt o x s).attention = s.attention := rfl
@[simp] theorem setPrompt_resetHeld (o : Owner) (x : Option Prompt) (s : State) :
    (setPrompt o x s).resetHeld = s.resetHeld := rfl
@[simp] theorem setPrompt_freeIndex (o : Owner) (x : Option Prompt) (s : State) :
    (setPrompt o x s).freeIndex = s.freeIndex := rfl
@[simp] theorem setPrompt_pending (o : Owner) (x : Option Prompt) (s : State) :
    (setPrompt o x s).pending = s.pending := rfl

@[simp] theorem post_settings (p : Port) (x : Cause) (s : State) : (post p x s).settings = s.settings := rfl
@[simp] theorem post_runs (p : Port) (x : Cause) (s : State) : (post p x s).runs = s.runs := rfl
@[simp] theorem post_queues (p : Port) (x : Cause) (s : State) : (post p x s).queues = s.queues := rfl
@[simp] theorem post_climates (p : Port) (x : Cause) (s : State) : (post p x s).climates = s.climates := rfl
@[simp] theorem post_pairs (p : Port) (x : Cause) (s : State) : (post p x s).pairs = s.pairs := rfl
@[simp] theorem post_timers (p : Port) (x : Cause) (s : State) : (post p x s).timers = s.timers := rfl
@[simp] theorem post_arbiter (p : Port) (x : Cause) (s : State) : (post p x s).arbiter = s.arbiter := rfl
@[simp] theorem post_gen (p : Port) (x : Cause) (s : State) : (post p x s).gen = s.gen := rfl
@[simp] theorem post_meter (p : Port) (x : Cause) (s : State) : (post p x s).meter = s.meter := rfl
@[simp] theorem post_scale (p : Port) (x : Cause) (s : State) : (post p x s).scale = s.scale := rfl
@[simp] theorem post_proc (p : Port) (x : Cause) (s : State) : (post p x s).proc = s.proc := rfl
@[simp] theorem post_store (p : Port) (x : Cause) (s : State) : (post p x s).store = s.store := rfl
@[simp] theorem post_staging (p : Port) (x : Cause) (s : State) : (post p x s).staging = s.staging := rfl
@[simp] theorem post_prompts (p : Port) (x : Cause) (s : State) : (post p x s).prompts = s.prompts := rfl
@[simp] theorem post_promptCounter (p : Port) (x : Cause) (s : State) :
    (post p x s).promptCounter = s.promptCounter := rfl
@[simp] theorem post_sensors (p : Port) (x : Cause) (s : State) : (post p x s).sensors = s.sensors := rfl
@[simp] theorem post_doorOpen (p : Port) (x : Cause) (s : State) : (post p x s).doorOpen = s.doorOpen := rfl
@[simp] theorem post_probePresent (p : Port) (x : Cause) (s : State) :
    (post p x s).probePresent = s.probePresent := rfl
@[simp] theorem post_limitActive (p : Port) (x : Cause) (s : State) : (post p x s).limitActive = s.limitActive := rfl
@[simp] theorem post_limitLatch (p : Port) (x : Cause) (s : State) : (post p x s).limitLatch = s.limitLatch := rfl
@[simp] theorem post_tankPresent (p : Port) (x : Cause) (s : State) : (post p x s).tankPresent = s.tankPresent := rfl
@[simp] theorem post_mains (p : Port) (x : Cause) (s : State) : (post p x s).mains = s.mains := rfl
@[simp] theorem post_ports (p : Port) (x : Cause) (s : State) : (post p x s).ports = s.ports := rfl
@[simp] theorem post_holds (p : Port) (x : Cause) (s : State) : (post p x s).holds = s.holds := rfl
@[simp] theorem post_attention (p : Port) (x : Cause) (s : State) :
    (post p x s).attention = s.attention.set p (offer (causeEntry x) (s.attention.get p)) := rfl
@[simp] theorem post_resetHeld (p : Port) (x : Cause) (s : State) : (post p x s).resetHeld = s.resetHeld := rfl
@[simp] theorem post_freeIndex (p : Port) (x : Cause) (s : State) : (post p x s).freeIndex = s.freeIndex := rfl
@[simp] theorem post_pending (p : Port) (x : Cause) (s : State) : (post p x s).pending = s.pending := rfl

@[simp] theorem broadcast_settings (x : Cause) (s : State) : (broadcast x s).settings = s.settings := rfl
@[simp] theorem broadcast_runs (x : Cause) (s : State) : (broadcast x s).runs = s.runs := rfl
@[simp] theorem broadcast_queues (x : Cause) (s : State) : (broadcast x s).queues = s.queues := rfl
@[simp] theorem broadcast_climates (x : Cause) (s : State) : (broadcast x s).climates = s.climates := rfl
@[simp] theorem broadcast_pairs (x : Cause) (s : State) : (broadcast x s).pairs = s.pairs := rfl
@[simp] theorem broadcast_timers (x : Cause) (s : State) : (broadcast x s).timers = s.timers := rfl
@[simp] theorem broadcast_arbiter (x : Cause) (s : State) : (broadcast x s).arbiter = s.arbiter := rfl
@[simp] theorem broadcast_gen (x : Cause) (s : State) : (broadcast x s).gen = s.gen := rfl
@[simp] theorem broadcast_meter (x : Cause) (s : State) : (broadcast x s).meter = s.meter := rfl
@[simp] theorem broadcast_scale (x : Cause) (s : State) : (broadcast x s).scale = s.scale := rfl
@[simp] theorem broadcast_proc (x : Cause) (s : State) : (broadcast x s).proc = s.proc := rfl
@[simp] theorem broadcast_store (x : Cause) (s : State) : (broadcast x s).store = s.store := rfl
@[simp] theorem broadcast_staging (x : Cause) (s : State) : (broadcast x s).staging = s.staging := rfl
@[simp] theorem broadcast_prompts (x : Cause) (s : State) : (broadcast x s).prompts = s.prompts := rfl
@[simp] theorem broadcast_promptCounter (x : Cause) (s : State) :
    (broadcast x s).promptCounter = s.promptCounter := rfl
@[simp] theorem broadcast_sensors (x : Cause) (s : State) : (broadcast x s).sensors = s.sensors := rfl
@[simp] theorem broadcast_doorOpen (x : Cause) (s : State) : (broadcast x s).doorOpen = s.doorOpen := rfl
@[simp] theorem broadcast_probePresent (x : Cause) (s : State) : (broadcast x s).probePresent = s.probePresent := rfl
@[simp] theorem broadcast_limitActive (x : Cause) (s : State) : (broadcast x s).limitActive = s.limitActive := rfl
@[simp] theorem broadcast_limitLatch (x : Cause) (s : State) : (broadcast x s).limitLatch = s.limitLatch := rfl
@[simp] theorem broadcast_tankPresent (x : Cause) (s : State) : (broadcast x s).tankPresent = s.tankPresent := rfl
@[simp] theorem broadcast_mains (x : Cause) (s : State) : (broadcast x s).mains = s.mains := rfl
@[simp] theorem broadcast_ports (x : Cause) (s : State) : (broadcast x s).ports = s.ports := rfl
@[simp] theorem broadcast_holds (x : Cause) (s : State) : (broadcast x s).holds = s.holds := rfl
@[simp] theorem broadcast_attention (x : Cause) (s : State) : (broadcast x s).attention = 
    ⟨offer (causeEntry x) s.attention.panel, offer (causeEntry x) s.attention.link,
      offer (causeEntry x) s.attention.service⟩ := rfl
@[simp] theorem broadcast_resetHeld (x : Cause) (s : State) : (broadcast x s).resetHeld = s.resetHeld := rfl
@[simp] theorem broadcast_freeIndex (x : Cause) (s : State) : (broadcast x s).freeIndex = s.freeIndex := rfl
@[simp] theorem broadcast_pending (x : Cause) (s : State) : (broadcast x s).pending = s.pending := rfl

end Sys2Proof.Machine
end

