-- ==== Sys2Proof/Laws/Frame.lean ====
section
/-! SUPPORT. `Within`: an order on changes, and one lemma per update. A lemma `within_f` says which parts of State the
operation `f` can change. -/

namespace Sys2Proof.Machine

@[simp] theorem Within.refl (f : Parts) (s : State) : Within f s s := by simp [Within]

theorem Within.trans {f : Parts} {s t u : State} (h : Within f s t) (k : Within f t u) : Within f s u := by
  simp only [Within] at *
  refine ⟨?_, ?_, ?_, ?_, ?_, ?_, ?_, ?_, ?_, ?_, ?_, ?_, ?_, ?_, ?_, ?_, ?_, ?_, ?_, ?_, ?_, ?_, ?_, ?_, ?_, ?_, ?_, ?_⟩ <;> intro e
  · rw [k.1 e, h.1 e]
  · rw [k.2.1 e, h.2.1 e]
  · rw [k.2.2.1 e, h.2.2.1 e]
  · rw [k.2.2.2.1 e, h.2.2.2.1 e]
  · rw [k.2.2.2.2.1 e, h.2.2.2.2.1 e]
  · rw [k.2.2.2.2.2.1 e, h.2.2.2.2.2.1 e]
  · rw [k.2.2.2.2.2.2.1 e, h.2.2.2.2.2.2.1 e]
  · rw [k.2.2.2.2.2.2.2.1 e, h.2.2.2.2.2.2.2.1 e]
  · rw [k.2.2.2.2.2.2.2.2.1 e, h.2.2.2.2.2.2.2.2.1 e]
  · rw [k.2.2.2.2.2.2.2.2.2.1 e, h.2.2.2.2.2.2.2.2.2.1 e]
  · rw [k.2.2.2.2.2.2.2.2.2.2.1 e, h.2.2.2.2.2.2.2.2.2.2.1 e]
  · rw [k.2.2.2.2.2.2.2.2.2.2.2.1 e, h.2.2.2.2.2.2.2.2.2.2.2.1 e]
  · rw [k.2.2.2.2.2.2.2.2.2.2.2.2.1 e, h.2.2.2.2.2.2.2.2.2.2.2.2.1 e]
  · rw [k.2.2.2.2.2.2.2.2.2.2.2.2.2.1 e, h.2.2.2.2.2.2.2.2.2.2.2.2.2.1 e]
  · rw [k.2.2.2.2.2.2.2.2.2.2.2.2.2.2.1 e, h.2.2.2.2.2.2.2.2.2.2.2.2.2.2.1 e]
  · rw [k.2.2.2.2.2.2.2.2.2.2.2.2.2.2.2.1 e, h.2.2.2.2.2.2.2.2.2.2.2.2.2.2.2.1 e]
  · rw [k.2.2.2.2.2.2.2.2.2.2.2.2.2.2.2.2.1 e, h.2.2.2.2.2.2.2.2.2.2.2.2.2.2.2.2.1 e]
  · rw [k.2.2.2.2.2.2.2.2.2.2.2.2.2.2.2.2.2.1 e, h.2.2.2.2.2.2.2.2.2.2.2.2.2.2.2.2.2.1 e]
  · rw [k.2.2.2.2.2.2.2.2.2.2.2.2.2.2.2.2.2.2.1 e, h.2.2.2.2.2.2.2.2.2.2.2.2.2.2.2.2.2.2.1 e]
  · rw [k.2.2.2.2.2.2.2.2.2.2.2.2.2.2.2.2.2.2.2.1 e, h.2.2.2.2.2.2.2.2.2.2.2.2.2.2.2.2.2.2.2.1 e]
  · rw [k.2.2.2.2.2.2.2.2.2.2.2.2.2.2.2.2.2.2.2.2.1 e, h.2.2.2.2.2.2.2.2.2.2.2.2.2.2.2.2.2.2.2.2.1 e]
  · rw [k.2.2.2.2.2.2.2.2.2.2.2.2.2.2.2.2.2.2.2.2.2.1 e, h.2.2.2.2.2.2.2.2.2.2.2.2.2.2.2.2.2.2.2.2.2.1 e]
  · rw [k.2.2.2.2.2.2.2.2.2.2.2.2.2.2.2.2.2.2.2.2.2.2.1 e, h.2.2.2.2.2.2.2.2.2.2.2.2.2.2.2.2.2.2.2.2.2.2.1 e]
  · rw [k.2.2.2.2.2.2.2.2.2.2.2.2.2.2.2.2.2.2.2.2.2.2.2.1 e, h.2.2.2.2.2.2.2.2.2.2.2.2.2.2.2.2.2.2.2.2.2.2.2.1 e]
  · rw [k.2.2.2.2.2.2.2.2.2.2.2.2.2.2.2.2.2.2.2.2.2.2.2.2.1 e, h.2.2.2.2.2.2.2.2.2.2.2.2.2.2.2.2.2.2.2.2.2.2.2.2.1 e]
  · rw [k.2.2.2.2.2.2.2.2.2.2.2.2.2.2.2.2.2.2.2.2.2.2.2.2.2.1 e, h.2.2.2.2.2.2.2.2.2.2.2.2.2.2.2.2.2.2.2.2.2.2.2.2.2.1 e]
  · rw [k.2.2.2.2.2.2.2.2.2.2.2.2.2.2.2.2.2.2.2.2.2.2.2.2.2.2.1 e, h.2.2.2.2.2.2.2.2.2.2.2.2.2.2.2.2.2.2.2.2.2.2.2.2.2.2.1 e]
  · rw [k.2.2.2.2.2.2.2.2.2.2.2.2.2.2.2.2.2.2.2.2.2.2.2.2.2.2.2 e, h.2.2.2.2.2.2.2.2.2.2.2.2.2.2.2.2.2.2.2.2.2.2.2.2.2.2.2 e]

theorem Within.mono {f g : Parts} {s t : State} (h : Within g s t) (k : f.covers g = true) : Within f s t := by
  simp only [Parts.covers, Bool.and_eq_true, Bool.or_eq_true, Bool.not_eq_true'] at k
  simp only [Within] at h ⊢
  refine ⟨?_, ?_, ?_, ?_, ?_, ?_, ?_, ?_, ?_, ?_, ?_, ?_, ?_, ?_, ?_, ?_, ?_, ?_, ?_, ?_, ?_, ?_, ?_, ?_, ?_, ?_, ?_, ?_⟩ <;> intro e <;> simp_all

theorem Within.symm {f : Parts} {s t : State} (h : Within f s t) : Within f t s := by
  simp only [Within] at h ⊢
  refine ⟨?_, ?_, ?_, ?_, ?_, ?_, ?_, ?_, ?_, ?_, ?_, ?_, ?_, ?_, ?_, ?_, ?_, ?_, ?_, ?_, ?_, ?_, ?_, ?_, ?_, ?_, ?_, ?_⟩ <;> intro e <;> simp_all

/-- An operation that can change only `g` keeps `Within f`, for every `f` that covers `g`. -/
theorem Within.pass {f g : Parts} {s t u : State} (h : Within g t u) (k : f.covers g = true) :
    Within f s u ↔ Within f s t :=
  ⟨fun x => x.trans (h.mono k).symm, fun x => x.trans (h.mono k)⟩

@[simp] theorem within_ite {f : Parts} {s t u : State} {c : Prop} [Decidable c] :
    Within f s (if c then t else u) ↔ if c then Within f s t else Within f s u := by
  split <;> rfl

@[simp] theorem within_set_settings {f : Parts} {s t : State} (x) (k : f.settings = true) :
    Within f s { t with settings := x } ↔ Within f s t := by
  simp [Within, k]

@[simp] theorem within_set_runs {f : Parts} {s t : State} (x) (k : f.runs = true) :
    Within f s { t with runs := x } ↔ Within f s t := by
  simp [Within, k]

@[simp] theorem within_set_queues {f : Parts} {s t : State} (x) (k : f.queues = true) :
    Within f s { t with queues := x } ↔ Within f s t := by
  simp [Within, k]

@[simp] theorem within_set_climates {f : Parts} {s t : State} (x) (k : f.climates = true) :
    Within f s { t with climates := x } ↔ Within f s t := by
  simp [Within, k]

@[simp] theorem within_set_pairs {f : Parts} {s t : State} (x) (k : f.pairs = true) :
    Within f s { t with pairs := x } ↔ Within f s t := by
  simp [Within, k]

@[simp] theorem within_set_timers {f : Parts} {s t : State} (x) (k : f.timers = true) :
    Within f s { t with timers := x } ↔ Within f s t := by
  simp [Within, k]

@[simp] theorem within_set_arbiter {f : Parts} {s t : State} (x) (k : f.arbiter = true) :
    Within f s { t with arbiter := x } ↔ Within f s t := by
  simp [Within, k]

@[simp] theorem within_set_gen {f : Parts} {s t : State} (x) (k : f.gen = true) :
    Within f s { t with gen := x } ↔ Within f s t := by
  simp [Within, k]

@[simp] theorem within_set_meter {f : Parts} {s t : State} (x) (k : f.meter = true) :
    Within f s { t with meter := x } ↔ Within f s t := by
  simp [Within, k]

@[simp] theorem within_set_scale {f : Parts} {s t : State} (x) (k : f.scale = true) :
    Within f s { t with scale := x } ↔ Within f s t := by
  simp [Within, k]

@[simp] theorem within_set_proc {f : Parts} {s t : State} (x) (k : f.proc = true) :
    Within f s { t with proc := x } ↔ Within f s t := by
  simp [Within, k]

@[simp] theorem within_set_store {f : Parts} {s t : State} (x) (k : f.store = true) :
    Within f s { t with store := x } ↔ Within f s t := by
  simp [Within, k]

@[simp] theorem within_set_staging {f : Parts} {s t : State} (x) (k : f.staging = true) :
    Within f s { t with staging := x } ↔ Within f s t := by
  simp [Within, k]

@[simp] theorem within_set_prompts {f : Parts} {s t : State} (x) (k : f.prompts = true) :
    Within f s { t with prompts := x } ↔ Within f s t := by
  simp [Within, k]

@[simp] theorem within_set_promptCounter {f : Parts} {s t : State} (x) (k : f.promptCounter = true) :
    Within f s { t with promptCounter := x } ↔ Within f s t := by
  simp [Within, k]

@[simp] theorem within_set_sensors {f : Parts} {s t : State} (x) (k : f.sensors = true) :
    Within f s { t with sensors := x } ↔ Within f s t := by
  simp [Within, k]

@[simp] theorem within_set_doorOpen {f : Parts} {s t : State} (x) (k : f.doorOpen = true) :
    Within f s { t with doorOpen := x } ↔ Within f s t := by
  simp [Within, k]

@[simp] theorem within_set_probePresent {f : Parts} {s t : State} (x) (k : f.probePresent = true) :
    Within f s { t with probePresent := x } ↔ Within f s t := by
  simp [Within, k]

@[simp] theorem within_set_limitActive {f : Parts} {s t : State} (x) (k : f.limitActive = true) :
    Within f s { t with limitActive := x } ↔ Within f s t := by
  simp [Within, k]

@[simp] theorem within_set_limitLatch {f : Parts} {s t : State} (x) (k : f.limitLatch = true) :
    Within f s { t with limitLatch := x } ↔ Within f s t := by
  simp [Within, k]

@[simp] theorem within_set_tankPresent {f : Parts} {s t : State} (x) (k : f.tankPresent = true) :
    Within f s { t with tankPresent := x } ↔ Within f s t := by
  simp [Within, k]

@[simp] theorem within_set_mains {f : Parts} {s t : State} (x) (k : f.mains = true) :
    Within f s { t with mains := x } ↔ Within f s t := by
  simp [Within, k]

@[simp] theorem within_set_ports {f : Parts} {s t : State} (x) (k : f.ports = true) :
    Within f s { t with ports := x } ↔ Within f s t := by
  simp [Within, k]

@[simp] theorem within_set_holds {f : Parts} {s t : State} (x) (k : f.holds = true) :
    Within f s { t with holds := x } ↔ Within f s t := by
  simp [Within, k]

@[simp] theorem within_set_attention {f : Parts} {s t : State} (x) (k : f.attention = true) :
    Within f s { t with attention := x } ↔ Within f s t := by
  simp [Within, k]

@[simp] theorem within_set_resetHeld {f : Parts} {s t : State} (x) (k : f.resetHeld = true) :
    Within f s { t with resetHeld := x } ↔ Within f s t := by
  simp [Within, k]

@[simp] theorem within_set_freeIndex {f : Parts} {s t : State} (x) (k : f.freeIndex = true) :
    Within f s { t with freeIndex := x } ↔ Within f s t := by
  simp [Within, k]

@[simp] theorem within_set_pending {f : Parts} {s t : State} (x) (k : f.pending = true) :
    Within f s { t with pending := x } ↔ Within f s t := by
  simp [Within, k]

@[simp] theorem within_modRun (c : Cavity) (f : Run → Run) {g : Parts} {s t : State} (k : g.runs = true) :
    Within g s (modRun c f t) ↔ Within g s t := by
  simp [Within, k]

@[simp] theorem within_modQueue (c : Cavity) (f : StepQueue → StepQueue) {g : Parts} {s t : State} (k : g.queues = true) :
    Within g s (modQueue c f t) ↔ Within g s t := by
  simp [Within, k]

@[simp] theorem within_modClimate (c : Cavity) (f : Climate → Climate) {g : Parts} {s t : State} (k : g.climates = true) :
    Within g s (modClimate c f t) ↔ Within g s t := by
  simp [Within, k]

@[simp] theorem within_modPair (c : Cavity) (f : Pair → Pair) {g : Parts} {s t : State} (k : g.pairs = true) :
    Within g s (modPair c f t) ↔ Within g s t := by
  simp [Within, k]

@[simp] theorem within_modTimer (l : Load) (f : Timer → Timer) {g : Parts} {s t : State} (k : g.timers = true) :
    Within g s (modTimer l f t) ↔ Within g s t := by
  simp [Within, k]

@[simp] theorem within_setStatus (l : Load) (x : LoadStatus) {g : Parts} {s t : State} (k : g.arbiter = true) :
    Within g s (setStatus l x t) ↔ Within g s t := by
  simp [Within, k]

@[simp] theorem within_modGen (f : Gen → Gen) {g : Parts} {s t : State} (k : g.gen = true) :
    Within g s (modGen f t) ↔ Within g s t := by
  simp [Within, k]

@[simp] theorem within_modProc (f : Procedure → Procedure) {g : Parts} {s t : State} (k : g.proc = true) :
    Within g s (modProc f t) ↔ Within g s t := by
  simp [Within, k]

@[simp] theorem within_modScale (f : Scale → Scale) {g : Parts} {s t : State} (k : g.scale = true) :
    Within g s (modScale f t) ↔ Within g s t := by
  simp [Within, k]

@[simp] theorem within_modStore (f : Store → Store) {g : Parts} {s t : State} (k : g.store = true) :
    Within g s (modStore f t) ↔ Within g s t := by
  simp [Within, k]

@[simp] theorem within_modSensor (x : Sensor) (f : SensorRecord → SensorRecord) {g : Parts} {s t : State} (k : g.sensors = true) :
    Within g s (modSensor x f t) ↔ Within g s t := by
  simp [Within, k]

@[simp] theorem within_modPort (p : Port) (f : PortRecord → PortRecord) {g : Parts} {s t : State} (k : g.ports = true) :
    Within g s (modPort p f t) ↔ Within g s t := by
  simp [Within, k]

@[simp] theorem within_setHold (h : HoldObject) (x : Option Hold) {g : Parts} {s t : State} (k : g.holds = true) :
    Within g s (setHold h x t) ↔ Within g s t := by
  simp [Within, k]

@[simp] theorem within_setPrompt (o : Owner) (x : Option Prompt) {g : Parts} {s t : State} (k : g.prompts = true) :
    Within g s (setPrompt o x t) ↔ Within g s t := by
  simp [Within, k]

@[simp] theorem within_post (p : Port) (x : Cause) {g : Parts} {s t : State} (k : g.attention = true) :
    Within g s (post p x t) ↔ Within g s t := by
  simp [Within, k]

@[simp] theorem within_broadcast (x : Cause) {g : Parts} {s t : State} (k : g.attention = true) :
    Within g s (broadcast x t) ↔ Within g s t := by
  simp [Within, k]

end Sys2Proof.Machine
end

