-- ==== Sys2Proof/Laws/Touch.lean ====
section
/-! SUPPORT. What each shared operation can change: `f_within` for the operation itself, `within_f` for its use under
other operations. -/

set_option linter.all false

namespace Sys2Proof.Machine

/-! ## Prompts, causes and saves (Ops) -/

@[simp] theorem within_drawFree {f : Parts} {s t : State} (cov : f.freeIndex = true) :
    Within f s (drawFree t).1 ↔ Within f s t := by
  simp [drawFree, cov]

theorem removePrompt_within (o : Owner) (r : ClearReason) (s : State) : Within .table s (removePrompt o r s) := by
  unfold removePrompt
  try dsimp only
  first
    | (simp (decide := true); done)
    | ((repeat' split) <;> (simp (decide := true); done))

@[simp] theorem within_removePrompt (o : Owner) (r : ClearReason) {f : Parts} {s t : State} (cov : f.covers .table = true) :
    Within f s (removePrompt o r t) ↔ Within f s t := (removePrompt_within o r t).pass cov

theorem cancelPrompt_within (o : Owner) (s : State) : Within .table s (cancelPrompt o s) := by
  unfold cancelPrompt
  try dsimp only
  first
    | (simp (decide := true); done)
    | ((repeat' split) <;> (simp (decide := true); done))

@[simp] theorem within_cancelPrompt (o : Owner) {f : Parts} {s t : State} (cov : f.covers .table = true) :
    Within f s (cancelPrompt o t) ↔ Within f s t := (cancelPrompt_within o t).pass cov

theorem raisePrompt_within (o : Owner) (code : Nat) (pl : Placement) (d : Bool) (n : Nat) (on : Option OnTimeout) (s : State) : Within .table s (raisePrompt o code pl d n on s) := by
  refine (removePrompt_within o .replaced s).trans ?_
  simp [raisePrompt, Within, Parts.table]

@[simp] theorem within_raisePrompt (o : Owner) (code : Nat) (pl : Placement) (d : Bool) (n : Nat) (on : Option OnTimeout) {f : Parts} {s t : State} (cov : f.covers .table = true) :
    Within f s (raisePrompt o code pl d n on t) ↔ Within f s t := (raisePrompt_within o code pl d n on t).pass cov

theorem raiseDevice_within (o : Owner) (code : Nat) (s : State) : Within .table s (raiseDevice o code s) := by
  unfold raiseDevice
  try dsimp only
  first
    | (simp (decide := true); done)
    | ((repeat' split) <;> (simp (decide := true); done))

@[simp] theorem within_raiseDevice (o : Owner) (code : Nat) {f : Parts} {s t : State} (cov : f.covers .table = true) :
    Within f s (raiseDevice o code t) ↔ Within f s t := (raiseDevice_within o code t).pass cov

theorem raiseRecipe_within (c : Cavity) (p : PromptSub) (s : State) : Within .table s (raiseRecipe c p s) := by
  unfold raiseRecipe
  try dsimp only
  first
    | (simp (decide := true); done)
    | ((repeat' split) <;> (simp (decide := true); done))

@[simp] theorem within_raiseRecipe (c : Cavity) (p : PromptSub) {f : Parts} {s t : State} (cov : f.covers .table = true) :
    Within f s (raiseRecipe c p t) ↔ Within f s t := (raiseRecipe_within c p t).pass cov

theorem beginWrite_within (s : State) : Within { store := true } s (beginWrite s) := by
  unfold beginWrite
  try dsimp only
  first
    | (simp (decide := true); done)
    | ((repeat' split) <;> (simp (decide := true); done))

@[simp] theorem within_beginWrite {f : Parts} {s t : State} (cov : f.covers { store := true } = true) :
    Within f s (beginWrite t) ↔ Within f s t := (beginWrite_within t).pass cov

theorem enqueue_within (e : WriteEntry) (s : State) : Within { store := true } s (enqueue e s) := by
  unfold enqueue
  try dsimp only
  first
    | (simp (decide := true); done)
    | ((repeat' split) <;> (simp (decide := true); done))

@[simp] theorem within_enqueue (e : WriteEntry) {f : Parts} {s t : State} (cov : f.covers { store := true } = true) :
    Within f s (enqueue e t) ↔ Within f s t := (enqueue_within e t).pass cov

theorem handSave_within (e : WriteEntry) (s : State) : Within { store := true } s (handSave e s) := by
  unfold handSave
  try dsimp only
  first
    | (simp (decide := true); done)
    | ((repeat' split) <;> (simp (decide := true); done))

@[simp] theorem within_handSave (e : WriteEntry) {f : Parts} {s t : State} (cov : f.covers { store := true } = true) :
    Within f s (handSave e t) ↔ Within f s t := (handSave_within e t).pass cov

theorem saveScale_within (s : State) : Within { store := true, scale := true } s (saveScale s) := by
  unfold saveScale
  try dsimp only
  first
    | (simp (decide := true); done)
    | ((repeat' split) <;> (simp (decide := true); done))

@[simp] theorem within_saveScale {f : Parts} {s t : State} (cov : f.covers { store := true, scale := true } = true) :
    Within f s (saveScale t) ↔ Within f s t := (saveScale_within t).pass cov

theorem saveProcedure_within (s : State) : Within { store := true, proc := true } s (saveProcedure s) := by
  unfold saveProcedure
  try dsimp only
  first
    | (simp (decide := true); done)
    | ((repeat' split) <;> (simp (decide := true); done))

@[simp] theorem within_saveProcedure {f : Parts} {s t : State} (cov : f.covers { store := true, proc := true } = true) :
    Within f s (saveProcedure t) ↔ Within f s t := (saveProcedure_within t).pass cov

/-! ## Power chain -/

theorem grant_within (l : Load) (s : State) : Within .power s (grant l s) := by
  unfold grant
  try dsimp only
  first
    | (simp (decide := true); done)
    | ((repeat' split) <;> (simp (decide := true); done))

@[simp] theorem within_grant (l : Load) {f : Parts} {s t : State} (cov : f.covers .power = true) :
    Within f s (grant l t) ↔ Within f s t := (grant_within l t).pass cov

theorem grantWalk_within (ls : List Load) (s : State) : Within .power s (grantWalk ls s) := by
  induction ls generalizing s with
  | nil => exact Within.refl _ _
  | cons l ls ih =>
    unfold grantWalk
    split
    · split
      · exact (grant_within l s).trans (ih _)
      · exact Within.refl _ _
    · exact ih _

@[simp] theorem within_grantWalk (ls : List Load) {f : Parts} {s t : State} (cov : f.covers .power = true) :
    Within f s (grantWalk ls t) ↔ Within f s t := (grantWalk_within ls t).pass cov

theorem grantDecision_within (s : State) : Within .power s (grantDecision s) := by
  unfold grantDecision
  try dsimp only
  first
    | (simp (decide := true); done)
    | ((repeat' split) <;> (simp (decide := true); done))

@[simp] theorem within_grantDecision {f : Parts} {s t : State} (cov : f.covers .power = true) :
    Within f s (grantDecision t) ↔ Within f s t := (grantDecision_within t).pass cov

theorem request_within (l : Load) (s : State) : Within .power s (request l s) := by
  unfold request
  try dsimp only
  first
    | (simp (decide := true); done)
    | ((repeat' split) <;> (simp (decide := true); done))

@[simp] theorem within_request (l : Load) {f : Parts} {s t : State} (cov : f.covers .power = true) :
    Within f s (request l t) ↔ Within f s t := (request_within l t).pass cov

theorem leave_within (l : Load) (s : State) : Within .power s (leave l s) := by
  unfold leave
  try dsimp only
  first
    | (simp (decide := true); done)
    | ((repeat' split) <;> (simp (decide := true); done))

@[simp] theorem within_leave (l : Load) {f : Parts} {s t : State} (cov : f.covers .power = true) :
    Within f s (leave l t) ↔ Within f s t := (leave_within l t).pass cov

theorem withdraw_within (l : Load) (s : State) : Within .power s (withdraw l s) := by
  unfold withdraw
  try dsimp only
  first
    | (simp (decide := true); done)
    | ((repeat' split) <;> (simp (decide := true); done))

@[simp] theorem within_withdraw (l : Load) {f : Parts} {s t : State} (cov : f.covers .power = true) :
    Within f s (withdraw l t) ↔ Within f s t := (withdraw_within l t).pass cov

theorem withdrawAll_within (ls : List Load) (s : State) : Within .power s (withdrawAll ls s) := by
  induction ls generalizing s with
  | nil => exact Within.refl _ _
  | cons l ls ih =>
    unfold withdrawAll
    refine Within.trans ?_ (ih _)
    split <;> simp (decide := true)

@[simp] theorem within_withdrawAll (ls : List Load) {f : Parts} {s t : State} (cov : f.covers .power = true) :
    Within f s (withdrawAll ls t) ↔ Within f s t := (withdrawAll_within ls t).pass cov

theorem cutWalk_within (ls : List Load) (s : State) : Within .power s (cutWalk ls s) := by
  induction ls generalizing s with
  | nil => exact Within.refl _ _
  | cons l ls ih =>
    unfold cutWalk
    split
    · exact Within.refl _ _
    · refine Within.trans ?_ (ih _)
      split <;> simp (decide := true)

@[simp] theorem within_cutWalk (ls : List Load) {f : Parts} {s t : State} (cov : f.covers .power = true) :
    Within f s (cutWalk ls t) ↔ Within f s t := (cutWalk_within ls t).pass cov

theorem cutAndDecide_within (s : State) : Within .power s (cutAndDecide s) := by
  unfold cutAndDecide
  try dsimp only
  first
    | (simp (decide := true); done)
    | ((repeat' split) <;> (simp (decide := true); done))

@[simp] theorem within_cutAndDecide {f : Parts} {s t : State} (cov : f.covers .power = true) :
    Within f s (cutAndDecide t) ↔ Within f s t := (cutAndDecide_within t).pass cov

/-! ## Drive timers -/

theorem setInterval_within (l : Load) (i : Interval) (x : Option Nat) (s : State) : Within .power s (setInterval l i x s) := by
  unfold setInterval
  try dsimp only
  first
    | (simp (decide := true); done)
    | ((repeat' split) <;> (simp (decide := true); done))

@[simp] theorem within_setInterval (l : Load) (i : Interval) (x : Option Nat) {f : Parts} {s t : State} (cov : f.covers .power = true) :
    Within f s (setInterval l i x t) ↔ Within f s t := (setInterval_within l i x t).pass cov

theorem startOn_within (l : Load) (n : Nat) (s : State) : Within .power s (startOn l n s) := by
  unfold startOn
  try dsimp only
  first
    | (simp (decide := true); done)
    | ((repeat' split) <;> (simp (decide := true); done))

@[simp] theorem within_startOn (l : Load) (n : Nat) {f : Parts} {s t : State} (cov : f.covers .power = true) :
    Within f s (startOn l n t) ↔ Within f s t := (startOn_within l n t).pass cov

theorem beginOn_within (l : Load) (s : State) : Within .power s (beginOn l s) := by
  unfold beginOn
  try dsimp only
  first
    | (simp (decide := true); done)
    | ((repeat' split) <;> (simp (decide := true); done))

@[simp] theorem within_beginOn (l : Load) {f : Parts} {s t : State} (cov : f.covers .power = true) :
    Within f s (beginOn l t) ↔ Within f s t := (beginOn_within l t).pass cov

theorem beginOff_within (l : Load) (s : State) : Within .power s (beginOff l s) := by
  unfold beginOff
  try dsimp only
  first
    | (simp (decide := true); done)
    | ((repeat' split) <;> (simp (decide := true); done))

@[simp] theorem within_beginOff (l : Load) {f : Parts} {s t : State} (cov : f.covers .power = true) :
    Within f s (beginOff l t) ↔ Within f s t := (beginOff_within l t).pass cov

theorem setHolds_within (l : Load) (m n : Nat) (s : State) : Within .power s (setHolds l m n s) := by
  unfold setHolds
  try dsimp only
  first
    | (simp (decide := true); done)
    | ((repeat' split) <;> (simp (decide := true); done))

@[simp] theorem within_setHolds (l : Load) (m n : Nat) {f : Parts} {s t : State} (cov : f.covers .power = true) :
    Within f s (setHolds l m n t) ↔ Within f s t := (setHolds_within l m n t).pass cov

theorem writeHolds_within (l : Load) (m n : Nat) (s : State) : Within .power s (writeHolds l m n s) := by
  unfold writeHolds
  try dsimp only
  first
    | (simp (decide := true); done)
    | ((repeat' split) <;> (simp (decide := true); done))

@[simp] theorem within_writeHolds (l : Load) (m n : Nat) {f : Parts} {s t : State} (cov : f.covers .power = true) :
    Within f s (writeHolds l m n t) ↔ Within f s t := (writeHolds_within l m n t).pass cov

theorem restartTimer_within (l : Load) (m n : Nat) (s : State) : Within .power s (restartTimer l m n s) := by
  unfold restartTimer
  try dsimp only
  first
    | (simp (decide := true); done)
    | ((repeat' split) <;> (simp (decide := true); done))

@[simp] theorem within_restartTimer (l : Load) (m n : Nat) {f : Parts} {s t : State} (cov : f.covers .power = true) :
    Within f s (restartTimer l m n t) ↔ Within f s t := (restartTimer_within l m n t).pass cov

theorem stopTimer_within (l : Load) (s : State) : Within .power s (stopTimer l s) := by
  unfold stopTimer
  try dsimp only
  first
    | (simp (decide := true); done)
    | ((repeat' split) <;> (simp (decide := true); done))

@[simp] theorem within_stopTimer (l : Load) {f : Parts} {s t : State} (cov : f.covers .power = true) :
    Within f s (stopTimer l t) ↔ Within f s t := (stopTimer_within l t).pass cov

theorem beginPair_within (c : Cavity) (x : PairPosition) (s : State) : Within .drive s (beginPair c x s) := by
  unfold beginPair
  try dsimp only
  first
    | (simp (decide := true); done)
    | ((repeat' split) <;> (simp (decide := true); done))

@[simp] theorem within_beginPair (c : Cavity) (x : PairPosition) {f : Parts} {s t : State} (cov : f.covers .drive = true) :
    Within f s (beginPair c x t) ↔ Within f s t := (beginPair_within c x t).pass cov

theorem wakePair_within (c : Cavity) (s : State) : Within .drive s (wakePair c s) := by
  unfold wakePair
  try dsimp only
  first
    | (simp (decide := true); done)
    | ((repeat' split) <;> (simp (decide := true); done))

@[simp] theorem within_wakePair (c : Cavity) {f : Parts} {s t : State} (cov : f.covers .drive = true) :
    Within f s (wakePair c t) ↔ Within f s t := (wakePair_within c t).pass cov

theorem writePair_within (c : Cavity) (m n : Nat) (s : State) : Within .drive s (writePair c m n s) := by
  unfold writePair
  try dsimp only
  first
    | (simp (decide := true); done)
    | ((repeat' split) <;> (simp (decide := true); done))

@[simp] theorem within_writePair (c : Cavity) (m n : Nat) {f : Parts} {s t : State} (cov : f.covers .drive = true) :
    Within f s (writePair c m n t) ↔ Within f s t := (writePair_within c m n t).pass cov

theorem stopPair_within (c : Cavity) (s : State) : Within .drive s (stopPair c s) := by
  unfold stopPair
  try dsimp only
  first
    | (simp (decide := true); done)
    | ((repeat' split) <;> (simp (decide := true); done))

@[simp] theorem within_stopPair (c : Cavity) {f : Parts} {s t : State} (cov : f.covers .drive = true) :
    Within f s (stopPair c t) ↔ Within f s t := (stopPair_within c t).pass cov

theorem stopCavity_within (c : Cavity) (s : State) : Within .drive s (stopCavity c s) := by
  unfold stopCavity
  try dsimp only
  first
    | (simp (decide := true); done)
    | ((repeat' split) <;> (simp (decide := true); done))

@[simp] theorem within_stopCavity (c : Cavity) {f : Parts} {s t : State} (cov : f.covers .drive = true) :
    Within f s (stopCavity c t) ↔ Within f s t := (stopCavity_within c t).pass cov

theorem reformPair_within (c : Cavity) (b : Bool) (s : State) : Within .drive s (reformPair c b s) := by
  unfold reformPair
  try dsimp only
  first
    | (simp (decide := true); done)
    | ((repeat' split) <;> (simp (decide := true); done))

@[simp] theorem within_reformPair (c : Cavity) (b : Bool) {f : Parts} {s t : State} (cov : f.covers .drive = true) :
    Within f s (reformPair c b t) ↔ Within f s t := (reformPair_within c b t).pass cov

theorem freezeTimer_within (l : Load) (s : State) : Within .power s (freezeTimer l s) := by
  unfold freezeTimer
  try dsimp only
  first
    | (simp (decide := true); done)
    | ((repeat' split) <;> (simp (decide := true); done))

@[simp] theorem within_freezeTimer (l : Load) {f : Parts} {s t : State} (cov : f.covers .power = true) :
    Within f s (freezeTimer l t) ↔ Within f s t := (freezeTimer_within l t).pass cov

theorem thawTimer_within (l : Load) (b : Bool) (s : State) : Within .power s (thawTimer l b s) := by
  unfold thawTimer
  try dsimp only
  first
    | (simp (decide := true); done)
    | ((repeat' split) <;> (simp (decide := true); done))

@[simp] theorem within_thawTimer (l : Load) (b : Bool) {f : Parts} {s t : State} (cov : f.covers .power = true) :
    Within f s (thawTimer l b t) ↔ Within f s t := (thawTimer_within l b t).pass cov

theorem freezeCavity_within (c : Cavity) (s : State) : Within .drive s (freezeCavity c s) := by
  unfold freezeCavity
  try dsimp only
  first
    | (simp (decide := true); done)
    | ((repeat' split) <;> (simp (decide := true); done))

@[simp] theorem within_freezeCavity (c : Cavity) {f : Parts} {s t : State} (cov : f.covers .drive = true) :
    Within f s (freezeCavity c t) ↔ Within f s t := (freezeCavity_within c t).pass cov

theorem thawCavity_within (c : Cavity) (s : State) : Within .drive s (thawCavity c s) := by
  unfold thawCavity
  try dsimp only
  first
    | (simp (decide := true); done)
    | ((repeat' split) <;> (simp (decide := true); done))

@[simp] theorem within_thawCavity (c : Cavity) {f : Parts} {s t : State} (cov : f.covers .drive = true) :
    Within f s (thawCavity c t) ↔ Within f s t := (thawCavity_within c t).pass cov

theorem syncFreeze_within (c : Cavity) (s : State) : Within .drive s (syncFreeze c s) := by
  unfold syncFreeze
  try dsimp only
  first
    | (simp (decide := true); done)
    | ((repeat' split) <;> (simp (decide := true); done))

@[simp] theorem within_syncFreeze (c : Cavity) {f : Parts} {s t : State} (cov : f.covers .drive = true) :
    Within f s (syncFreeze c t) ↔ Within f s t := (syncFreeze_within c t).pass cov

theorem endOn_within (l : Load) (s : State) : Within .power s (endOn l s) := by
  unfold endOn
  try dsimp only
  first
    | (simp (decide := true); done)
    | ((repeat' split) <;> (simp (decide := true); done))

@[simp] theorem within_endOn (l : Load) {f : Parts} {s t : State} (cov : f.covers .power = true) :
    Within f s (endOn l t) ↔ Within f s t := (endOn_within l t).pass cov

theorem endTurn_within (c : Cavity) (b : Bool) (l : Load) (s : State) : Within .drive s (endTurn c b l s) := by
  unfold endTurn
  try dsimp only
  first
    | (simp (decide := true); done)
    | ((repeat' split) <;> (simp (decide := true); done))

@[simp] theorem within_endTurn (c : Cavity) (b : Bool) (l : Load) {f : Parts} {s t : State} (cov : f.covers .drive = true) :
    Within f s (endTurn c b l t) ↔ Within f s t := (endTurn_within c b l t).pass cov

theorem onExpiry_within (l : Load) (s : State) : Within .drive s (onExpiry l s) := by
  unfold onExpiry
  try dsimp only
  first
    | (simp (decide := true); done)
    | ((repeat' split) <;> (simp (decide := true); done))

@[simp] theorem within_onExpiry (l : Load) {f : Parts} {s t : State} (cov : f.covers .drive = true) :
    Within f s (onExpiry l t) ↔ Within f s t := (onExpiry_within l t).pass cov

theorem offExpiry_within (l : Load) (s : State) : Within .drive s (offExpiry l s) := by
  unfold offExpiry
  try dsimp only
  first
    | (simp (decide := true); done)
    | ((repeat' split) <;> (simp (decide := true); done))

@[simp] theorem within_offExpiry (l : Load) {f : Parts} {s t : State} (cov : f.covers .drive = true) :
    Within f s (offExpiry l t) ↔ Within f s t := (offExpiry_within l t).pass cov

theorem pairOffEnd_within (c : Cavity) (s : State) : Within .drive s (pairOffEnd c s) := by
  unfold pairOffEnd
  try dsimp only
  first
    | (simp (decide := true); done)
    | ((repeat' split) <;> (simp (decide := true); done))

@[simp] theorem within_pairOffEnd (c : Cavity) {f : Parts} {s t : State} (cov : f.covers .drive = true) :
    Within f s (pairOffEnd c t) ↔ Within f s t := (pairOffEnd_within c t).pass cov

/-! ## Climate loops -/

theorem writeElement_within (l : Load) (b : Bool) (d : Nat) (s : State) : Within .power s (writeElement l b d s) := by
  unfold writeElement
  try dsimp only
  first
    | (simp (decide := true); done)
    | ((repeat' split) <;> (simp (decide := true); done))

@[simp] theorem within_writeElement (l : Load) (b : Bool) (d : Nat) {f : Parts} {s t : State} (cov : f.covers .power = true) :
    Within f s (writeElement l b d t) ↔ Within f s t := (writeElement_within l b d t).pass cov

theorem writeElements_within (c : Cavity) (h : HeatMode) (d : Nat) (s : State) : Within .drive s (writeElements c h d s) := by
  unfold writeElements
  try dsimp only
  first
    | (simp (decide := true); done)
    | ((repeat' split) <;> (simp (decide := true); done))

@[simp] theorem within_writeElements (c : Cavity) (h : HeatMode) (d : Nat) {f : Parts} {s t : State} (cov : f.covers .drive = true) :
    Within f s (writeElements c h d t) ↔ Within f s t := (writeElements_within c h d t).pass cov

theorem demandComputation_within (c : Cavity) (s : State) : Within .heat s (demandComputation c s) := by
  unfold demandComputation
  try dsimp only
  first
    | (simp (decide := true); done)
    | ((repeat' split) <;> (simp (decide := true); done))

@[simp] theorem within_demandComputation (c : Cavity) {f : Parts} {s t : State} (cov : f.covers .heat = true) :
    Within f s (demandComputation c t) ↔ Within f s t := (demandComputation_within c t).pass cov

theorem stepSetpoint_within (c : Cavity) (s : State) : Within .heat s (stepSetpoint c s) := by
  unfold stepSetpoint
  try dsimp only
  first
    | (simp (decide := true); done)
    | ((repeat' split) <;> (simp (decide := true); done))

@[simp] theorem within_stepSetpoint (c : Cavity) {f : Parts} {s t : State} (cov : f.covers .heat = true) :
    Within f s (stepSetpoint c t) ↔ Within f s t := (stepSetpoint_within c t).pass cov

theorem regulationUpdate_within (c : Cavity) (s : State) : Within .heat s (regulationUpdate c s) := by
  unfold regulationUpdate
  try dsimp only
  first
    | (simp (decide := true); done)
    | ((repeat' split) <;> (simp (decide := true); done))

@[simp] theorem within_regulationUpdate (c : Cavity) {f : Parts} {s t : State} (cov : f.covers .heat = true) :
    Within f s (regulationUpdate c t) ↔ Within f s t := (regulationUpdate_within c t).pass cov

theorem climateTake_within (c : Cavity) (x : Action) (s : State) : Within .heat s (climateTake c x s) := by
  unfold climateTake
  try dsimp only
  first
    | (simp (decide := true); done)
    | ((repeat' split) <;> (simp (decide := true); done))

@[simp] theorem within_climateTake (c : Cavity) (x : Action) {f : Parts} {s t : State} (cov : f.covers .heat = true) :
    Within f s (climateTake c x t) ↔ Within f s t := (climateTake_within c x t).pass cov

theorem climateRestart_within (c : Cavity) (s : State) : Within .heat s (climateRestart c s) := by
  unfold climateRestart
  try dsimp only
  first
    | (simp (decide := true); done)
    | ((repeat' split) <;> (simp (decide := true); done))

@[simp] theorem within_climateRestart (c : Cavity) {f : Parts} {s t : State} (cov : f.covers .heat = true) :
    Within f s (climateRestart c t) ↔ Within f s t := (climateRestart_within c t).pass cov

theorem settleClimate_within (c : Cavity) (s : State) : Within .heat s (settleClimate c s) := by
  unfold settleClimate
  try dsimp only
  first
    | (simp (decide := true); done)
    | ((repeat' split) <;> (simp (decide := true); done))

@[simp] theorem within_settleClimate (c : Cavity) {f : Parts} {s t : State} (cov : f.covers .heat = true) :
    Within f s (settleClimate c t) ↔ Within f s t := (settleClimate_within c t).pass cov

theorem climateEnd_within (c : Cavity) (s : State) : Within .heat s (climateEnd c s) := by
  unfold climateEnd
  try dsimp only
  first
    | (simp (decide := true); done)
    | ((repeat' split) <;> (simp (decide := true); done))

@[simp] theorem within_climateEnd (c : Cavity) {f : Parts} {s t : State} (cov : f.covers .heat = true) :
    Within f s (climateEnd c t) ↔ Within f s t := (climateEnd_within c t).pass cov

theorem enterHold_within (c : Cavity) (k : Case) (n : Nat) (s : State) : Within { climates := true, runs := true, attention := true } s (enterHold c k n s) := by
  unfold enterHold
  try dsimp only
  first
    | (simp (decide := true); done)
    | ((repeat' split) <;> (simp (decide := true); done))

@[simp] theorem within_enterHold (c : Cavity) (k : Case) (n : Nat) {f : Parts} {s t : State} (cov : f.covers { climates := true, runs := true, attention := true } = true) :
    Within f s (enterHold c k n t) ↔ Within f s t := (enterHold_within c k n t).pass cov

theorem approachTest_within (c : Cavity) (s : State) : Within { climates := true, runs := true, attention := true } s (approachTest c s) := by
  unfold approachTest
  try dsimp only
  first
    | (simp (decide := true); done)
    | ((repeat' split) <;> (simp (decide := true); done))

@[simp] theorem within_approachTest (c : Cavity) {f : Parts} {s t : State} (cov : f.covers { climates := true, runs := true, attention := true } = true) :
    Within f s (approachTest c t) ↔ Within f s t := (approachTest_within c t).pass cov

theorem approachSample_within (c : Cavity) (n : Nat) (s : State) : Within { climates := true, runs := true, attention := true } s (approachSample c n s) := by
  unfold approachSample
  try dsimp only
  first
    | (simp (decide := true); done)
    | ((repeat' split) <;> (simp (decide := true); done))

@[simp] theorem within_approachSample (c : Cavity) (n : Nat) {f : Parts} {s t : State} (cov : f.covers { climates := true, runs := true, attention := true } = true) :
    Within f s (approachSample c n t) ↔ Within f s t := (approachSample_within c n t).pass cov

theorem climateAdjust_within (c : Cavity) (n : Nat) (s : State) : Within .heat s (climateAdjust c n s) := by
  unfold climateAdjust
  try dsimp only
  first
    | (simp (decide := true); done)
    | ((repeat' split) <;> (simp (decide := true); done))

@[simp] theorem within_climateAdjust (c : Cavity) (n : Nat) {f : Parts} {s t : State} (cov : f.covers .heat = true) :
    Within f s (climateAdjust c n t) ↔ Within f s t := (climateAdjust_within c n t).pass cov

/-! ## Generator, meter and scale account -/

theorem refuse_within (c : Cavity) (s : State) : Within { runs := true, attention := true } s (refuse c s) := by
  unfold refuse
  try dsimp only
  first
    | (simp (decide := true); done)
    | ((repeat' split) <;> (simp (decide := true); done))

@[simp] theorem within_refuse (c : Cavity) {f : Parts} {s t : State} (cov : f.covers { runs := true, attention := true } = true) :
    Within f s (refuse c t) ↔ Within f s t := (refuse_within c t).pass cov

theorem refuseBoth_within (s : State) : Within { runs := true, attention := true } s (refuseBoth s) := by
  unfold refuseBoth
  try dsimp only
  first
    | (simp (decide := true); done)
    | ((repeat' split) <;> (simp (decide := true); done))

@[simp] theorem within_refuseBoth {f : Parts} {s t : State} (cov : f.covers { runs := true, attention := true } = true) :
    Within f s (refuseBoth t) ↔ Within f s t := (refuseBoth_within t).pass cov

theorem meterBegin_within (w : WaterSource) (x : Purpose) (s : State) : Within { meter := true } s (meterBegin w x s) := by
  unfold meterBegin
  try dsimp only
  first
    | (simp (decide := true); done)
    | ((repeat' split) <;> (simp (decide := true); done))

@[simp] theorem within_meterBegin (w : WaterSource) (x : Purpose) {f : Parts} {s t : State} (cov : f.covers { meter := true } = true) :
    Within f s (meterBegin w x t) ↔ Within f s t := (meterBegin_within w x t).pass cov

theorem meterIncomplete_within (s : State) : Within { meter := true } s (meterIncomplete s) := by
  unfold meterIncomplete
  try dsimp only
  first
    | (simp (decide := true); done)
    | ((repeat' split) <;> (simp (decide := true); done))

@[simp] theorem within_meterIncomplete {f : Parts} {s t : State} (cov : f.covers { meter := true } = true) :
    Within f s (meterIncomplete t) ↔ Within f s t := (meterIncomplete_within t).pass cov

theorem thresholdTest_within (r : ScaleReason) (s : State) : Within { scale := true, runs := true, attention := true } s (thresholdTest r s) := by
  unfold thresholdTest
  try dsimp only
  first
    | (simp (decide := true); done)
    | ((repeat' split) <;> (simp (decide := true); done))

@[simp] theorem within_thresholdTest (r : ScaleReason) {f : Parts} {s t : State} (cov : f.covers { scale := true, runs := true, attention := true } = true) :
    Within f s (thresholdTest r t) ↔ Within f s t := (thresholdTest_within r t).pass cov

theorem setPoints_within (m n : Nat) (r : ScaleReason) (s : State) : Within { scale := true, runs := true, attention := true, store := true } s (setPoints m n r s) := by
  unfold setPoints
  try dsimp only
  first
    | (simp (decide := true); done)
    | ((repeat' split) <;> (simp (decide := true); done))

@[simp] theorem within_setPoints (m n : Nat) (r : ScaleReason) {f : Parts} {s t : State} (cov : f.covers { scale := true, runs := true, attention := true, store := true } = true) :
    Within f s (setPoints m n r t) ↔ Within f s t := (setPoints_within m n r t).pass cov

theorem accrue_within (n : Nat) (s : State) : Within { scale := true, runs := true, attention := true, store := true } s (accrue n s) := by
  unfold accrue
  try dsimp only
  first
    | (simp (decide := true); done)
    | ((repeat' split) <;> (simp (decide := true); done))

@[simp] theorem within_accrue (n : Nat) {f : Parts} {s t : State} (cov : f.covers { scale := true, runs := true, attention := true, store := true } = true) :
    Within f s (accrue n t) ↔ Within f s t := (accrue_within n t).pass cov

theorem slowReport_within (s : State) : Within { scale := true, runs := true, attention := true, store := true } s (slowReport s) := by
  unfold slowReport
  try dsimp only
  first
    | (simp (decide := true); done)
    | ((repeat' split) <;> (simp (decide := true); done))

@[simp] theorem within_slowReport {f : Parts} {s t : State} (cov : f.covers { scale := true, runs := true, attention := true, store := true } = true) :
    Within f s (slowReport t) ↔ Within f s t := (slowReport_within t).pass cov

theorem zeroScale_within (s : State) : Within { scale := true, store := true } s (zeroScale s) := by
  unfold zeroScale
  try dsimp only
  first
    | (simp (decide := true); done)
    | ((repeat' split) <;> (simp (decide := true); done))

@[simp] theorem within_zeroScale {f : Parts} {s t : State} (cov : f.covers { scale := true, store := true } = true) :
    Within f s (zeroScale t) ↔ Within f s t := (zeroScale_within t).pass cov

theorem meterComplete_within (s : State) : Within { meter := true, scale := true, runs := true, attention := true, store := true } s (meterComplete s) := by
  unfold meterComplete
  try dsimp only
  first
    | (simp (decide := true); done)
    | ((repeat' split) <;> (simp (decide := true); done))

@[simp] theorem within_meterComplete {f : Parts} {s t : State} (cov : f.covers { meter := true, scale := true, runs := true, attention := true, store := true } = true) :
    Within f s (meterComplete t) ↔ Within f s t := (meterComplete_within t).pass cov

theorem heatInstruction_within (g : GenState) (s : State) : Within .power s (heatInstruction g s) := by
  unfold heatInstruction
  try dsimp only
  first
    | (simp (decide := true); done)
    | ((repeat' split) <;> (simp (decide := true); done))

@[simp] theorem within_heatInstruction (g : GenState) {f : Parts} {s t : State} (cov : f.covers .power = true) :
    Within f s (heatInstruction g t) ↔ Within f s t := (heatInstruction_within g t).pass cov

theorem enterGen_within (g : GenState) (x : Gen → Gen) (s : State) : Within .steam s (enterGen g x s) := by
  unfold enterGen
  try dsimp only
  first
    | (simp (decide := true); done)
    | ((repeat' split) <;> (simp (decide := true); done))

@[simp] theorem within_enterGen (g : GenState) (x : Gen → Gen) {f : Parts} {s t : State} (cov : f.covers .steam = true) :
    Within f s (enterGen g x t) ↔ Within f s t := (enterGen_within g x t).pass cov

theorem abandonFill_within (s : State) : Within .steam s (abandonFill s) := by
  unfold abandonFill
  try dsimp only
  first
    | (simp (decide := true); done)
    | ((repeat' split) <;> (simp (decide := true); done))

@[simp] theorem within_abandonFill {f : Parts} {s t : State} (cov : f.covers .steam = true) :
    Within f s (abandonFill t) ↔ Within f s t := (abandonFill_within t).pass cov

theorem startDrain_within (x : AfterDrain) (s : State) : Within .steam s (startDrain x s) := by
  unfold startDrain
  try dsimp only
  first
    | (simp (decide := true); done)
    | ((repeat' split) <;> (simp (decide := true); done))

@[simp] theorem within_startDrain (x : AfterDrain) {f : Parts} {s t : State} (cov : f.covers .steam = true) :
    Within f s (startDrain x t) ↔ Within f s t := (startDrain_within x t).pass cov

theorem dropWait_within (s : State) : Within .steam s (dropWait s) := by
  unfold dropWait
  try dsimp only
  first
    | (simp (decide := true); done)
    | ((repeat' split) <;> (simp (decide := true); done))

@[simp] theorem within_dropWait {f : Parts} {s t : State} (cov : f.covers .steam = true) :
    Within f s (dropWait t) ↔ Within f s t := (dropWait_within t).pass cov

theorem enterWaterWait_within (s : State) : Within .steam s (enterWaterWait s) := by
  unfold enterWaterWait
  try dsimp only
  first
    | (simp (decide := true); done)
    | ((repeat' split) <;> (simp (decide := true); done))

@[simp] theorem within_enterWaterWait {f : Parts} {s t : State} (cov : f.covers .steam = true) :
    Within f s (enterWaterWait t) ↔ Within f s t := (enterWaterWait_within t).pass cov

theorem completeSteamFill_within (s : State) : Within .steam s (completeSteamFill s) := by
  unfold completeSteamFill
  try dsimp only
  first
    | (simp (decide := true); done)
    | ((repeat' split) <;> (simp (decide := true); done))

@[simp] theorem within_completeSteamFill {f : Parts} {s t : State} (cov : f.covers .steam = true) :
    Within f s (completeSteamFill t) ↔ Within f s t := (completeSteamFill_within t).pass cov

theorem waitIfAbsent_within (s : State) : Within .steam s (waitIfAbsent s) := by
  unfold waitIfAbsent
  try dsimp only
  first
    | (simp (decide := true); done)
    | ((repeat' split) <;> (simp (decide := true); done))

@[simp] theorem within_waitIfAbsent {f : Parts} {s t : State} (cov : f.covers .steam = true) :
    Within f s (waitIfAbsent t) ↔ Within f s t := (waitIfAbsent_within t).pass cov

theorem startSteamFill_within (s : State) : Within .steam s (startSteamFill s) := by
  unfold startSteamFill
  try dsimp only
  first
    | (simp (decide := true); done)
    | ((repeat' split) <;> (simp (decide := true); done))

@[simp] theorem within_startSteamFill {f : Parts} {s t : State} (cov : f.covers .steam = true) :
    Within f s (startSteamFill t) ↔ Within f s t := (startSteamFill_within t).pass cov

theorem fillIfWanted_within (s : State) : Within .steam s (fillIfWanted s) := by
  unfold fillIfWanted
  try dsimp only
  first
    | (simp (decide := true); done)
    | ((repeat' split) <;> (simp (decide := true); done))

@[simp] theorem within_fillIfWanted {f : Parts} {s t : State} (cov : f.covers .steam = true) :
    Within f s (fillIfWanted t) ↔ Within f s t := (fillIfWanted_within t).pass cov

theorem enterEmpty_within (s : State) : Within .steam s (enterEmpty s) := by
  unfold enterEmpty
  try dsimp only
  first
    | (simp (decide := true); done)
    | ((repeat' split) <;> (simp (decide := true); done))

@[simp] theorem within_enterEmpty {f : Parts} {s t : State} (cov : f.covers .steam = true) :
    Within f s (enterEmpty t) ↔ Within f s t := (enterEmpty_within t).pass cov

theorem refillAnswered_within (s : State) : Within .steam s (refillAnswered s) := by
  unfold refillAnswered
  try dsimp only
  first
    | (simp (decide := true); done)
    | ((repeat' split) <;> (simp (decide := true); done))

@[simp] theorem within_refillAnswered {f : Parts} {s t : State} (cov : f.covers .steam = true) :
    Within f s (refillAnswered t) ↔ Within f s t := (refillAnswered_within t).pass cov

theorem cutWindow_within (c : Cavity) (s : State) : Within .steam s (cutWindow c s) := by
  unfold cutWindow
  try dsimp only
  first
    | (simp (decide := true); done)
    | ((repeat' split) <;> (simp (decide := true); done))

@[simp] theorem within_cutWindow (c : Cavity) {f : Parts} {s t : State} (cov : f.covers .steam = true) :
    Within f s (cutWindow c t) ↔ Within f s t := (cutWindow_within c t).pass cov

theorem setCredit_within (c : Cavity) (n : Nat) (s : State) : Within { gen := true } s (setCredit c n s) := by
  unfold setCredit
  try dsimp only
  first
    | (simp (decide := true); done)
    | ((repeat' split) <;> (simp (decide := true); done))

@[simp] theorem within_setCredit (c : Cavity) (n : Nat) {f : Parts} {s t : State} (cov : f.covers { gen := true } = true) :
    Within f s (setCredit c n t) ↔ Within f s t := (setCredit_within c n t).pass cov

theorem demandPresent_within (c : Cavity) (s : State) : Within .steam s (demandPresent c s) := by
  unfold demandPresent
  try dsimp only
  first
    | (simp (decide := true); done)
    | ((repeat' split) <;> (simp (decide := true); done))

@[simp] theorem within_demandPresent (c : Cavity) {f : Parts} {s t : State} (cov : f.covers .steam = true) :
    Within f s (demandPresent c t) ↔ Within f s t := (demandPresent_within c t).pass cov

theorem demandAbsent_within (c : Cavity) (s : State) : Within .steam s (demandAbsent c s) := by
  unfold demandAbsent
  try dsimp only
  first
    | (simp (decide := true); done)
    | ((repeat' split) <;> (simp (decide := true); done))

@[simp] theorem within_demandAbsent (c : Cavity) {f : Parts} {s t : State} (cov : f.covers .steam = true) :
    Within f s (demandAbsent c t) ↔ Within f s t := (demandAbsent_within c t).pass cov

theorem holdIdle_within (s : State) : Within .steam s (holdIdle s) := by
  unfold holdIdle
  try dsimp only
  first
    | (simp (decide := true); done)
    | ((repeat' split) <;> (simp (decide := true); done))

@[simp] theorem within_holdIdle {f : Parts} {s t : State} (cov : f.covers .steam = true) :
    Within f s (holdIdle t) ↔ Within f s t := (holdIdle_within t).pass cov

theorem syncDemand_within (c : Cavity) (s : State) : Within .steam s (syncDemand c s) := by
  unfold syncDemand
  try dsimp only
  first
    | (simp (decide := true); done)
    | ((repeat' split) <;> (simp (decide := true); done))

@[simp] theorem within_syncDemand (c : Cavity) {f : Parts} {s t : State} (cov : f.covers .steam = true) :
    Within f s (syncDemand c t) ↔ Within f s t := (syncDemand_within c t).pass cov

theorem gainCredit_within (c : Cavity) (s : State) : Within .steam s (gainCredit c s) := by
  unfold gainCredit
  try dsimp only
  first
    | (simp (decide := true); done)
    | ((repeat' split) <;> (simp (decide := true); done))

@[simp] theorem within_gainCredit (c : Cavity) {f : Parts} {s t : State} (cov : f.covers .steam = true) :
    Within f s (gainCredit c t) ↔ Within f s t := (gainCredit_within c t).pass cov

theorem serve_within (c : Cavity) (s : State) : Within .steam s (serve c s) := by
  unfold serve
  try dsimp only
  first
    | (simp (decide := true); done)
    | ((repeat' split) <;> (simp (decide := true); done))

@[simp] theorem within_serve (c : Cavity) {f : Parts} {s t : State} (cov : f.covers .steam = true) :
    Within f s (serve c t) ↔ Within f s t := (serve_within c t).pass cov

theorem windowEnd_within (s : State) : Within .steam s (windowEnd s) := by
  unfold windowEnd
  try dsimp only
  first
    | (simp (decide := true); done)
    | ((repeat' split) <;> (simp (decide := true); done))

@[simp] theorem within_windowEnd {f : Parts} {s t : State} (cov : f.covers .steam = true) :
    Within f s (windowEnd t) ↔ Within f s t := (windowEnd_within t).pass cov

theorem lowDry_within (s : State) : Within .steam s (lowDry s) := by
  unfold lowDry
  try dsimp only
  first
    | (simp (decide := true); done)
    | ((repeat' split) <;> (simp (decide := true); done))

@[simp] theorem within_lowDry {f : Parts} {s t : State} (cov : f.covers .steam = true) :
    Within f s (lowDry t) ↔ Within f s t := (lowDry_within t).pass cov

theorem genFaultCore_within (k : FaultKind) (s : State) : Within .steam s (genFaultCore k s) := by
  unfold genFaultCore
  try dsimp only
  first
    | (simp (decide := true); done)
    | ((repeat' split) <;> (simp (decide := true); done))

@[simp] theorem within_genFaultCore (k : FaultKind) {f : Parts} {s t : State} (cov : f.covers .steam = true) :
    Within f s (genFaultCore k t) ↔ Within f s t := (genFaultCore_within k t).pass cov

/-! ## Descale controller -/

theorem enterPhase_within (x : ProcPhase) (s : State) : Within { proc := true, store := true, attention := true } s (enterPhase x s) := by
  unfold enterPhase
  try dsimp only
  first
    | (simp (decide := true); done)
    | ((repeat' split) <;> (simp (decide := true); done))

@[simp] theorem within_enterPhase (x : ProcPhase) {f : Parts} {s t : State} (cov : f.covers { proc := true, store := true, attention := true } = true) :
    Within f s (enterPhase x t) ↔ Within f s t := (enterPhase_within x t).pass cov

theorem enterIdle_within (k : ProcKind) (x : Outcome) (s : State) : Within { proc := true, store := true, attention := true, freeIndex := true } s (enterIdle k x s) := by
  unfold enterIdle
  try dsimp only
  first
    | (simp (decide := true); done)
    | ((repeat' split) <;> (simp (decide := true); done))

@[simp] theorem within_enterIdle (k : ProcKind) (x : Outcome) {f : Parts} {s t : State} (cov : f.covers { proc := true, store := true, attention := true, freeIndex := true } = true) :
    Within f s (enterIdle k x t) ↔ Within f s t := (enterIdle_within k x t).pass cov

theorem giveBack_within (s : State) : Within .steam s (giveBack s) := by
  unfold giveBack
  try dsimp only
  first
    | (simp (decide := true); done)
    | ((repeat' split) <;> (simp (decide := true); done))

@[simp] theorem within_giveBack {f : Parts} {s t : State} (cov : f.covers .steam = true) :
    Within f s (giveBack t) ↔ Within f s t := (giveBack_within t).pass cov

theorem abortCore_within (r : ProcAbort) (s : State) : Within .descale s (abortCore r s) := by
  unfold abortCore
  try dsimp only
  first
    | (simp (decide := true); done)
    | ((repeat' split) <;> (simp (decide := true); done))

@[simp] theorem within_abortCore (r : ProcAbort) {f : Parts} {s t : State} (cov : f.covers .descale = true) :
    Within f s (abortCore r t) ↔ Within f s t := (abortCore_within r t).pass cov

theorem abortProcedure_within (r : ProcAbort) (s : State) : Within .descale s (abortProcedure r s) := by
  unfold abortProcedure
  try dsimp only
  first
    | (simp (decide := true); done)
    | ((repeat' split) <;> (simp (decide := true); done))

@[simp] theorem within_abortProcedure (r : ProcAbort) {f : Parts} {s t : State} (cov : f.covers .descale = true) :
    Within f s (abortProcedure r t) ↔ Within f s t := (abortProcedure_within r t).pass cov

theorem genFault_within (k : FaultKind) (s : State) : Within .descale s (genFault k s) := by
  unfold genFault
  try dsimp only
  first
    | (simp (decide := true); done)
    | ((repeat' split) <;> (simp (decide := true); done))

@[simp] theorem within_genFault (k : FaultKind) {f : Parts} {s t : State} (cov : f.covers .descale = true) :
    Within f s (genFault k t) ↔ Within f s t := (genFault_within k t).pass cov

theorem takeOver_within (s : State) : Within .steam s (takeOver s) := by
  unfold takeOver
  try dsimp only
  first
    | (simp (decide := true); done)
    | ((repeat' split) <;> (simp (decide := true); done))

@[simp] theorem within_takeOver {f : Parts} {s t : State} (cov : f.covers .steam = true) :
    Within f s (takeOver t) ↔ Within f s t := (takeOver_within t).pass cov

theorem enterDrain_within (x : ProcPhase) (s : State) : Within .descale s (enterDrain x s) := by
  unfold enterDrain
  try dsimp only
  first
    | (simp (decide := true); done)
    | ((repeat' split) <;> (simp (decide := true); done))

@[simp] theorem within_enterDrain (x : ProcPhase) {f : Parts} {s t : State} (cov : f.covers .descale = true) :
    Within f s (enterDrain x t) ↔ Within f s t := (enterDrain_within x t).pass cov

theorem enterWaiting_within (x : ProcPhase) (s : State) : Within .descale s (enterWaiting x s) := by
  unfold enterWaiting
  try dsimp only
  first
    | (simp (decide := true); done)
    | ((repeat' split) <;> (simp (decide := true); done))

@[simp] theorem within_enterWaiting (x : ProcPhase) {f : Parts} {s t : State} (cov : f.covers .descale = true) :
    Within f s (enterWaiting x t) ↔ Within f s t := (enterWaiting_within x t).pass cov

theorem enterHeatSoak_within (s : State) : Within .descale s (enterHeatSoak s) := by
  unfold enterHeatSoak
  try dsimp only
  first
    | (simp (decide := true); done)
    | ((repeat' split) <;> (simp (decide := true); done))

@[simp] theorem within_enterHeatSoak {f : Parts} {s t : State} (cov : f.covers .descale = true) :
    Within f s (enterHeatSoak t) ↔ Within f s t := (enterHeatSoak_within t).pass cov

theorem soakCompute_within (s : State) : Within { gen := true, timers := true, arbiter := true } s (soakCompute s) := by
  unfold soakCompute
  try dsimp only
  first
    | (simp (decide := true); done)
    | ((repeat' split) <;> (simp (decide := true); done))

@[simp] theorem within_soakCompute {f : Parts} {s t : State} (cov : f.covers { gen := true, timers := true, arbiter := true } = true) :
    Within f s (soakCompute t) ↔ Within f s t := (soakCompute_within t).pass cov

theorem enterSoak_within (s : State) : Within .descale s (enterSoak s) := by
  unfold enterSoak
  try dsimp only
  first
    | (simp (decide := true); done)
    | ((repeat' split) <;> (simp (decide := true); done))

@[simp] theorem within_enterSoak {f : Parts} {s t : State} (cov : f.covers .descale = true) :
    Within f s (enterSoak t) ↔ Within f s t := (enterSoak_within t).pass cov

theorem descaleFillDone_within (s : State) : Within .descale s (descaleFillDone s) := by
  unfold descaleFillDone
  try dsimp only
  first
    | (simp (decide := true); done)
    | ((repeat' split) <;> (simp (decide := true); done))

@[simp] theorem within_descaleFillDone {f : Parts} {s t : State} (cov : f.covers .descale = true) :
    Within f s (descaleFillDone t) ↔ Within f s t := (descaleFillDone_within t).pass cov

theorem descaleStall_within (s : State) : Within .descale s (descaleStall s) := by
  unfold descaleStall
  try dsimp only
  first
    | (simp (decide := true); done)
    | ((repeat' split) <;> (simp (decide := true); done))

@[simp] theorem within_descaleStall {f : Parts} {s t : State} (cov : f.covers .descale = true) :
    Within f s (descaleStall t) ↔ Within f s t := (descaleStall_within t).pass cov

theorem enterFill_within (x : ProcPhase) (w : WaterSource) (u : Purpose) (s : State) : Within .descale s (enterFill x w u s) := by
  unfold enterFill
  try dsimp only
  first
    | (simp (decide := true); done)
    | ((repeat' split) <;> (simp (decide := true); done))

@[simp] theorem within_enterFill (x : ProcPhase) (w : WaterSource) (u : Purpose) {f : Parts} {s t : State} (cov : f.covers .descale = true) :
    Within f s (enterFill x w u t) ↔ Within f s t := (enterFill_within x w u t).pass cov

theorem enterRinse_within (s : State) : Within .descale s (enterRinse s) := by
  unfold enterRinse
  try dsimp only
  first
    | (simp (decide := true); done)
    | ((repeat' split) <;> (simp (decide := true); done))

@[simp] theorem within_enterRinse {f : Parts} {s t : State} (cov : f.covers .descale = true) :
    Within f s (enterRinse t) ↔ Within f s t := (enterRinse_within t).pass cov

theorem descaleComplete_within (s : State) : Within .descale s (descaleComplete s) := by
  unfold descaleComplete
  try dsimp only
  first
    | (simp (decide := true); done)
    | ((repeat' split) <;> (simp (decide := true); done))

@[simp] theorem within_descaleComplete {f : Parts} {s t : State} (cov : f.covers .descale = true) :
    Within f s (descaleComplete t) ↔ Within f s t := (descaleComplete_within t).pass cov

theorem rinseComplete_within (s : State) : Within .descale s (rinseComplete s) := by
  unfold rinseComplete
  try dsimp only
  first
    | (simp (decide := true); done)
    | ((repeat' split) <;> (simp (decide := true); done))

@[simp] theorem within_rinseComplete {f : Parts} {s t : State} (cov : f.covers .descale = true) :
    Within f s (rinseComplete t) ↔ Within f s t := (rinseComplete_within t).pass cov

theorem descaleDrainDone_within (s : State) : Within .descale s (descaleDrainDone s) := by
  unfold descaleDrainDone
  try dsimp only
  first
    | (simp (decide := true); done)
    | ((repeat' split) <;> (simp (decide := true); done))

@[simp] theorem within_descaleDrainDone {f : Parts} {s t : State} (cov : f.covers .descale = true) :
    Within f s (descaleDrainDone t) ↔ Within f s t := (descaleDrainDone_within t).pass cov

theorem descaleAnswered_within (s : State) : Within .descale s (descaleAnswered s) := by
  unfold descaleAnswered
  try dsimp only
  first
    | (simp (decide := true); done)
    | ((repeat' split) <;> (simp (decide := true); done))

@[simp] theorem within_descaleAnswered {f : Parts} {s t : State} (cov : f.covers .descale = true) :
    Within f s (descaleAnswered t) ↔ Within f s t := (descaleAnswered_within t).pass cov

theorem soakUpdate_within (s : State) : Within { gen := true, timers := true, arbiter := true } s (soakUpdate s) := by
  unfold soakUpdate
  try dsimp only
  first
    | (simp (decide := true); done)
    | ((repeat' split) <;> (simp (decide := true); done))

@[simp] theorem within_soakUpdate {f : Parts} {s t : State} (cov : f.covers { gen := true, timers := true, arbiter := true } = true) :
    Within f s (soakUpdate t) ↔ Within f s t := (soakUpdate_within t).pass cov

theorem soakEnd_within (s : State) : Within .descale s (soakEnd s) := by
  unfold soakEnd
  try dsimp only
  first
    | (simp (decide := true); done)
    | ((repeat' split) <;> (simp (decide := true); done))

@[simp] theorem within_soakEnd {f : Parts} {s t : State} (cov : f.covers .descale = true) :
    Within f s (soakEnd t) ↔ Within f s t := (soakEnd_within t).pass cov

/-! ## Steam events -/

theorem overfillTest_within (s : State) : Within .descale s (overfillTest s) := by
  unfold overfillTest
  try dsimp only
  first
    | (simp (decide := true); done)
    | ((repeat' split) <;> (simp (decide := true); done))

@[simp] theorem within_overfillTest {f : Parts} {s t : State} (cov : f.covers .descale = true) :
    Within f s (overfillTest t) ↔ Within f s t := (overfillTest_within t).pass cov

theorem feedWatchdog_within (s : State) : Within { gen := true } s (feedWatchdog s) := by
  unfold feedWatchdog
  try dsimp only
  first
    | (simp (decide := true); done)
    | ((repeat' split) <;> (simp (decide := true); done))

@[simp] theorem within_feedWatchdog {f : Parts} {s t : State} (cov : f.covers { gen := true } = true) :
    Within f s (feedWatchdog t) ↔ Within f s t := (feedWatchdog_within t).pass cov

theorem flowPulse_within (n : Nat) (s : State) : Within .descale s (flowPulse n s) := by
  unfold flowPulse
  try dsimp only
  first
    | (simp (decide := true); done)
    | ((repeat' split) <;> (simp (decide := true); done))

@[simp] theorem within_flowPulse (n : Nat) {f : Parts} {s t : State} (cov : f.covers .descale = true) :
    Within f s (flowPulse n t) ↔ Within f s t := (flowPulse_within n t).pass cov

theorem quietEnd_within (s : State) : Within { meter := true } s (quietEnd s) := by
  unfold quietEnd
  try dsimp only
  first
    | (simp (decide := true); done)
    | ((repeat' split) <;> (simp (decide := true); done))

@[simp] theorem within_quietEnd {f : Parts} {s t : State} (cov : f.covers { meter := true } = true) :
    Within f s (quietEnd t) ↔ Within f s t := (quietEnd_within t).pass cov

theorem fillStall_within (s : State) : Within .descale s (fillStall s) := by
  unfold fillStall
  try dsimp only
  first
    | (simp (decide := true); done)
    | ((repeat' split) <;> (simp (decide := true); done))

@[simp] theorem within_fillStall {f : Parts} {s t : State} (cov : f.covers .descale = true) :
    Within f s (fillStall t) ↔ Within f s t := (fillStall_within t).pass cov

theorem watchdogStall_within (s : State) : Within .descale s (watchdogStall s) := by
  unfold watchdogStall
  try dsimp only
  first
    | (simp (decide := true); done)
    | ((repeat' split) <;> (simp (decide := true); done))

@[simp] theorem within_watchdogStall {f : Parts} {s t : State} (cov : f.covers .descale = true) :
    Within f s (watchdogStall t) ↔ Within f s t := (watchdogStall_within t).pass cov

theorem tankRemovedAtGen_within (s : State) : Within .descale s (tankRemovedAtGen s) := by
  unfold tankRemovedAtGen
  try dsimp only
  first
    | (simp (decide := true); done)
    | ((repeat' split) <;> (simp (decide := true); done))

@[simp] theorem within_tankRemovedAtGen {f : Parts} {s t : State} (cov : f.covers .descale = true) :
    Within f s (tankRemovedAtGen t) ↔ Within f s t := (tankRemovedAtGen_within t).pass cov

theorem highWet_within (s : State) : Within .descale s (highWet s) := by
  unfold highWet
  try dsimp only
  first
    | (simp (decide := true); done)
    | ((repeat' split) <;> (simp (decide := true); done))

@[simp] theorem within_highWet {f : Parts} {s t : State} (cov : f.covers .descale = true) :
    Within f s (highWet t) ↔ Within f s t := (highWet_within t).pass cov

theorem dryHigh_within (b : Bool) (s : State) : Within { gen := true } s (dryHigh b s) := by
  unfold dryHigh
  try dsimp only
  first
    | (simp (decide := true); done)
    | ((repeat' split) <;> (simp (decide := true); done))

@[simp] theorem within_dryHigh (b : Bool) {f : Parts} {s t : State} (cov : f.covers { gen := true } = true) :
    Within f s (dryHigh b t) ↔ Within f s t := (dryHigh_within b t).pass cov

theorem levelLowDry_within (b : Bool) (s : State) : Within .steam s (levelLowDry b s) := by
  unfold levelLowDry
  try dsimp only
  first
    | (simp (decide := true); done)
    | ((repeat' split) <;> (simp (decide := true); done))

@[simp] theorem within_levelLowDry (b : Bool) {f : Parts} {s t : State} (cov : f.covers .steam = true) :
    Within f s (levelLowDry b t) ↔ Within f s t := (levelLowDry_within b t).pass cov

theorem levelLowWets_within (b : Bool) (s : State) : Within { gen := true } s (levelLowWets b s) := by
  unfold levelLowWets
  try dsimp only
  first
    | (simp (decide := true); done)
    | ((repeat' split) <;> (simp (decide := true); done))

@[simp] theorem within_levelLowWets (b : Bool) {f : Parts} {s t : State} (cov : f.covers { gen := true } = true) :
    Within f s (levelLowWets b t) ↔ Within f s t := (levelLowWets_within b t).pass cov

theorem idleDrain_within (s : State) : Within .steam s (idleDrain s) := by
  unfold idleDrain
  try dsimp only
  first
    | (simp (decide := true); done)
    | ((repeat' split) <;> (simp (decide := true); done))

@[simp] theorem within_idleDrain {f : Parts} {s t : State} (cov : f.covers .steam = true) :
    Within f s (idleDrain t) ↔ Within f s t := (idleDrain_within t).pass cov

theorem drainComplete_within (s : State) : Within .descale s (drainComplete s) := by
  unfold drainComplete
  try dsimp only
  first
    | (simp (decide := true); done)
    | ((repeat' split) <;> (simp (decide := true); done))

@[simp] theorem within_drainComplete {f : Parts} {s t : State} (cov : f.covers .descale = true) :
    Within f s (drainComplete t) ↔ Within f s t := (drainComplete_within t).pass cov

theorem drainFail_within (s : State) : Within .descale s (drainFail s) := by
  unfold drainFail
  try dsimp only
  first
    | (simp (decide := true); done)
    | ((repeat' split) <;> (simp (decide := true); done))

@[simp] theorem within_drainFail {f : Parts} {s t : State} (cov : f.covers .descale = true) :
    Within f s (drainFail t) ↔ Within f s t := (drainFail_within t).pass cov

theorem heatSlow_within (s : State) : Within .steam s (heatSlow s) := by
  unfold heatSlow
  try dsimp only
  first
    | (simp (decide := true); done)
    | ((repeat' split) <;> (simp (decide := true); done))

@[simp] theorem within_heatSlow {f : Parts} {s t : State} (cov : f.covers .steam = true) :
    Within f s (heatSlow t) ↔ Within f s t := (heatSlow_within t).pass cov

theorem genSample_within (n : Nat) (s : State) : Within .descale s (genSample n s) := by
  unfold genSample
  try dsimp only
  first
    | (simp (decide := true); done)
    | ((repeat' split) <;> (simp (decide := true); done))

@[simp] theorem within_genSample (n : Nat) {f : Parts} {s t : State} (cov : f.covers .descale = true) :
    Within f s (genSample n t) ↔ Within f s t := (genSample_within n t).pass cov

/-! ## Step queues -/

theorem append_within (c : Cavity) (r : Record) (s : State) : Within .queue s (append c r s) := by
  unfold append
  try dsimp only
  first
    | (simp (decide := true); done)
    | ((repeat' split) <;> (simp (decide := true); done))

@[simp] theorem within_append (c : Cavity) (r : Record) {f : Parts} {s t : State} (cov : f.covers .queue = true) :
    Within f s (append c r t) ↔ Within f s t := (append_within c r t).pass cov

theorem close_within (c : Cavity) (s : State) : Within .queue s (close c s) := by
  unfold close
  try dsimp only
  first
    | (simp (decide := true); done)
    | ((repeat' split) <;> (simp (decide := true); done))

@[simp] theorem within_close (c : Cavity) {f : Parts} {s t : State} (cov : f.covers .queue = true) :
    Within f s (close c t) ↔ Within f s t := (close_within c t).pass cov

theorem copyOne_within (c : Cavity) (i : Nat) (s : State) : Within .queue s (copyOne c i s) := by
  unfold copyOne
  try dsimp only
  first
    | (simp (decide := true); done)
    | ((repeat' split) <;> (simp (decide := true); done))

@[simp] theorem within_copyOne (c : Cavity) (i : Nat) {f : Parts} {s t : State} (cov : f.covers .queue = true) :
    Within f s (copyOne c i t) ↔ Within f s t := (copyOne_within c i t).pass cov

theorem copyWhile_within (k : Nat) (b : Bool) (c : Cavity) (s : State) : Within .queue s (copyWhile k b c s) := by
  induction k generalizing s with
  | zero => exact Within.refl _ _
  | succ k ih =>
    unfold copyWhile
    split
    · exact Within.refl _ _
    · (repeat' split) <;> first | exact Within.refl _ _ | exact (copyOne_within _ _ _).trans (ih _)

@[simp] theorem within_copyWhile (k : Nat) (b : Bool) (c : Cavity) {f : Parts} {s t : State} (cov : f.covers .queue = true) :
    Within f s (copyWhile k b c t) ↔ Within f s t := (copyWhile_within k b c t).pass cov

theorem noteOutstanding_within (c : Cavity) (s : State) : Within .queue s (noteOutstanding c s) := by
  unfold noteOutstanding
  try dsimp only
  first
    | (simp (decide := true); done)
    | ((repeat' split) <;> (simp (decide := true); done))

@[simp] theorem within_noteOutstanding (c : Cavity) {f : Parts} {s t : State} (cov : f.covers .queue = true) :
    Within f s (noteOutstanding c t) ↔ Within f s t := (noteOutstanding_within c t).pass cov

theorem readerRefill_within (c : Cavity) (s : State) : Within .queue s (readerRefill c s) := by
  unfold readerRefill
  try dsimp only
  first
    | (simp (decide := true); done)
    | ((repeat' split) <;> (simp (decide := true); done))

@[simp] theorem within_readerRefill (c : Cavity) {f : Parts} {s t : State} (cov : f.covers .queue = true) :
    Within f s (readerRefill c t) ↔ Within f s t := (readerRefill_within c t).pass cov

theorem readerAgain_within (c : Cavity) (s : State) : Within .queue s (readerAgain c s) := by
  unfold readerAgain
  try dsimp only
  first
    | (simp (decide := true); done)
    | ((repeat' split) <;> (simp (decide := true); done))

@[simp] theorem within_readerAgain (c : Cavity) {f : Parts} {s t : State} (cov : f.covers .queue = true) :
    Within f s (readerAgain c t) ↔ Within f s t := (readerAgain_within c t).pass cov

theorem requestRefill_within (c : Cavity) (s : State) : Within .queue s (requestRefill c s) := by
  unfold requestRefill
  try dsimp only
  first
    | (simp (decide := true); done)
    | ((repeat' split) <;> (simp (decide := true); done))

@[simp] theorem within_requestRefill (c : Cavity) {f : Parts} {s t : State} (cov : f.covers .queue = true) :
    Within f s (requestRefill c t) ↔ Within f s t := (requestRefill_within c t).pass cov

theorem afterChange_within (c : Cavity) (n : Nat) (s : State) : Within .queue s (afterChange c n s) := by
  unfold afterChange
  try dsimp only
  first
    | (simp (decide := true); done)
    | ((repeat' split) <;> (simp (decide := true); done))

@[simp] theorem within_afterChange (c : Cavity) (n : Nat) {f : Parts} {s t : State} (cov : f.covers .queue = true) :
    Within f s (afterChange c n t) ↔ Within f s t := (afterChange_within c n t).pass cov

theorem loseMark_within (c : Cavity) (s : State) : Within .queue s (loseMark c s) := by
  unfold loseMark
  try dsimp only
  first
    | (simp (decide := true); done)
    | ((repeat' split) <;> (simp (decide := true); done))

@[simp] theorem within_loseMark (c : Cavity) {f : Parts} {s t : State} (cov : f.covers .queue = true) :
    Within f s (loseMark c t) ↔ Within f s t := (loseMark_within c t).pass cov

theorem walk_within (k : Nat) (c : Cavity) (s : State) : Within .queue s (walk k c s).1 := by
  induction k generalizing s with
  | zero => exact Within.refl _ _
  | succ k ih =>
    unfold walk
    dsimp only
    split
    · split
      · refine Within.trans ?_ (ih _)
        simp (decide := true)
      · exact Within.refl _ _
    · split
      · simp (decide := true)
      · refine Within.trans ?_ (ih _)
        simp (decide := true)
      · refine Within.trans ?_ (ih _)
        simp only [within_afterChange (f := .queue) _ _ (by decide), within_modQueue (g := .queue) _ _ rfl]
        split <;> simp (decide := true)

@[simp] theorem within_walk (k : Nat) (c : Cavity) {f : Parts} {s t : State} (h : f.covers .queue = true) :
    Within f s (walk k c t).1 ↔ Within f s t := (walk_within k c t).pass h

theorem emptyQueue_within (c : Cavity) (s : State) : Within .queue s (emptyQueue c s) := by
  unfold emptyQueue
  try dsimp only
  first
    | (simp (decide := true); done)
    | ((repeat' split) <;> (simp (decide := true); done))

@[simp] theorem within_emptyQueue (c : Cavity) {f : Parts} {s t : State} (cov : f.covers .queue = true) :
    Within f s (emptyQueue c t) ↔ Within f s t := (emptyQueue_within c t).pass cov

/-! ## Runs -/

theorem settle_within (c : Cavity) (s : State) : Within .run s (settle c s) := by
  unfold settle
  try dsimp only
  first
    | (simp (decide := true); done)
    | ((repeat' split) <;> (simp (decide := true); done))

@[simp] theorem within_settle (c : Cavity) {f : Parts} {s t : State} (cov : f.covers .run = true) :
    Within f s (settle c t) ↔ Within f s t := (settle_within c t).pass cov

theorem coreEntry_within (c : Cavity) (s : State) : Within .run s (coreEntry c s) := by
  unfold coreEntry
  try dsimp only
  first
    | (simp (decide := true); done)
    | ((repeat' split) <;> (simp (decide := true); done))

@[simp] theorem within_coreEntry (c : Cavity) {f : Parts} {s t : State} (cov : f.covers .run = true) :
    Within f s (coreEntry c t) ↔ Within f s t := (coreEntry_within c t).pass cov

theorem enterPhases_within (c : Cavity) (x : Action) (s : State) : Within .run s (enterPhases c x s) := by
  unfold enterPhases
  try dsimp only
  first
    | (simp (decide := true); done)
    | ((repeat' split) <;> (simp (decide := true); done))

@[simp] theorem within_enterPhases (c : Cavity) (x : Action) {f : Parts} {s t : State} (cov : f.covers .run = true) :
    Within f s (enterPhases c x t) ↔ Within f s t := (enterPhases_within c x t).pass cov

theorem enterStep_within (c : Cavity) (n : Nat) (x : Action) (s : State) : Within .run s (enterStep c n x s) := by
  unfold enterStep
  try dsimp only
  first
    | (simp (decide := true); done)
    | ((repeat' split) <;> (simp (decide := true); done))

@[simp] theorem within_enterStep (c : Cavity) (n : Nat) (x : Action) {f : Parts} {s t : State} (cov : f.covers .run = true) :
    Within f s (enterStep c n x t) ↔ Within f s t := (enterStep_within c n x t).pass cov

theorem leaveEntry_within (c : Cavity) (s : State) : Within .run s (leaveEntry c s) := by
  unfold leaveEntry
  try dsimp only
  first
    | (simp (decide := true); done)
    | ((repeat' split) <;> (simp (decide := true); done))

@[simp] theorem within_leaveEntry (c : Cavity) {f : Parts} {s t : State} (cov : f.covers .run = true) :
    Within f s (leaveEntry c t) ↔ Within f s t := (leaveEntry_within c t).pass cov

theorem endRun_within (c : Cavity) (x : RunState) (r : Option AbortReason) (s : State) : Within .run s (endRun c x r s) := by
  unfold endRun
  try dsimp only
  first
    | (simp (decide := true); done)
    | ((repeat' split) <;> (simp (decide := true); done))

@[simp] theorem within_endRun (c : Cavity) (x : RunState) (r : Option AbortReason) {f : Parts} {s t : State} (cov : f.covers .run = true) :
    Within f s (endRun c x r t) ↔ Within f s t := (endRun_within c x r t).pass cov

theorem clearStepPrompts_within (c : Cavity) (s : State) : Within .table s (clearStepPrompts c s) := by
  unfold clearStepPrompts
  try dsimp only
  first
    | (simp (decide := true); done)
    | ((repeat' split) <;> (simp (decide := true); done))

@[simp] theorem within_clearStepPrompts (c : Cavity) {f : Parts} {s t : State} (cov : f.covers .table = true) :
    Within f s (clearStepPrompts c t) ↔ Within f s t := (clearStepPrompts_within c t).pass cov

theorem finish_within (c : Cavity) (s : State) : Within .run s (finish c s) := by
  unfold finish
  try dsimp only
  first
    | (simp (decide := true); done)
    | ((repeat' split) <;> (simp (decide := true); done))

@[simp] theorem within_finish (c : Cavity) {f : Parts} {s t : State} (cov : f.covers .run = true) :
    Within f s (finish c t) ↔ Within f s t := (finish_within c t).pass cov

theorem starveOverrun_within (c : Cavity) (s : State) : Within .queue s (starveOverrun c s) := by
  unfold starveOverrun
  try dsimp only
  first
    | (simp (decide := true); done)
    | ((repeat' split) <;> (simp (decide := true); done))

@[simp] theorem within_starveOverrun (c : Cavity) {f : Parts} {s t : State} (cov : f.covers .queue = true) :
    Within f s (starveOverrun c t) ↔ Within f s t := (starveOverrun_within c t).pass cov

theorem starve_within (c : Cavity) (s : State) : Within .run s (starve c s) := by
  unfold starve
  try dsimp only
  first
    | (simp (decide := true); done)
    | ((repeat' split) <;> (simp (decide := true); done))

@[simp] theorem within_starve (c : Cavity) {f : Parts} {s t : State} (cov : f.covers .run = true) :
    Within f s (starve c t) ↔ Within f s t := (starve_within c t).pass cov

theorem afterWalk_within (c : Cavity) (x : State × Option (Nat × Action)) : Within .run x.1 (afterWalk c x) := by
  unfold afterWalk
  (repeat' split) <;> simp (decide := true)

@[simp] theorem within_afterWalk (c : Cavity) {f : Parts} {s : State} {x : State × Option (Nat × Action)}
    (h : f.covers .run = true) : Within f s (afterWalk c x) ↔ Within f s x.1 := (afterWalk_within c x).pass h

theorem stepEnd_within (c : Cavity) (s : State) : Within .run s (stepEnd c s) := by
  unfold stepEnd
  try dsimp only
  first
    | (simp (decide := true); done)
    | ((repeat' split) <;> (simp (decide := true); done))

@[simp] theorem within_stepEnd (c : Cavity) {f : Parts} {s t : State} (cov : f.covers .run = true) :
    Within f s (stepEnd c t) ↔ Within f s t := (stepEnd_within c t).pass cov

theorem cancelProbePrompt_within (c : Cavity) (s : State) : Within .table s (cancelProbePrompt c s) := by
  unfold cancelProbePrompt
  try dsimp only
  first
    | (simp (decide := true); done)
    | ((repeat' split) <;> (simp (decide := true); done))

@[simp] theorem within_cancelProbePrompt (c : Cavity) {f : Parts} {s t : State} (cov : f.covers .table = true) :
    Within f s (cancelProbePrompt c t) ↔ Within f s t := (cancelProbePrompt_within c t).pass cov

theorem endCondition_within (c : Cavity) (s : State) : Within .run s (endCondition c s) := by
  unfold endCondition
  try dsimp only
  first
    | (simp (decide := true); done)
    | ((repeat' split) <;> (simp (decide := true); done))

@[simp] theorem within_endCondition (c : Cavity) {f : Parts} {s t : State} (cov : f.covers .run = true) :
    Within f s (endCondition c t) ↔ Within f s t := (endCondition_within c t).pass cov

theorem tryEnd_within (c : Cavity) (s : State) : Within .run s (tryEnd c s) := by
  unfold tryEnd
  try dsimp only
  first
    | (simp (decide := true); done)
    | ((repeat' split) <;> (simp (decide := true); done))

@[simp] theorem within_tryEnd (c : Cavity) {f : Parts} {s t : State} (cov : f.covers .run = true) :
    Within f s (tryEnd c t) ↔ Within f s t := (tryEnd_within c t).pass cov

theorem abortRun_within (c : Cavity) (r : AbortReason) (s : State) : Within .run s (abortRun c r s) := by
  unfold abortRun
  try dsimp only
  first
    | (simp (decide := true); done)
    | ((repeat' split) <;> (simp (decide := true); done))

@[simp] theorem within_abortRun (c : Cavity) (r : AbortReason) {f : Parts} {s t : State} (cov : f.covers .run = true) :
    Within f s (abortRun c r t) ↔ Within f s t := (abortRun_within c r t).pass cov

theorem abortInProgress_within (c : Cavity) (r : AbortReason) (s : State) : Within .run s (abortInProgress c r s) := by
  unfold abortInProgress
  try dsimp only
  first
    | (simp (decide := true); done)
    | ((repeat' split) <;> (simp (decide := true); done))

@[simp] theorem within_abortInProgress (c : Cavity) (r : AbortReason) {f : Parts} {s t : State} (cov : f.covers .run = true) :
    Within f s (abortInProgress c r t) ↔ Within f s t := (abortInProgress_within c r t).pass cov

theorem pause_within (c : Cavity) (r : PauseReason) (s : State) : Within { runs := true, attention := true } s (pause c r s) := by
  unfold pause
  try dsimp only
  first
    | (simp (decide := true); done)
    | ((repeat' split) <;> (simp (decide := true); done))

@[simp] theorem within_pause (c : Cavity) (r : PauseReason) {f : Parts} {s t : State} (cov : f.covers { runs := true, attention := true } = true) :
    Within f s (pause c r t) ↔ Within f s t := (pause_within c r t).pass cov

theorem takeOverlays_within (c : Cavity) (s : State) : Within { runs := true } s (takeOverlays c s) := by
  unfold takeOverlays
  try dsimp only
  first
    | (simp (decide := true); done)
    | ((repeat' split) <;> (simp (decide := true); done))

@[simp] theorem within_takeOverlays (c : Cavity) {f : Parts} {s t : State} (cov : f.covers { runs := true } = true) :
    Within f s (takeOverlays c t) ↔ Within f s t := (takeOverlays_within c t).pass cov

theorem makeDeferred_within (c : Cavity) (s : State) : Within .run s (makeDeferred c s) := by
  unfold makeDeferred
  try dsimp only
  first
    | (simp (decide := true); done)
    | ((repeat' split) <;> (simp (decide := true); done))

@[simp] theorem within_makeDeferred (c : Cavity) {f : Parts} {s t : State} (cov : f.covers .run = true) :
    Within f s (makeDeferred c t) ↔ Within f s t := (makeDeferred_within c t).pass cov

theorem feedCheck_within (c : Cavity) (s : State) : Within .run s (feedCheck c s) := by
  unfold feedCheck
  try dsimp only
  first
    | (simp (decide := true); done)
    | ((repeat' split) <;> (simp (decide := true); done))

@[simp] theorem within_feedCheck (c : Cavity) {f : Parts} {s t : State} (cov : f.covers .run = true) :
    Within f s (feedCheck c t) ↔ Within f s t := (feedCheck_within c t).pass cov

theorem resume_within (c : Cavity) (s : State) : Within .run s (resume c s) := by
  unfold resume
  try dsimp only
  first
    | (simp (decide := true); done)
    | ((repeat' split) <;> (simp (decide := true); done))

@[simp] theorem within_resume (c : Cavity) {f : Parts} {s t : State} (cov : f.covers .run = true) :
    Within f s (resume c t) ↔ Within f s t := (resume_within c t).pass cov

theorem startRefill_within (c : Cavity) (s : State) : Within .queue s (startRefill c s) := by
  unfold startRefill
  try dsimp only
  first
    | (simp (decide := true); done)
    | ((repeat' split) <;> (simp (decide := true); done))

@[simp] theorem within_startRefill (c : Cavity) {f : Parts} {s t : State} (cov : f.covers .queue = true) :
    Within f s (startRefill c t) ↔ Within f s t := (startRefill_within c t).pass cov

theorem enterRunning_within (c : Cavity) (s : State) : Within .run s (enterRunning c s) := by
  unfold enterRunning
  try dsimp only
  first
    | (simp (decide := true); done)
    | ((repeat' split) <;> (simp (decide := true); done))

@[simp] theorem within_enterRunning (c : Cavity) {f : Parts} {s t : State} (cov : f.covers .run = true) :
    Within f s (enterRunning c t) ↔ Within f s t := (enterRunning_within c t).pass cov

theorem enterDelayed_within (c : Cavity) (n : Nat) (b : Bool) (s : State) : Within { runs := true } s (enterDelayed c n b s) := by
  unfold enterDelayed
  try dsimp only
  first
    | (simp (decide := true); done)
    | ((repeat' split) <;> (simp (decide := true); done))

@[simp] theorem within_enterDelayed (c : Cavity) (n : Nat) (b : Bool) {f : Parts} {s t : State} (cov : f.covers { runs := true } = true) :
    Within f s (enterDelayed c n b t) ↔ Within f s t := (enterDelayed_within c n b t).pass cov

theorem delayEnd_within (c : Cavity) (s : State) : Within .run s (delayEnd c s) := by
  unfold delayEnd
  try dsimp only
  first
    | (simp (decide := true); done)
    | ((repeat' split) <;> (simp (decide := true); done))

@[simp] theorem within_delayEnd (c : Cavity) {f : Parts} {s t : State} (cov : f.covers .run = true) :
    Within f s (delayEnd c t) ↔ Within f s t := (delayEnd_within c t).pass cov

theorem delayExpiry_within (c : Cavity) (s : State) : Within .run s (delayExpiry c s) := by
  unfold delayExpiry
  try dsimp only
  first
    | (simp (decide := true); done)
    | ((repeat' split) <;> (simp (decide := true); done))

@[simp] theorem within_delayExpiry (c : Cavity) {f : Parts} {s t : State} (cov : f.covers .run = true) :
    Within f s (delayExpiry c t) ↔ Within f s t := (delayExpiry_within c t).pass cov

theorem stepTimeEnd_within (c : Cavity) (s : State) : Within .run s (stepTimeEnd c s) := by
  unfold stepTimeEnd
  try dsimp only
  first
    | (simp (decide := true); done)
    | ((repeat' split) <;> (simp (decide := true); done))

@[simp] theorem within_stepTimeEnd (c : Cavity) {f : Parts} {s t : State} (cov : f.covers .run = true) :
    Within f s (stepTimeEnd c t) ↔ Within f s t := (stepTimeEnd_within c t).pass cov

theorem feederEnd_within (c : Cavity) (s : State) : Within .run s (feederEnd c s) := by
  unfold feederEnd
  try dsimp only
  first
    | (simp (decide := true); done)
    | ((repeat' split) <;> (simp (decide := true); done))

@[simp] theorem within_feederEnd (c : Cavity) {f : Parts} {s t : State} (cov : f.covers .run = true) :
    Within f s (feederEnd c t) ↔ Within f s t := (feederEnd_within c t).pass cov

theorem doorTimeoutEnd_within (c : Cavity) (s : State) : Within .run s (doorTimeoutEnd c s) := by
  unfold doorTimeoutEnd
  try dsimp only
  first
    | (simp (decide := true); done)
    | ((repeat' split) <;> (simp (decide := true); done))

@[simp] theorem within_doorTimeoutEnd (c : Cavity) {f : Parts} {s t : State} (cov : f.covers .run = true) :
    Within f s (doorTimeoutEnd c t) ↔ Within f s t := (doorTimeoutEnd_within c t).pass cov

theorem recipeAnswered_within (c : Cavity) (x : Placement) (s : State) : Within .run s (recipeAnswered c x s) := by
  unfold recipeAnswered
  try dsimp only
  first
    | (simp (decide := true); done)
    | ((repeat' split) <;> (simp (decide := true); done))

@[simp] theorem within_recipeAnswered (c : Cavity) (x : Placement) {f : Parts} {s t : State} (cov : f.covers .run = true) :
    Within f s (recipeAnswered c x t) ↔ Within f s t := (recipeAnswered_within c x t).pass cov

theorem resumeForProbe_within (c : Cavity) (s : State) : Within .run s (resumeForProbe c s) := by
  unfold resumeForProbe
  try dsimp only
  first
    | (simp (decide := true); done)
    | ((repeat' split) <;> (simp (decide := true); done))

@[simp] theorem within_resumeForProbe (c : Cavity) {f : Parts} {s t : State} (cov : f.covers .run = true) :
    Within f s (resumeForProbe c t) ↔ Within f s t := (resumeForProbe_within c t).pass cov

theorem probePromptAcked_within (c : Cavity) (s : State) : Within .run s (probePromptAcked c s) := by
  unfold probePromptAcked
  try dsimp only
  first
    | (simp (decide := true); done)
    | ((repeat' split) <;> (simp (decide := true); done))

@[simp] theorem within_probePromptAcked (c : Cavity) {f : Parts} {s t : State} (cov : f.covers .run = true) :
    Within f s (probePromptAcked c t) ↔ Within f s t := (probePromptAcked_within c t).pass cov

theorem probeLost_within (c : Cavity) (s : State) : Within .run s (probeLost c s) := by
  unfold probeLost
  try dsimp only
  first
    | (simp (decide := true); done)
    | ((repeat' split) <;> (simp (decide := true); done))

@[simp] theorem within_probeLost (c : Cavity) {f : Parts} {s t : State} (cov : f.covers .run = true) :
    Within f s (probeLost c t) ↔ Within f s t := (probeLost_within c t).pass cov

theorem probeFound_within (c : Cavity) (s : State) : Within { runs := true } s (probeFound c s) := by
  unfold probeFound
  try dsimp only
  first
    | (simp (decide := true); done)
    | ((repeat' split) <;> (simp (decide := true); done))

@[simp] theorem within_probeFound (c : Cavity) {f : Parts} {s t : State} (cov : f.covers { runs := true } = true) :
    Within f s (probeFound c t) ↔ Within f s t := (probeFound_within c t).pass cov

theorem doorOverlay_within (c : Cavity) (s : State) : Within .run s (doorOverlay c s) := by
  unfold doorOverlay
  try dsimp only
  first
    | (simp (decide := true); done)
    | ((repeat' split) <;> (simp (decide := true); done))

@[simp] theorem within_doorOverlay (c : Cavity) {f : Parts} {s t : State} (cov : f.covers .run = true) :
    Within f s (doorOverlay c t) ↔ Within f s t := (doorOverlay_within c t).pass cov

theorem doorLift_within (c : Cavity) (s : State) : Within .run s (doorLift c s) := by
  unfold doorLift
  try dsimp only
  first
    | (simp (decide := true); done)
    | ((repeat' split) <;> (simp (decide := true); done))

@[simp] theorem within_doorLift (c : Cavity) {f : Parts} {s t : State} (cov : f.covers .run = true) :
    Within f s (doorLift c t) ↔ Within f s t := (doorLift_within c t).pass cov

theorem mainsOverlay_within (c : Cavity) (s : State) : Within .run s (mainsOverlay c s) := by
  unfold mainsOverlay
  try dsimp only
  first
    | (simp (decide := true); done)
    | ((repeat' split) <;> (simp (decide := true); done))

@[simp] theorem within_mainsOverlay (c : Cavity) {f : Parts} {s t : State} (cov : f.covers .run = true) :
    Within f s (mainsOverlay c t) ↔ Within f s t := (mainsOverlay_within c t).pass cov

theorem mainsLift_within (c : Cavity) (s : State) : Within .run s (mainsLift c s) := by
  unfold mainsLift
  try dsimp only
  first
    | (simp (decide := true); done)
    | ((repeat' split) <;> (simp (decide := true); done))

@[simp] theorem within_mainsLift (c : Cavity) {f : Parts} {s t : State} (cov : f.covers .run = true) :
    Within f s (mainsLift c t) ↔ Within f s t := (mainsLift_within c t).pass cov

theorem mainsAbort_within (c : Cavity) (s : State) : Within .run s (mainsAbort c s) := by
  unfold mainsAbort
  try dsimp only
  first
    | (simp (decide := true); done)
    | ((repeat' split) <;> (simp (decide := true); done))

@[simp] theorem within_mainsAbort (c : Cavity) {f : Parts} {s t : State} (cov : f.covers .run = true) :
    Within f s (mainsAbort c t) ↔ Within f s t := (mainsAbort_within c t).pass cov

theorem evalWatch_within (c : Cavity) (n : Nat) (x : WatchSource) (r : Nat) (s : State) :
    Within { climates := true, attention := true } s (evalWatch c n x r s).1 := by
  unfold evalWatch
  (repeat' split) <;> simp (decide := true)

@[simp] theorem within_evalWatch (c : Cavity) (n : Nat) (x : WatchSource) (r : Nat) {f : Parts} {s t : State}
    (h : f.covers { climates := true, attention := true } = true) :
    Within f s (evalWatch c n x r t).1 ↔ Within f s t := (evalWatch_within c n x r t).pass h

theorem watchEnd_within (c : Cavity) (x : Option WatchAction) (s : State) : Within .run s (watchEnd c x s) := by
  unfold watchEnd
  try dsimp only
  first
    | (simp (decide := true); done)
    | ((repeat' split) <;> (simp (decide := true); done))

@[simp] theorem within_watchEnd (c : Cavity) (x : Option WatchAction) {f : Parts} {s t : State} (cov : f.covers .run = true) :
    Within f s (watchEnd c x t) ↔ Within f s t := (watchEnd_within c x t).pass cov

theorem watchPause_within (c : Cavity) (x : Option WatchAction) (s : State) : Within { runs := true, attention := true } s (watchPause c x s) := by
  unfold watchPause
  try dsimp only
  first
    | (simp (decide := true); done)
    | ((repeat' split) <;> (simp (decide := true); done))

@[simp] theorem within_watchPause (c : Cavity) (x : Option WatchAction) {f : Parts} {s t : State} (cov : f.covers { runs := true, attention := true } = true) :
    Within f s (watchPause c x t) ↔ Within f s t := (watchPause_within c x t).pass cov

theorem evalWatches_within (c : Cavity) (x : WatchSource) (n : Nat) (s : State) : Within .run s (evalWatches c x n s) := by
  unfold evalWatches
  try dsimp only
  first
    | (simp (decide := true); done)
    | ((repeat' split) <;> (simp (decide := true); done))

@[simp] theorem within_evalWatches (c : Cavity) (x : WatchSource) (n : Nat) {f : Parts} {s t : State} (cov : f.covers .run = true) :
    Within f s (evalWatches c x n t) ↔ Within f s t := (evalWatches_within c x n t).pass cov

theorem coreSample_within (c : Cavity) (n : Nat) (s : State) : Within .run s (coreSample c n s) := by
  unfold coreSample
  try dsimp only
  first
    | (simp (decide := true); done)
    | ((repeat' split) <;> (simp (decide := true); done))

@[simp] theorem within_coreSample (c : Cavity) (n : Nat) {f : Parts} {s t : State} (cov : f.covers .run = true) :
    Within f s (coreSample c n t) ↔ Within f s t := (coreSample_within c n t).pass cov

theorem openWith_within (c : Cavity) (o : Opened) (s : State) : Within .queue s (openWith c o s) := by
  unfold openWith
  try dsimp only
  first
    | (simp (decide := true); done)
    | ((repeat' split) <;> (simp (decide := true); done))

@[simp] theorem within_openWith (c : Cavity) (o : Opened) {f : Parts} {s t : State} (cov : f.covers .queue = true) :
    Within f s (openWith c o t) ↔ Within f s t := (openWith_within c o t).pass cov

theorem starvedWalk_within (c : Cavity) (s : State) : Within .run s (starvedWalk c s) := by
  unfold starvedWalk
  try dsimp only
  first
    | (simp (decide := true); done)
    | ((repeat' split) <;> (simp (decide := true); done))

@[simp] theorem within_starvedWalk (c : Cavity) {f : Parts} {s t : State} (cov : f.covers .run = true) :
    Within f s (starvedWalk c t) ↔ Within f s t := (starvedWalk_within c t).pass cov

theorem toIdle_within (c : Cavity) (s : State) : Within { runs := true } s (toIdle c s) := by
  unfold toIdle
  try dsimp only
  first
    | (simp (decide := true); done)
    | ((repeat' split) <;> (simp (decide := true); done))

@[simp] theorem within_toIdle (c : Cavity) {f : Parts} {s t : State} (cov : f.covers { runs := true } = true) :
    Within f s (toIdle c t) ↔ Within f s t := (toIdle_within c t).pass cov

theorem adopt_within (p old : Port) (c : Cavity) (s : State) : Within .queue s (adopt p old c s) := by
  unfold adopt
  try dsimp only
  first
    | (simp (decide := true); done)
    | ((repeat' split) <;> (simp (decide := true); done))

@[simp] theorem within_adopt (p old : Port) (c : Cavity) {f : Parts} {s t : State} (cov : f.covers .queue = true) :
    Within f s (adopt p old c t) ↔ Within f s t := (adopt_within p old c t).pass cov

theorem skipEffect_within (c : Cavity) (s : State) : Within .run s (skipEffect c s) := by
  unfold skipEffect
  try dsimp only
  first
    | (simp (decide := true); done)
    | ((repeat' split) <;> (simp (decide := true); done))

@[simp] theorem within_skipEffect (c : Cavity) {f : Parts} {s t : State} (cov : f.covers .run = true) :
    Within f s (skipEffect c t) ↔ Within f s t := (skipEffect_within c t).pass cov

theorem adjust_within (c : Cavity) (x : Adjustment) (s : State) : Within .run s (adjust c x s) := by
  unfold adjust
  try dsimp only
  first
    | (simp (decide := true); done)
    | ((repeat' split) <;> (simp (decide := true); done))

@[simp] theorem within_adjust (c : Cavity) (x : Adjustment) {f : Parts} {s t : State} (cov : f.covers .run = true) :
    Within f s (adjust c x t) ↔ Within f s t := (adjust_within c x t).pass cov

/-! ## Prompt answers -/

theorem reportAnswer_within (o : Owner) (e : Prompt) (s : State) : Within Parts.answer s (reportAnswer o e s) := by
  unfold reportAnswer
  try dsimp only
  first
    | (simp (decide := true); done)
    | ((repeat' split) <;> (simp (decide := true); done))

@[simp] theorem within_reportAnswer (o : Owner) (e : Prompt) {f : Parts} {s t : State} (cov : f.covers Parts.answer = true) :
    Within f s (reportAnswer o e t) ↔ Within f s t := (reportAnswer_within o e t).pass cov

theorem answerPrompt_within (o : Owner) (r : ClearReason) (s : State) : Within Parts.answer s (answerPrompt o r s) := by
  unfold answerPrompt
  try dsimp only
  first
    | (simp (decide := true); done)
    | ((repeat' split) <;> (simp (decide := true); done))

@[simp] theorem within_answerPrompt (o : Owner) (r : ClearReason) {f : Parts} {s t : State} (cov : f.covers Parts.answer = true) :
    Within f s (answerPrompt o r t) ↔ Within f s t := (answerPrompt_within o r t).pass cov

theorem ackEntry_within (o : Owner) (e : Prompt) (p : Port) (s : State) : Within Parts.answer s (ackEntry o e p s) := by
  unfold ackEntry
  try dsimp only
  first
    | (simp (decide := true); done)
    | ((repeat' split) <;> (simp (decide := true); done))

@[simp] theorem within_ackEntry (o : Owner) (e : Prompt) (p : Port) {f : Parts} {s t : State} (cov : f.covers Parts.answer = true) :
    Within f s (ackEntry o e p t) ↔ Within f s t := (ackEntry_within o e p t).pass cov

theorem doorOpenPrompt_within (c : Cavity) (s : State) : Within .table s (doorOpenPrompt c s) := by
  unfold doorOpenPrompt
  try dsimp only
  first
    | (simp (decide := true); done)
    | ((repeat' split) <;> (simp (decide := true); done))

@[simp] theorem within_doorOpenPrompt (c : Cavity) {f : Parts} {s t : State} (cov : f.covers .table = true) :
    Within f s (doorOpenPrompt c t) ↔ Within f s t := (doorOpenPrompt_within c t).pass cov

theorem doorClosePrompt_within (c : Cavity) (s : State) : Within Parts.answer s (doorClosePrompt c s) := by
  unfold doorClosePrompt
  try dsimp only
  first
    | (simp (decide := true); done)
    | ((repeat' split) <;> (simp (decide := true); done))

@[simp] theorem within_doorClosePrompt (c : Cavity) {f : Parts} {s t : State} (cov : f.covers Parts.answer = true) :
    Within f s (doorClosePrompt c t) ↔ Within f s t := (doorClosePrompt_within c t).pass cov

theorem tankMark_within (o : Owner) (s : State) : Within .table s (tankMark o s) := by
  unfold tankMark
  try dsimp only
  first
    | (simp (decide := true); done)
    | ((repeat' split) <;> (simp (decide := true); done))

@[simp] theorem within_tankMark (o : Owner) {f : Parts} {s t : State} (cov : f.covers .table = true) :
    Within f s (tankMark o t) ↔ Within f s t := (tankMark_within o t).pass cov

theorem tankAnswer_within (o : Owner) (s : State) : Within Parts.answer s (tankAnswer o s) := by
  unfold tankAnswer
  try dsimp only
  first
    | (simp (decide := true); done)
    | ((repeat' split) <;> (simp (decide := true); done))

@[simp] theorem within_tankAnswer (o : Owner) {f : Parts} {s t : State} (cov : f.covers Parts.answer = true) :
    Within f s (tankAnswer o t) ↔ Within f s t := (tankAnswer_within o t).pass cov

theorem probeAnswer_within (c : Cavity) (s : State) : Within .run s (probeAnswer c s) := by
  unfold probeAnswer
  try dsimp only
  first
    | (simp (decide := true); done)
    | ((repeat' split) <;> (simp (decide := true); done))

@[simp] theorem within_probeAnswer (c : Cavity) {f : Parts} {s t : State} (cov : f.covers .run = true) :
    Within f s (probeAnswer c t) ↔ Within f s t := (probeAnswer_within c t).pass cov

theorem timeoutPause_within (o : Owner) (e : Prompt) (s : State) : Within .run s (timeoutPause o e s) := by
  unfold timeoutPause
  try dsimp only
  first
    | (simp (decide := true); done)
    | ((repeat' split) <;> (simp (decide := true); done))

@[simp] theorem within_timeoutPause (o : Owner) (e : Prompt) {f : Parts} {s t : State} (cov : f.covers .run = true) :
    Within f s (timeoutPause o e t) ↔ Within f s t := (timeoutPause_within o e t).pass cov

theorem timeoutAbort_within (o : Owner) (s : State) : Within .run s (timeoutAbort o s) := by
  unfold timeoutAbort
  try dsimp only
  first
    | (simp (decide := true); done)
    | ((repeat' split) <;> (simp (decide := true); done))

@[simp] theorem within_timeoutAbort (o : Owner) {f : Parts} {s t : State} (cov : f.covers .run = true) :
    Within f s (timeoutAbort o t) ↔ Within f s t := (timeoutAbort_within o t).pass cov

theorem promptTimeout_within (o : Owner) (s : State) : Within Parts.answer s (promptTimeout o s) := by
  unfold promptTimeout
  try dsimp only
  first
    | (simp (decide := true); done)
    | ((repeat' split) <;> (simp (decide := true); done))

@[simp] theorem within_promptTimeout (o : Owner) {f : Parts} {s t : State} (cov : f.covers Parts.answer = true) :
    Within f s (promptTimeout o t) ↔ Within f s t := (promptTimeout_within o t).pass cov

/-! ## Inputs -/

theorem deliver_within (x : Sensor) (n : Nat) (s : State) : Within Parts.answer s (deliver x n s) := by
  unfold deliver
  try dsimp only
  first
    | (simp (decide := true); done)
    | ((repeat' split) <;> (simp (decide := true); done))

@[simp] theorem within_deliver (x : Sensor) (n : Nat) {f : Parts} {s t : State} (cov : f.covers Parts.answer = true) :
    Within f s (deliver x n t) ↔ Within f s t := (deliver_within x n t).pass cov

theorem handFault_within (x : Sensor) (s : State) : Within Parts.answer s (handFault x s) := by
  unfold handFault
  try dsimp only
  first
    | (simp (decide := true); done)
    | ((repeat' split) <;> (simp (decide := true); done))

@[simp] theorem within_handFault (x : Sensor) {f : Parts} {s t : State} (cov : f.covers Parts.answer = true) :
    Within f s (handFault x t) ↔ Within f s t := (handFault_within x t).pass cov

theorem handClear_within (x : Sensor) (s : State) : Within Parts.answer s (handClear x s) := by
  unfold handClear
  try dsimp only
  first
    | (simp (decide := true); done)
    | ((repeat' split) <;> (simp (decide := true); done))

@[simp] theorem within_handClear (x : Sensor) {f : Parts} {s t : State} (cov : f.covers Parts.answer = true) :
    Within f s (handClear x t) ↔ Within f s t := (handClear_within x t).pass cov

theorem sensorSample_within (x : Sensor) (v : Sample) (s : State) : Within Parts.input s (sensorSample x v s) := by
  unfold sensorSample
  try dsimp only
  first
    | (simp (decide := true); done)
    | ((repeat' split) <;> (simp (decide := true); done))

@[simp] theorem within_sensorSample (x : Sensor) (v : Sample) {f : Parts} {s t : State} (cov : f.covers Parts.input = true) :
    Within f s (sensorSample x v t) ↔ Within f s t := (sensorSample_within x v t).pass cov

theorem probeInsertion_within (c : Cavity) (s : State) : Within Parts.input s (probeInsertion c s) := by
  unfold probeInsertion
  try dsimp only
  first
    | (simp (decide := true); done)
    | ((repeat' split) <;> (simp (decide := true); done))

@[simp] theorem within_probeInsertion (c : Cavity) {f : Parts} {s t : State} (cov : f.covers Parts.input = true) :
    Within f s (probeInsertion c t) ↔ Within f s t := (probeInsertion_within c t).pass cov

theorem probeRemoval_within (c : Cavity) (s : State) : Within Parts.input s (probeRemoval c s) := by
  unfold probeRemoval
  try dsimp only
  first
    | (simp (decide := true); done)
    | ((repeat' split) <;> (simp (decide := true); done))

@[simp] theorem within_probeRemoval (c : Cavity) {f : Parts} {s t : State} (cov : f.covers Parts.input = true) :
    Within f s (probeRemoval c t) ↔ Within f s t := (probeRemoval_within c t).pass cov

theorem doorOpen_within (c : Cavity) (s : State) : Within Parts.input s (doorOpen c s) := by
  unfold doorOpen
  try dsimp only
  first
    | (simp (decide := true); done)
    | ((repeat' split) <;> (simp (decide := true); done))

@[simp] theorem within_doorOpen (c : Cavity) {f : Parts} {s t : State} (cov : f.covers Parts.input = true) :
    Within f s (doorOpen c t) ↔ Within f s t := (doorOpen_within c t).pass cov

theorem doorClose_within (c : Cavity) (s : State) : Within Parts.input s (doorClose c s) := by
  unfold doorClose
  try dsimp only
  first
    | (simp (decide := true); done)
    | ((repeat' split) <;> (simp (decide := true); done))

@[simp] theorem within_doorClose (c : Cavity) {f : Parts} {s t : State} (cov : f.covers Parts.input = true) :
    Within f s (doorClose c t) ↔ Within f s t := (doorClose_within c t).pass cov

theorem tankRemoval_within (s : State) : Within Parts.input s (tankRemoval s) := by
  unfold tankRemoval
  try dsimp only
  first
    | (simp (decide := true); done)
    | ((repeat' split) <;> (simp (decide := true); done))

@[simp] theorem within_tankRemoval {f : Parts} {s t : State} (cov : f.covers Parts.input = true) :
    Within f s (tankRemoval t) ↔ Within f s t := (tankRemoval_within t).pass cov

theorem tankInsertion_within (s : State) : Within Parts.input s (tankInsertion s) := by
  unfold tankInsertion
  try dsimp only
  first
    | (simp (decide := true); done)
    | ((repeat' split) <;> (simp (decide := true); done))

@[simp] theorem within_tankInsertion {f : Parts} {s t : State} (cov : f.covers Parts.input = true) :
    Within f s (tankInsertion t) ↔ Within f s t := (tankInsertion_within t).pass cov

theorem limitTrip_within (c : Cavity) (s : State) : Within Parts.input s (limitTrip c s) := by
  unfold limitTrip
  split
  · exact Within.refl _ _
  · refine Within.trans (t := { s with limitActive := s.limitActive.set c true, limitLatch := s.limitLatch.set c true })
      ?_ ?_
    · simp [Within, Parts.input]
    · simp (decide := true)

@[simp] theorem within_limitTrip (c : Cavity) {f : Parts} {s t : State} (cov : f.covers Parts.input = true) :
    Within f s (limitTrip c t) ↔ Within f s t := (limitTrip_within c t).pass cov

theorem limitRelease_within (c : Cavity) (s : State) : Within Parts.input s (limitRelease c s) := by
  unfold limitRelease
  try dsimp only
  first
    | (simp (decide := true); done)
    | ((repeat' split) <;> (simp (decide := true); done))

@[simp] theorem within_limitRelease (c : Cavity) {f : Parts} {s t : State} (cov : f.covers Parts.input = true) :
    Within f s (limitRelease c t) ↔ Within f s t := (limitRelease_within c t).pass cov

theorem mainsLow_within (s : State) : Within Parts.input s (mainsLow s) := by
  unfold mainsLow
  try dsimp only
  first
    | (simp (decide := true); done)
    | ((repeat' split) <;> (simp (decide := true); done))

@[simp] theorem within_mainsLow {f : Parts} {s t : State} (cov : f.covers Parts.input = true) :
    Within f s (mainsLow t) ↔ Within f s t := (mainsLow_within t).pass cov

theorem mainsBack_within (s : State) : Within Parts.input s (mainsBack s) := by
  unfold mainsBack
  try dsimp only
  first
    | (simp (decide := true); done)
    | ((repeat' split) <;> (simp (decide := true); done))

@[simp] theorem within_mainsBack {f : Parts} {s t : State} (cov : f.covers Parts.input = true) :
    Within f s (mainsBack t) ↔ Within f s t := (mainsBack_within t).pass cov

theorem mainsAbortProcedure_within (s : State) : Within .descale s (mainsAbortProcedure s) := by
  unfold mainsAbortProcedure
  try dsimp only
  first
    | (simp (decide := true); done)
    | ((repeat' split) <;> (simp (decide := true); done))

@[simp] theorem within_mainsAbortProcedure {f : Parts} {s t : State} (cov : f.covers .descale = true) :
    Within f s (mainsAbortProcedure t) ↔ Within f s t := (mainsAbortProcedure_within t).pass cov

theorem mainsLowExpiry_within (s : State) : Within Parts.input s (mainsLowExpiry s) := by
  unfold mainsLowExpiry
  try dsimp only
  first
    | (simp (decide := true); done)
    | ((repeat' split) <;> (simp (decide := true); done))

@[simp] theorem within_mainsLowExpiry {f : Parts} {s t : State} (cov : f.covers Parts.input = true) :
    Within f s (mainsLowExpiry t) ↔ Within f s t := (mainsLowExpiry_within t).pass cov

/-! ## Store -/

theorem discardStaging_within (s : State) : Within { staging := true } s (discardStaging s) := by
  unfold discardStaging
  try dsimp only
  first
    | (simp (decide := true); done)
    | ((repeat' split) <;> (simp (decide := true); done))

@[simp] theorem within_discardStaging {f : Parts} {s t : State} (cov : f.covers { staging := true } = true) :
    Within f s (discardStaging t) ↔ Within f s t := (discardStaging_within t).pass cov

theorem install_within (n : Nat) (x : Option Program) (s : State) : Within { store := true } s (install n x s) := by
  unfold install
  try dsimp only
  first
    | (simp (decide := true); done)
    | ((repeat' split) <;> (simp (decide := true); done))

@[simp] theorem within_install (n : Nat) (x : Option Program) {f : Parts} {s t : State} (cov : f.covers { store := true } = true) :
    Within f s (install n x t) ↔ Within f s t := (install_within n x t).pass cov

theorem completeWrite_within (e : WriteEntry) (b : Bool) (s : State) : Within Parts.write s (completeWrite e b s) := by
  unfold completeWrite
  try dsimp only
  first
    | (simp (decide := true); done)
    | ((repeat' split) <;> (simp (decide := true); done))

@[simp] theorem within_completeWrite (e : WriteEntry) (b : Bool) {f : Parts} {s t : State} (cov : f.covers Parts.write = true) :
    Within f s (completeWrite e b t) ↔ Within f s t := (completeWrite_within e b t).pass cov

theorem storeWriteComplete_within (b : Bool) (s : State) : Within Parts.write s (storeWriteComplete b s) := by
  unfold storeWriteComplete
  try dsimp only
  first
    | (simp (decide := true); done)
    | ((repeat' split) <;> (simp (decide := true); done))

@[simp] theorem within_storeWriteComplete (b : Bool) {f : Parts} {s t : State} (cov : f.covers Parts.write = true) :
    Within f s (storeWriteComplete b t) ↔ Within f s t := (storeWriteComplete_within b t).pass cov

/-! ## Settings -/

theorem doorTimeoutCheck_within (c : Cavity) (s : State) : Within .run s (doorTimeoutCheck c s) := by
  unfold doorTimeoutCheck
  try dsimp only
  first
    | (simp (decide := true); done)
    | ((repeat' split) <;> (simp (decide := true); done))

@[simp] theorem within_doorTimeoutCheck (c : Cavity) {f : Parts} {s t : State} (cov : f.covers .run = true) :
    Within f s (doorTimeoutCheck c t) ↔ Within f s t := (doorTimeoutCheck_within c t).pass cov

theorem feedTimeoutCheck_within (c : Cavity) (s : State) : Within .run s (feedTimeoutCheck c s) := by
  unfold feedTimeoutCheck
  try dsimp only
  first
    | (simp (decide := true); done)
    | ((repeat' split) <;> (simp (decide := true); done))

@[simp] theorem within_feedTimeoutCheck (c : Cavity) {f : Parts} {s t : State} (cov : f.covers .run = true) :
    Within f s (feedTimeoutCheck c t) ↔ Within f s t := (feedTimeoutCheck_within c t).pass cov

theorem idleDrainCheck_within (s : State) : Within .steam s (idleDrainCheck s) := by
  unfold idleDrainCheck
  try dsimp only
  first
    | (simp (decide := true); done)
    | ((repeat' split) <;> (simp (decide := true); done))

@[simp] theorem within_idleDrainCheck {f : Parts} {s t : State} (cov : f.covers .steam = true) :
    Within f s (idleDrainCheck t) ↔ Within f s t := (idleDrainCheck_within t).pass cov

theorem soakTimeCheck_within (s : State) : Within .descale s (soakTimeCheck s) := by
  unfold soakTimeCheck
  try dsimp only
  first
    | (simp (decide := true); done)
    | ((repeat' split) <;> (simp (decide := true); done))

@[simp] theorem within_soakTimeCheck {f : Parts} {s t : State} (cov : f.covers .descale = true) :
    Within f s (soakTimeCheck t) ↔ Within f s t := (soakTimeCheck_within t).pass cov

theorem settingConsequence_within (x : SettingId) (s : State) : Within Parts.answer s (settingConsequence x s) := by
  unfold settingConsequence
  try dsimp only
  first
    | (simp (decide := true); done)
    | ((repeat' split) <;> (simp (decide := true); done))

@[simp] theorem within_settingConsequence (x : SettingId) {f : Parts} {s t : State} (cov : f.covers Parts.answer = true) :
    Within f s (settingConsequence x t) ↔ Within f s t := (settingConsequence_within x t).pass cov

/-! ## Ports and holds -/

theorem freeHold_within (h : HoldObject) (s : State) : Within { holds := true, staging := true } s (freeHold h s) := by
  unfold freeHold
  try dsimp only
  first
    | (simp (decide := true); done)
    | ((repeat' split) <;> (simp (decide := true); done))

@[simp] theorem within_freeHold (h : HoldObject) {f : Parts} {s t : State} (cov : f.covers { holds := true, staging := true } = true) :
    Within f s (freeHold h t) ↔ Within f s t := (freeHold_within h t).pass cov

theorem holdExpiry_within (h : HoldObject) (s : State) : Within { holds := true, staging := true, attention := true } s (holdExpiry h s) := by
  unfold holdExpiry
  try dsimp only
  first
    | (simp (decide := true); done)
    | ((repeat' split) <;> (simp (decide := true); done))

@[simp] theorem within_holdExpiry (h : HoldObject) {f : Parts} {s t : State} (cov : f.covers { holds := true, staging := true, attention := true } = true) :
    Within f s (holdExpiry h t) ↔ Within f s t := (holdExpiry_within h t).pass cov

theorem freeIfHeldBy_within (p : Port) (h : HoldObject) (s : State) : Within { holds := true, staging := true } s (freeIfHeldBy p h s) := by
  unfold freeIfHeldBy
  try dsimp only
  first
    | (simp (decide := true); done)
    | ((repeat' split) <;> (simp (decide := true); done))

@[simp] theorem within_freeIfHeldBy (p : Port) (h : HoldObject) {f : Parts} {s t : State} (cov : f.covers { holds := true, staging := true } = true) :
    Within f s (freeIfHeldBy p h t) ↔ Within f s t := (freeIfHeldBy_within p h t).pass cov

theorem portReset_within (p : Port) (s : State) : Within { holds := true, staging := true, attention := true, ports := true } s (portReset p s) := by
  unfold portReset
  try dsimp only
  first
    | (simp (decide := true); done)
    | ((repeat' split) <;> (simp (decide := true); done))

@[simp] theorem within_portReset (p : Port) {f : Parts} {s t : State} (cov : f.covers { holds := true, staging := true, attention := true, ports := true } = true) :
    Within f s (portReset p t) ↔ Within f s t := (portReset_within p t).pass cov

theorem lineBreak_within (p : Port) (s : State) : Within { holds := true, staging := true, attention := true, ports := true } s (lineBreak p s) := by
  unfold lineBreak
  try dsimp only
  first
    | (simp (decide := true); done)
    | ((repeat' split) <;> (simp (decide := true); done))

@[simp] theorem within_lineBreak (p : Port) {f : Parts} {s t : State} (cov : f.covers { holds := true, staging := true, attention := true, ports := true } = true) :
    Within f s (lineBreak p t) ↔ Within f s t := (lineBreak_within p t).pass cov

theorem lineReturnToMark_within (p : Port) (s : State) : Within { ports := true } s (lineReturnToMark p s) := by
  unfold lineReturnToMark
  try dsimp only
  first
    | (simp (decide := true); done)
    | ((repeat' split) <;> (simp (decide := true); done))

@[simp] theorem within_lineReturnToMark (p : Port) {f : Parts} {s t : State} (cov : f.covers { ports := true } = true) :
    Within f s (lineReturnToMark p t) ↔ Within f s t := (lineReturnToMark_within p t).pass cov

theorem replySent_within (p : Port) (s : State) : Within { ports := true } s (replySent p s) := by
  unfold replySent
  try dsimp only
  first
    | (simp (decide := true); done)
    | ((repeat' split) <;> (simp (decide := true); done))

@[simp] theorem within_replySent (p : Port) {f : Parts} {s t : State} (cov : f.covers { ports := true } = true) :
    Within f s (replySent p t) ↔ Within f s t := (replySent_within p t).pass cov

/-! ## Time -/

theorem whenDue_within {g : Parts} (due : State → Bool) (op : State → State) (s : State)
    (h : ∀ t, Within g t (op t)) : Within g s (whenDue due op s) := by
  unfold whenDue
  split
  · exact h s
  · exact Within.refl _ _

theorem advance_within (s : State) : Within .time s (advance s) := by simp [advance, Within, Parts.time, Parts.answer, Parts.run]

theorem dueRun_within (c : Cavity) (s : State) : Within Parts.time s (dueRun c s) := by
  unfold dueRun
  refine (whenDue_within _ _ _ ?_).trans ((whenDue_within _ _ _ ?_).trans ((whenDue_within _ _ _ ?_).trans
    ((whenDue_within _ _ _ ?_).trans (whenDue_within _ _ _ ?_)))) <;> intro t <;> simp (decide := true)

@[simp] theorem within_dueRun (c : Cavity) {f : Parts} {s t : State} (cov : f.covers Parts.time = true) :
    Within f s (dueRun c t) ↔ Within f s t := (dueRun_within c t).pass cov

theorem duePrompt_within (o : Owner) (s : State) : Within Parts.time s (duePrompt o s) := by
  exact whenDue_within _ _ _ fun t => by simp (decide := true)

@[simp] theorem within_duePrompt (o : Owner) {f : Parts} {s t : State} (cov : f.covers Parts.time = true) :
    Within f s (duePrompt o t) ↔ Within f s t := (duePrompt_within o t).pass cov

theorem dueTimer_within (l : Load) (s : State) : Within Parts.time s (dueTimer l s) := by
  unfold dueTimer
  dsimp only
  split
  · refine (whenDue_within _ _ _ ?_).trans ((whenDue_within _ _ _ ?_).trans (whenDue_within _ _ _ ?_)) <;> intro t <;>
      simp (decide := true)
  · refine (whenDue_within _ _ _ ?_).trans (whenDue_within _ _ _ ?_) <;> intro t <;> simp (decide := true)
  · refine (whenDue_within _ _ _ ?_).trans (whenDue_within _ _ _ ?_) <;> intro t <;> simp (decide := true)

@[simp] theorem within_dueTimer (l : Load) {f : Parts} {s t : State} (cov : f.covers Parts.time = true) :
    Within f s (dueTimer l t) ↔ Within f s t := (dueTimer_within l t).pass cov

theorem dueTimers_within (ls : List Load) (s : State) : Within Parts.time s (dueTimers ls s) := by
  induction ls generalizing s with
  | nil => exact Within.refl _ _
  | cons l ls ih => exact (dueTimer_within l s).trans (ih _)

@[simp] theorem within_dueTimers (ls : List Load) {f : Parts} {s t : State} (cov : f.covers Parts.time = true) :
    Within f s (dueTimers ls t) ↔ Within f s t := (dueTimers_within ls t).pass cov

theorem dueGen_within (s : State) : Within Parts.time s (dueGen s) := by
  unfold dueGen
  refine (whenDue_within _ _ _ ?_).trans ((whenDue_within _ _ _ ?_).trans ((whenDue_within _ _ _ ?_).trans
    ((whenDue_within _ _ _ ?_).trans ((whenDue_within _ _ _ ?_).trans ((whenDue_within _ _ _ ?_).trans
    ((whenDue_within _ _ _ ?_).trans ((whenDue_within _ _ _ ?_).trans (whenDue_within _ _ _ ?_)))))))) <;> intro t <;>
    simp (decide := true)

@[simp] theorem within_dueGen {f : Parts} {s t : State} (cov : f.covers Parts.time = true) :
    Within f s (dueGen t) ↔ Within f s t := (dueGen_within t).pass cov

theorem dueHold_within (h : HoldObject) (s : State) : Within Parts.time s (dueHold h s) := by
  exact whenDue_within _ _ _ fun t => by simp (decide := true)

@[simp] theorem within_dueHold (h : HoldObject) {f : Parts} {s t : State} (cov : f.covers Parts.time = true) :
    Within f s (dueHold h t) ↔ Within f s t := (dueHold_within h t).pass cov

theorem mainsLowExpiry_within_time (s : State) : Within .time s (mainsLowExpiry s) := by
  unfold mainsLowExpiry
  split <;> simp (decide := true)

theorem takeDue_within (s : State) : Within Parts.time s (takeDue s) := by
  unfold takeDue
  dsimp only
  have h := whenDue_within (fun s => reached s.mains.lowTime 50) mainsLowExpiry s mainsLowExpiry_within_time
  simpa (decide := true) using h

@[simp] theorem within_takeDue {f : Parts} {s t : State} (cov : f.covers Parts.time = true) :
    Within f s (takeDue t) ↔ Within f s t := (takeDue_within t).pass cov

theorem tick_within (s : State) : Within Parts.time s (tick s) := by
  unfold tick
  split
  · exact Within.refl _ _
  · exact (advance_within s).trans (takeDue_within _)

@[simp] theorem within_tick {f : Parts} {s t : State} (cov : f.covers Parts.time = true) :
    Within f s (tick t) ↔ Within f s t := (tick_within t).pass cov

/-! ## What a block does on an order -/

theorem deny_within (x : Answer) (s : State) : Within { } s (deny x s).1 := by
  unfold deny
  try dsimp only
  try simp only [doneAfter, deny]
  first
    | (simp (decide := true); done)
    | ((repeat' split) <;> (simp (decide := true); done))

@[simp] theorem within_deny (x : Answer) {f : Parts} {s t : State} (cov : f.covers { } = true) :
    Within f s (deny x t).1 ↔ Within f s t := (deny_within x t).pass cov

theorem openRun_within (p : Port) (x y z : Byte) (c : Cavity) (s : State) : Within .queue s (openRun p x y z c s).1 := by
  unfold openRun
  try dsimp only
  try simp only [doneAfter, deny]
  first
    | (simp (decide := true); done)
    | ((repeat' split) <;> (simp (decide := true); done))

@[simp] theorem within_openRun (p : Port) (x y z : Byte) (c : Cavity) {f : Parts} {s t : State} (cov : f.covers .queue = true) :
    Within f s (openRun p x y z c t).1 ↔ Within f s t := (openRun_within p x y z c t).pass cov

theorem loadStep_within (p : Port) (x : List Byte) (c : Cavity) (s : State) : Within .run s (loadStep p x c s).1 := by
  unfold loadStep
  try dsimp only
  try simp only [doneAfter, deny]
  first
    | (simp (decide := true); done)
    | ((repeat' split) <;> (simp (decide := true); done))

@[simp] theorem within_loadStep (p : Port) (x : List Byte) (c : Cavity) {f : Parts} {s t : State} (cov : f.covers .run = true) :
    Within f s (loadStep p x c t).1 ↔ Within f s t := (loadStep_within p x c t).pass cov

theorem closeRun_within (p : Port) (c : Cavity) (s : State) : Within .run s (closeRun p c s).1 := by
  unfold closeRun
  try dsimp only
  try simp only [doneAfter, deny]
  first
    | (simp (decide := true); done)
    | ((repeat' split) <;> (simp (decide := true); done))

@[simp] theorem within_closeRun (p : Port) (c : Cavity) {f : Parts} {s t : State} (cov : f.covers .run = true) :
    Within f s (closeRun p c t).1 ↔ Within f s t := (closeRun_within p c t).pass cov

theorem startRun_within (n : Half) (c : Cavity) (s : State) : Within .run s (startRun n c s).1 := by
  unfold startRun
  try dsimp only
  try simp only [doneAfter, deny]
  first
    | (simp (decide := true); done)
    | ((repeat' split) <;> (simp (decide := true); done))

@[simp] theorem within_startRun (n : Half) (c : Cavity) {f : Parts} {s t : State} (cov : f.covers .run = true) :
    Within f s (startRun n c t).1 ↔ Within f s t := (startRun_within n c t).pass cov

theorem startLinked_within (n : Half) (s : State) : Within .run s (startLinked n s).1 := by
  unfold startLinked
  try dsimp only
  try simp only [doneAfter, deny]
  first
    | (simp (decide := true); done)
    | ((repeat' split) <;> (simp (decide := true); done))

@[simp] theorem within_startLinked (n : Half) {f : Parts} {s t : State} (cov : f.covers .run = true) :
    Within f s (startLinked n t).1 ↔ Within f s t := (startLinked_within n t).pass cov

theorem pauseRun_within (c : Cavity) (s : State) : Within .run s (pauseRun c s).1 := by
  unfold pauseRun
  try dsimp only
  try simp only [doneAfter, deny]
  first
    | (simp (decide := true); done)
    | ((repeat' split) <;> (simp (decide := true); done))

@[simp] theorem within_pauseRun (c : Cavity) {f : Parts} {s t : State} (cov : f.covers .run = true) :
    Within f s (pauseRun c t).1 ↔ Within f s t := (pauseRun_within c t).pass cov

theorem resumeRun_within (c : Cavity) (s : State) : Within .run s (resumeRun c s).1 := by
  unfold resumeRun
  try dsimp only
  try simp only [doneAfter, deny]
  first
    | (simp (decide := true); done)
    | ((repeat' split) <;> (simp (decide := true); done))

@[simp] theorem within_resumeRun (c : Cavity) {f : Parts} {s t : State} (cov : f.covers .run = true) :
    Within f s (resumeRun c t).1 ↔ Within f s t := (resumeRun_within c t).pass cov

theorem stopRun_within (c : Cavity) (s : State) : Within .run s (stopRun c s).1 := by
  unfold stopRun
  try dsimp only
  try simp only [doneAfter, deny]
  first
    | (simp (decide := true); done)
    | ((repeat' split) <;> (simp (decide := true); done))

@[simp] theorem within_stopRun (c : Cavity) {f : Parts} {s t : State} (cov : f.covers .run = true) :
    Within f s (stopRun c t).1 ↔ Within f s t := (stopRun_within c t).pass cov

theorem clearRun_within (c : Cavity) (s : State) : Within { runs := true } s (clearRun c s).1 := by
  unfold clearRun
  try dsimp only
  try simp only [doneAfter, deny]
  first
    | (simp (decide := true); done)
    | ((repeat' split) <;> (simp (decide := true); done))

@[simp] theorem within_clearRun (c : Cavity) {f : Parts} {s t : State} (cov : f.covers { runs := true } = true) :
    Within f s (clearRun c t).1 ↔ Within f s t := (clearRun_within c t).pass cov

theorem adoptRun_within (p : Port) (c : Cavity) (s : State) : Within .queue s (adoptRun p c s).1 := by
  unfold adoptRun
  try dsimp only
  try simp only [doneAfter, deny]
  first
    | (simp (decide := true); done)
    | ((repeat' split) <;> (simp (decide := true); done))

@[simp] theorem within_adoptRun (p : Port) (c : Cavity) {f : Parts} {s t : State} (cov : f.covers .queue = true) :
    Within f s (adoptRun p c t).1 ↔ Within f s t := (adoptRun_within p c t).pass cov

theorem skipStep_within (c : Cavity) (s : State) : Within .run s (skipStep c s).1 := by
  unfold skipStep
  try dsimp only
  try simp only [doneAfter, deny]
  first
    | (simp (decide := true); done)
    | ((repeat' split) <;> (simp (decide := true); done))

@[simp] theorem within_skipStep (c : Cavity) {f : Parts} {s t : State} (cov : f.covers .run = true) :
    Within f s (skipStep c t).1 ↔ Within f s t := (skipStep_within c t).pass cov

theorem adjustStep_within (x y : Byte) (n : Half) (z : Byte) (c : Cavity) (s : State) : Within .run s (adjustStep x y n z c s).1 := by
  unfold adjustStep
  try dsimp only
  try simp only [doneAfter, deny]
  first
    | (simp (decide := true); done)
    | ((repeat' split) <;> (simp (decide := true); done))

@[simp] theorem within_adjustStep (x y : Byte) (n : Half) (z : Byte) (c : Cavity) {f : Parts} {s t : State} (cov : f.covers .run = true) :
    Within f s (adjustStep x y n z c t).1 ↔ Within f s t := (adjustStep_within x y n z c t).pass cov

theorem setWatch_within (x y z : Byte) (n : Half) (w : Byte) (c : Cavity) (s : State) : Within { climates := true } s (setWatch x y z n w c s).1 := by
  unfold setWatch
  try dsimp only
  try simp only [doneAfter, deny]
  first
    | (simp (decide := true); done)
    | ((repeat' split) <;> (simp (decide := true); done))

@[simp] theorem within_setWatch (x y z : Byte) (n : Half) (w : Byte) (c : Cavity) {f : Parts} {s t : State} (cov : f.covers { climates := true } = true) :
    Within f s (setWatch x y z n w c t).1 ↔ Within f s t := (setWatch_within x y z n w c t).pass cov

theorem clearWatch_within (x : Byte) (c : Cavity) (s : State) : Within { climates := true } s (clearWatch x c s).1 := by
  unfold clearWatch
  try dsimp only
  try simp only [doneAfter, deny]
  first
    | (simp (decide := true); done)
    | ((repeat' split) <;> (simp (decide := true); done))

@[simp] theorem within_clearWatch (x : Byte) (c : Cavity) {f : Parts} {s t : State} (cov : f.covers { climates := true } = true) :
    Within f s (clearWatch x c t).1 ↔ Within f s t := (clearWatch_within x c t).pass cov

theorem readRun_within (c : Cavity) (s : State) : Within { } s (readRun c s).1 := by
  unfold readRun
  try dsimp only
  try simp only [doneAfter, deny]
  first
    | (simp (decide := true); done)
    | ((repeat' split) <;> (simp (decide := true); done))

@[simp] theorem within_readRun (c : Cavity) {f : Parts} {s t : State} (cov : f.covers { } = true) :
    Within f s (readRun c t).1 ↔ Within f s t := (readRun_within c t).pass cov

theorem readLoads_within (s : State) : Within { } s (readLoads s).1 := by
  unfold readLoads
  try dsimp only
  try simp only [doneAfter, deny]
  first
    | (simp (decide := true); done)
    | ((repeat' split) <;> (simp (decide := true); done))

@[simp] theorem within_readLoads {f : Parts} {s t : State} (cov : f.covers { } = true) :
    Within f s (readLoads t).1 ↔ Within f s t := (readLoads_within t).pass cov

theorem ackPrompt_within (p : Port) (n : Half) (s : State) : Within Parts.answer s (ackPrompt p n s).1 := by
  unfold ackPrompt
  try dsimp only
  try simp only [doneAfter, deny]
  first
    | (simp (decide := true); done)
    | ((repeat' split) <;> (simp (decide := true); done))

@[simp] theorem within_ackPrompt (p : Port) (n : Half) {f : Parts} {s t : State} (cov : f.covers Parts.answer = true) :
    Within f s (ackPrompt p n t).1 ↔ Within f s t := (ackPrompt_within p n t).pass cov

theorem readPrompts_within (s : State) : Within { } s (readPrompts s).1 := by
  unfold readPrompts
  try dsimp only
  try simp only [doneAfter, deny]
  first
    | (simp (decide := true); done)
    | ((repeat' split) <;> (simp (decide := true); done))

@[simp] theorem within_readPrompts {f : Parts} {s t : State} (cov : f.covers { } = true) :
    Within f s (readPrompts t).1 ↔ Within f s t := (readPrompts_within t).pass cov

theorem takeFor_within (p : Port) (h : HoldObject) (s : State) : Within { holds := true } s (takeFor p h s).1 := by
  unfold takeFor
  try dsimp only
  try simp only [doneAfter, deny]
  first
    | (simp (decide := true); done)
    | ((repeat' split) <;> (simp (decide := true); done))

@[simp] theorem within_takeFor (p : Port) (h : HoldObject) {f : Parts} {s t : State} (cov : f.covers { holds := true } = true) :
    Within f s (takeFor p h t).1 ↔ Within f s t := (takeFor_within p h t).pass cov

theorem takeHold_within (p : Port) (x : Byte) (s : State) : Within { holds := true } s (takeHold p x s).1 := by
  unfold takeHold
  try dsimp only
  try simp only [doneAfter, deny]
  first
    | (simp (decide := true); done)
    | ((repeat' split) <;> (simp (decide := true); done))

@[simp] theorem within_takeHold (p : Port) (x : Byte) {f : Parts} {s t : State} (cov : f.covers { holds := true } = true) :
    Within f s (takeHold p x t).1 ↔ Within f s t := (takeHold_within p x t).pass cov

theorem releaseHold_within (p : Port) (x : Byte) (s : State) : Within { holds := true, staging := true } s (releaseHold p x s).1 := by
  unfold releaseHold
  try dsimp only
  try simp only [doneAfter, deny]
  first
    | (simp (decide := true); done)
    | ((repeat' split) <;> (simp (decide := true); done))

@[simp] theorem within_releaseHold (p : Port) (x : Byte) {f : Parts} {s t : State} (cov : f.covers { holds := true, staging := true } = true) :
    Within f s (releaseHold p x t).1 ↔ Within f s t := (releaseHold_within p x t).pass cov

theorem drainGen_within (s : State) : Within .steam s (drainGen s).1 := by
  unfold drainGen
  try dsimp only
  try simp only [doneAfter, deny]
  first
    | (simp (decide := true); done)
    | ((repeat' split) <;> (simp (decide := true); done))

@[simp] theorem within_drainGen {f : Parts} {s t : State} (cov : f.covers .steam = true) :
    Within f s (drainGen t).1 ↔ Within f s t := (drainGen_within t).pass cov

theorem genReset_within (s : State) : Within .steam s (genReset s).1 := by
  unfold genReset
  try dsimp only
  try simp only [doneAfter, deny]
  first
    | (simp (decide := true); done)
    | ((repeat' split) <;> (simp (decide := true); done))

@[simp] theorem within_genReset {f : Parts} {s t : State} (cov : f.covers .steam = true) :
    Within f s (genReset t).1 ↔ Within f s t := (genReset_within t).pass cov

theorem readGen_within (s : State) : Within { } s (readGen s).1 := by
  unfold readGen
  try dsimp only
  try simp only [doneAfter, deny]
  first
    | (simp (decide := true); done)
    | ((repeat' split) <;> (simp (decide := true); done))

@[simp] theorem within_readGen {f : Parts} {s t : State} (cov : f.covers { } = true) :
    Within f s (readGen t).1 ↔ Within f s t := (readGen_within t).pass cov

theorem readWater_within (s : State) : Within { } s (readWater s).1 := by
  unfold readWater
  try dsimp only
  try simp only [doneAfter, deny]
  first
    | (simp (decide := true); done)
    | ((repeat' split) <;> (simp (decide := true); done))

@[simp] theorem within_readWater {f : Parts} {s t : State} (cov : f.covers { } = true) :
    Within f s (readWater t).1 ↔ Within f s t := (readWater_within t).pass cov

theorem startDescale_within (s : State) : Within .descale s (startDescale s).1 := by
  unfold startDescale
  try dsimp only
  try simp only [doneAfter, deny]
  first
    | (simp (decide := true); done)
    | ((repeat' split) <;> (simp (decide := true); done))

@[simp] theorem within_startDescale {f : Parts} {s t : State} (cov : f.covers .descale = true) :
    Within f s (startDescale t).1 ↔ Within f s t := (startDescale_within t).pass cov

theorem startRinse_within (s : State) : Within .descale s (startRinse s).1 := by
  unfold startRinse
  try dsimp only
  try simp only [doneAfter, deny]
  first
    | (simp (decide := true); done)
    | ((repeat' split) <;> (simp (decide := true); done))

@[simp] theorem within_startRinse {f : Parts} {s t : State} (cov : f.covers .descale = true) :
    Within f s (startRinse t).1 ↔ Within f s t := (startRinse_within t).pass cov

theorem abortDescale_within (s : State) : Within .descale s (abortDescale s).1 := by
  unfold abortDescale
  try dsimp only
  try simp only [doneAfter, deny]
  first
    | (simp (decide := true); done)
    | ((repeat' split) <;> (simp (decide := true); done))

@[simp] theorem within_abortDescale {f : Parts} {s t : State} (cov : f.covers .descale = true) :
    Within f s (abortDescale t).1 ↔ Within f s t := (abortDescale_within t).pass cov

theorem readDescale_within (s : State) : Within { } s (readDescale s).1 := by
  unfold readDescale
  try dsimp only
  try simp only [doneAfter, deny]
  first
    | (simp (decide := true); done)
    | ((repeat' split) <;> (simp (decide := true); done))

@[simp] theorem within_readDescale {f : Parts} {s t : State} (cov : f.covers { } = true) :
    Within f s (readDescale t).1 ↔ Within f s t := (readDescale_within t).pass cov

theorem storeOpen_within (p : Port) (x : Byte) (s : State) : Within { staging := true } s (storeOpen p x s).1 := by
  unfold storeOpen
  try dsimp only
  try simp only [doneAfter, deny]
  first
    | (simp (decide := true); done)
    | ((repeat' split) <;> (simp (decide := true); done))

@[simp] theorem within_storeOpen (p : Port) (x : Byte) {f : Parts} {s t : State} (cov : f.covers { staging := true } = true) :
    Within f s (storeOpen p x t).1 ↔ Within f s t := (storeOpen_within p x t).pass cov

theorem storeLabel_within (x : List Byte) (s : State) : Within { staging := true } s (storeLabel x s).1 := by
  unfold storeLabel
  try dsimp only
  try simp only [doneAfter, deny]
  first
    | (simp (decide := true); done)
    | ((repeat' split) <;> (simp (decide := true); done))

@[simp] theorem within_storeLabel (x : List Byte) {f : Parts} {s t : State} (cov : f.covers { staging := true } = true) :
    Within f s (storeLabel x t).1 ↔ Within f s t := (storeLabel_within x t).pass cov

theorem storeStep_within (x : List Byte) (s : State) : Within { staging := true } s (storeStep x s).1 := by
  unfold storeStep
  try dsimp only
  try simp only [doneAfter, deny]
  first
    | (simp (decide := true); done)
    | ((repeat' split) <;> (simp (decide := true); done))

@[simp] theorem within_storeStep (x : List Byte) {f : Parts} {s t : State} (cov : f.covers { staging := true } = true) :
    Within f s (storeStep x t).1 ↔ Within f s t := (storeStep_within x t).pass cov

theorem storeCancel_within (s : State) : Within { staging := true } s (storeCancel s).1 := by
  unfold storeCancel
  try dsimp only
  try simp only [doneAfter, deny]
  first
    | (simp (decide := true); done)
    | ((repeat' split) <;> (simp (decide := true); done))

@[simp] theorem within_storeCancel {f : Parts} {s t : State} (cov : f.covers { staging := true } = true) :
    Within f s (storeCancel t).1 ↔ Within f s t := (storeCancel_within t).pass cov

theorem storeCommit_within (p : Port) (s : State) : Within { staging := true, store := true } s (storeCommit p s).1 := by
  unfold storeCommit
  try dsimp only
  try simp only [doneAfter, deny]
  first
    | (simp (decide := true); done)
    | ((repeat' split) <;> (simp (decide := true); done))

@[simp] theorem within_storeCommit (p : Port) {f : Parts} {s t : State} (cov : f.covers { staging := true, store := true } = true) :
    Within f s (storeCommit p t).1 ↔ Within f s t := (storeCommit_within p t).pass cov

theorem eraseProgram_within (p : Port) (x : Byte) (s : State) : Within { store := true } s (eraseProgram p x s).1 := by
  unfold eraseProgram
  try dsimp only
  try simp only [doneAfter, deny]
  first
    | (simp (decide := true); done)
    | ((repeat' split) <;> (simp (decide := true); done))

@[simp] theorem within_eraseProgram (p : Port) (x : Byte) {f : Parts} {s t : State} (cov : f.covers { store := true } = true) :
    Within f s (eraseProgram p x t).1 ↔ Within f s t := (eraseProgram_within p x t).pass cov

theorem saveSettings_within (p : Port) (s : State) : Within { store := true } s (saveSettings p s).1 := by
  unfold saveSettings
  try dsimp only
  try simp only [doneAfter, deny]
  first
    | (simp (decide := true); done)
    | ((repeat' split) <;> (simp (decide := true); done))

@[simp] theorem within_saveSettings (p : Port) {f : Parts} {s t : State} (cov : f.covers { store := true } = true) :
    Within f s (saveSettings p t).1 ↔ Within f s t := (saveSettings_within p t).pass cov

theorem readProgram_within (x y : Byte) (s : State) : Within { } s (readProgram x y s).1 := by
  unfold readProgram
  try dsimp only
  try simp only [doneAfter, deny]
  first
    | (simp (decide := true); done)
    | ((repeat' split) <;> (simp (decide := true); done))

@[simp] theorem within_readProgram (x y : Byte) {f : Parts} {s t : State} (cov : f.covers { } = true) :
    Within f s (readProgram x y t).1 ↔ Within f s t := (readProgram_within x y t).pass cov

theorem putSetting_within (x : SettingId) (v : Settings) (s : State) : Within { Parts.answer with settings := true } s (putSetting x v s).1 := by
  unfold putSetting
  try dsimp only
  try simp only [doneAfter, deny]
  first
    | (simp (decide := true); done)
    | ((repeat' split) <;> (simp (decide := true); done))

@[simp] theorem within_putSetting (x : SettingId) (v : Settings) {f : Parts} {s t : State} (cov : f.covers { Parts.answer with settings := true } = true) :
    Within f s (putSetting x v t).1 ↔ Within f s t := (putSetting_within x v t).pass cov

theorem changeSetting_within (x : SettingId) (v : List Byte) (s : State) : Within { Parts.answer with settings := true } s (changeSetting x v s).1 := by
  unfold changeSetting
  try dsimp only
  try simp only [doneAfter, deny]
  first
    | (simp (decide := true); done)
    | ((repeat' split) <;> (simp (decide := true); done))

@[simp] theorem within_changeSetting (x : SettingId) (v : List Byte) {f : Parts} {s t : State} (cov : f.covers { Parts.answer with settings := true } = true) :
    Within f s (changeSetting x v t).1 ↔ Within f s t := (changeSetting_within x v t).pass cov

theorem setParam_within (p : Port) (x : Byte) (v : List Byte) (s : State) : Within { Parts.answer with settings := true } s (setParam p x v s).1 := by
  unfold setParam
  try dsimp only
  try simp only [doneAfter, deny]
  first
    | (simp (decide := true); done)
    | ((repeat' split) <;> (simp (decide := true); done))

@[simp] theorem within_setParam (p : Port) (x : Byte) (v : List Byte) {f : Parts} {s t : State} (cov : f.covers { Parts.answer with settings := true } = true) :
    Within f s (setParam p x v t).1 ↔ Within f s t := (setParam_within p x v t).pass cov

theorem readParam_within (x : Byte) (s : State) : Within { } s (readParam x s).1 := by
  unfold readParam
  try dsimp only
  try simp only [doneAfter, deny]
  first
    | (simp (decide := true); done)
    | ((repeat' split) <;> (simp (decide := true); done))

@[simp] theorem within_readParam (x : Byte) {f : Parts} {s t : State} (cov : f.covers { } = true) :
    Within f s (readParam x t).1 ↔ Within f s t := (readParam_within x t).pass cov

theorem readSensors_within (s : State) : Within { } s (readSensors s).1 := by
  unfold readSensors
  try dsimp only
  try simp only [doneAfter, deny]
  first
    | (simp (decide := true); done)
    | ((repeat' split) <;> (simp (decide := true); done))

@[simp] theorem within_readSensors {f : Parts} {s t : State} (cov : f.covers { } = true) :
    Within f s (readSensors t).1 ↔ Within f s t := (readSensors_within t).pass cov

theorem clearLimit_within (c : Cavity) (s : State) : Within { Parts.run with limitLatch := true } s (clearLimit c s).1 := by
  unfold clearLimit
  try dsimp only
  try simp only [doneAfter, deny]
  first
    | (simp (decide := true); done)
    | ((repeat' split) <;> (simp (decide := true); done))

@[simp] theorem within_clearLimit (c : Cavity) {f : Parts} {s t : State} (cov : f.covers { Parts.run with limitLatch := true } = true) :
    Within f s (clearLimit c t).1 ↔ Within f s t := (clearLimit_within c t).pass cov

theorem readCause_within (p : Port) (s : State) : Within { attention := true } s (readCause p s).1 := by
  unfold readCause
  try dsimp only
  try simp only [doneAfter, deny]
  first
    | (simp (decide := true); done)
    | ((repeat' split) <;> (simp (decide := true); done))

@[simp] theorem within_readCause (p : Port) {f : Parts} {s t : State} (cov : f.covers { attention := true } = true) :
    Within f s (readCause p t).1 ↔ Within f s t := (readCause_within p t).pass cov

theorem setCauseMask_within (p : Port) (m : BitVec 32) (s : State) : Within { attention := true } s (setCauseMask p m s).1 := by
  unfold setCauseMask
  try dsimp only
  try simp only [doneAfter, deny]
  first
    | (simp (decide := true); done)
    | ((repeat' split) <;> (simp (decide := true); done))

@[simp] theorem within_setCauseMask (p : Port) (m : BitVec 32) {f : Parts} {s t : State} (cov : f.covers { attention := true } = true) :
    Within f s (setCauseMask p m t).1 ↔ Within f s t := (setCauseMask_within p m t).pass cov

end Sys2Proof.Machine
end

