-- ==== Sys2Proof/Laws/Attention.lean ====
section
/-! SUPPORT. The cause sets: what a posting does to a port's set and that it keeps the set as R188 gives it. -/

namespace Sys2Proof.Machine

/-- Every cause's entry has a code from 1 to 31 and the count 1 (R193). -/
theorem causeEntry_ok (x : Cause) :
    1 ≤ (causeEntry x).code ∧ (causeEntry x).code ≤ 31 ∧ (causeEntry x).count = 1 := by
  cases x <;> simp only [causeEntry] <;> (try split) <;> simp [detail]

/-- The codes after a posting are the posted code and those before. -/
theorem code_mem_addCause {e : CauseEntry} {l : List CauseEntry} {n : Nat} :
    n ∈ (addCause e l).map (·.code) ↔ n = e.code ∨ n ∈ l.map (·.code) := by
  induction l with
  | nil => simp [addCause]
  | cons x xs ih =>
    unfold addCause
    split
    · next h => simp [h]
    · split
      · simp
      · simp only [List.map_cons, List.mem_cons, ih]
        tauto

/-- A posting leaves counts between 1 and 255. -/
theorem count_addCause {e : CauseEntry} {l : List CauseEntry} (he : 1 ≤ e.count ∧ e.count ≤ 255)
    (hl : ∀ x ∈ l, 1 ≤ x.count ∧ x.count ≤ 255) : ∀ x ∈ addCause e l, 1 ≤ x.count ∧ x.count ≤ 255 := by
  induction l with
  | nil => simpa [addCause] using he
  | cons y ys ih =>
    have hy := hl y (by simp)
    have hys : ∀ x ∈ ys, 1 ≤ x.count ∧ x.count ≤ 255 := fun x hx => hl x (by simp [hx])
    unfold addCause
    split
    · intro x hx
      rcases List.mem_cons.mp hx with rfl | hx
      · dsimp only
        omega
      · exact hys x hx
    · split
      · intro x hx
        rcases List.mem_cons.mp hx with rfl | hx
        · exact he
        · exact hl x hx
      · intro x hx
        rcases List.mem_cons.mp hx with rfl | hx
        · exact hy
        · exact ih hys x hx

/-- A posting keeps the codes falling. -/
theorem addCause_pairwise {e : CauseEntry} {l : List CauseEntry} (hl : (l.map (·.code)).Pairwise (· > ·)) :
    ((addCause e l).map (·.code)).Pairwise (· > ·) := by
  induction l with
  | nil => simp [addCause]
  | cons y ys ih =>
    rw [List.map_cons, List.pairwise_cons] at hl
    unfold addCause
    split
    · next h => simpa [h] using hl
    · split
      · next h =>
        rw [List.map_cons, List.pairwise_cons, List.map_cons, List.pairwise_cons]
        refine ⟨fun n hn => ?_, hl⟩
        rcases List.mem_cons.mp hn with rfl | hn
        · exact h
        · exact Nat.lt_trans (hl.1 n hn) h
      · next h1 h2 =>
        rw [List.map_cons, List.pairwise_cons]
        refine ⟨fun n hn => ?_, ih hl.2⟩
        rcases code_mem_addCause.mp hn with rfl | hn
        · show e.code < y.code
          omega
        · exact hl.1 n hn

/-- A posting keeps a cause set as R188 gives it. -/
theorem addCause_ok {e : CauseEntry} {l : List CauseEntry} (he : 1 ≤ e.code ∧ e.code ≤ 31)
    (hc : 1 ≤ e.count ∧ e.count ≤ 255) (hl : CauseSetOk l) : CauseSetOk (addCause e l) := by
  refine ⟨addCause_pairwise hl.1, fun x hx => ?_⟩
  have hn := count_addCause hc (fun y hy => ⟨(hl.2 y hy).2.2.1, (hl.2 y hy).2.2.2⟩) x hx
  rcases code_mem_addCause.mp (List.mem_map_of_mem (f := (·.code)) hx) with h | h
  · exact ⟨h ▸ he.1, h ▸ he.2, hn⟩
  · obtain ⟨y, hy, h⟩ := List.mem_map.mp h
    exact ⟨h ▸ (hl.2 y hy).1, h ▸ (hl.2 y hy).2.1, hn⟩

/-- An offer leaves the mask. -/
@[simp] theorem offer_mask (e : CauseEntry) (a : Attention) : (offer e a).mask = a.mask := by
  unfold offer
  split <;> rfl

/-- A masked code is not added. -/
theorem offer_of_masked {e : CauseEntry} {a : Attention} (h : a.mask.getLsbD e.code = false) : offer e a = a := by
  simp [offer, h]

/-- An enabled code is added. -/
theorem offer_of_enabled {e : CauseEntry} {a : Attention} (h : a.mask.getLsbD e.code = true) :
    offer e a = { a with causes := addCause e a.causes } := by
  simp [offer, h]

/-- Offering a cause keeps a cause set as R188 gives it. -/
theorem offer_ok (x : Cause) {a : Attention} (h : CauseSetOk a.causes) : CauseSetOk (offer (causeEntry x) a).causes := by
  obtain ⟨h1, h2, h3⟩ := causeEntry_ok x
  unfold offer
  split
  · exact addCause_ok ⟨h1, h2⟩ (by omega) h
  · exact h

/-- Posting to one port keeps every cause set. -/
theorem post_ok (p : Port) (x : Cause) {s : State} (h : CausesOk s) : CausesOk (post p x s) := by
  intro j
  simp only [post, PerPort.get_set]
  split
  · exact offer_ok x (h p)
  · exact h j

/-- A broadcast keeps every cause set. -/
theorem broadcast_ok (x : Cause) {s : State} (h : CausesOk s) : CausesOk (broadcast x s) := by
  intro j
  cases j
  · exact offer_ok x (h .panel)
  · exact offer_ok x (h .link)
  · exact offer_ok x (h .service)

/-- The cause sets stay as R188 gives them where no set changes. -/
theorem CausesOk.of_same {s t : State} (h : CausesOk s) (e : t.attention = s.attention) : CausesOk t := by
  intro j
  rw [e]
  exact h j

end Sys2Proof.Machine
end

