-- ==== Sys2Proof/Laws/Orders.lean ====
section
/-! SUPPORT. The dispatcher: what a port's taking of an order does once and for all, and that an order is the taking
of a frame that carries its bytes. -/

namespace Sys2Proof.Machine

/-! ## Events and orders -/

/-- An event acts when RESET is not held. -/
theorem event_of_not_held {s : State} (f : State → State) (hs : s.resetHeld = false) : event f s = .next (f s) := by
  simp [event, hs]

/-- An event does nothing while RESET is held. -/
theorem event_of_held {s : State} (f : State → State) (hs : s.resetHeld = true) : event f s = .next s := by
  simp [event, hs]

/-- An event always has a next state. -/
theorem event_next (f : State → State) (s : State) : ∃ t, event f s = .next t := by
  unfold event
  split
  · exact ⟨_, rfl⟩
  · exact ⟨_, rfl⟩

/-- On a port that accepts, a frame is answered by what its order does. -/
theorem takeFrame_of_accepts {p : Port} {s : State} (q id : Byte) (act : Act) (ha : Accepts p s) :
    takeFrame p q id act s = replied p q id (act s).2.1 (act s).2.2 (act s).1 := by
  obtain ⟨_, hb, hp⟩ := ha
  simp [takeFrame, hb, hp, replied]

/-- On a port with a pending order and no BUSY owed, a frame is answered BUSY. -/
theorem takeFrame_of_pending {p : Port} {s : State} (q id : Byte) (act : Act) (hb : (s.ports.get p).inBreak = false)
    (hp : orderPending (s.ports.get p) = true) (ho : busyOwed (s.ports.get p) = false) :
    takeFrame p q id act s
      = pushReply p .busy { seq := q, id := id, answer := .busy, results := .none } s := by
  simp [takeFrame, hb, hp, ho]

/-- On a port with a pending order and a BUSY owed, a frame is dropped. -/
theorem takeFrame_of_owed {p : Port} {s : State} (q id : Byte) (act : Act) (hb : (s.ports.get p).inBreak = false)
    (hp : orderPending (s.ports.get p) = true) (ho : busyOwed (s.ports.get p) = true) :
    takeFrame p q id act s = s := by
  simp [takeFrame, hb, hp, ho]

/-- On a line held in space nothing is taken. -/
theorem takeFrame_in_break {p : Port} {s : State} (q id : Byte) (act : Act) (hb : (s.ports.get p).inBreak = true) :
    takeFrame p q id act s = s := by
  simp [takeFrame, hb]

/-- An order on a port that accepts (R177, R178). -/
theorem event_order_of_accepts {p : Port} {s : State} (q id : Byte) (need : Option HoldObject) (act : Act)
    (ha : Accepts p s) :
    event (order p q id need act) s
      = .next (replied p q id (withHold p need act s).2.1 (withHold p need act s).2.2 (withHold p need act s).1) := by
  rw [event_of_not_held _ ha.1, order, takeFrame_of_accepts q id _ ha]

/-- An order that names a cavity, on a port that accepts (R177, R178). -/
theorem event_cavityOrder_of_accepts {p : Port} {s : State} (q id b : Byte) (need : Cavity → Option HoldObject)
    (act : Cavity → Act) {c : Cavity} (ha : Accepts p s) (hc : cavityOf? b = some c) :
    event (cavityOrder p q id b need act) s
      = .next (replied p q id (withHold p (need c) (act c) s).2.1 (withHold p (need c) (act c) s).2.2
          (withHold p (need c) (act c) s).1) := by
  rw [event_of_not_held _ ha.1, cavityOrder, takeFrame_of_accepts q id _ ha]
  simp [cavityAct, hc]

/-- An order whose byte names no cavity is answered RANGE (R178). -/
theorem event_cavityOrder_of_no_cavity {p : Port} {s : State} (q id b : Byte) (need : Cavity → Option HoldObject)
    (act : Cavity → Act) (ha : Accepts p s) (hc : cavityOf? b = none) :
    event (cavityOrder p q id b need act) s = .next (replied p q id .range .none s) := by
  rw [event_of_not_held _ ha.1, cavityOrder, takeFrame_of_accepts q id _ ha]
  simp [cavityAct, hc, deny]

/-! ## The hold check (R178, R184) -/

@[simp] theorem withHold_none (p : Port) (act : Act) (s : State) : withHold p none act s = act s := rfl

/-- The holder's order acts, its expiry restarted. -/
theorem withHold_of_holder {p : Port} {h : HoldObject} {k : Hold} {s : State} (act : Act)
    (hk : s.holds.get h = some k) (hp : k.holder = p) :
    withHold p (some h) act s
      = act { s with holds := s.holds.set h (some { holder := p, expiry := s.settings.holdTimeout * 10 }) } := by
  simp [withHold, hk, hp, setHold, Config.second]

/-- Another port's order is answered NOT_HOLDER. -/
theorem withHold_of_other {p : Port} {h : HoldObject} {s : State} (act : Act)
    (hk : ∀ k, s.holds.get h = some k → k.holder ≠ p) :
    withHold p (some h) act s = (s, .notHolder, .none) := by
  simp only [withHold]
  split
  · next k hk' => simp [hk k hk', deny]
  · rfl

/-! ## Orders and their frames -/

/-- The two bytes of a two-byte parameter give it back. -/
theorem halfOf_halfBytes (h : Half) : halfOf (h.extractLsb' 8 8) (h.extractLsb' 0 8) = h := by
  simp only [halfOf]
  ext i hi
  simp only [BitVec.getElem_append, BitVec.getElem_extractLsb']
  split
  · simp [BitVec.getLsbD_eq_getElem (show i < 16 by omega)]
  · have : 8 + (i - 8) = i := by omega
    simp [this, BitVec.getLsbD_eq_getElem (show i < 16 by omega)]

/-- The four bytes of a four-byte parameter give it back. -/
theorem wordOf_bytes (m : BitVec 32) :
    wordOf (m.extractLsb' 24 8) (m.extractLsb' 16 8) (m.extractLsb' 8 8) (m.extractLsb' 0 8) = m := by
  simp only [wordOf]
  apply BitVec.eq_of_getLsbD_eq
  intro i hi
  simp only [BitVec.getLsbD_append, BitVec.getLsbD_extractLsb']
  by_cases h0 : i < 8
  · simp [h0]
  · by_cases h1 : i - 8 < 8
    · have e : 8 + (i - 8) = i := by omega
      simp [h0, h1, e]
    · by_cases h2 : i - 8 - 8 < 8
      · have e : 16 + (i - 8 - 8) = i := by omega
        simp [h0, h1, h2, e]
      · have e : 24 + (i - 8 - 8 - 8) = i := by omega
        have h3 : i - 8 - 8 - 8 < 8 := by omega
        simp [h0, h1, h2, h3, e]

/-- An order is the taking of a frame that carries its identifier and its parameters (R174, R181, R182). -/
theorem exec_eq_takeFrame (i : Instr) (p : Port) (q id : Byte) (hk : orderKey i = some (p, q, id)) (s : State) :
    exec i s = event (takeFrame p q id (frameAct p id (orderParams i))) s := by
  cases i <;> simp only [orderKey, Option.some.injEq, Prod.mk.injEq, reduceCtorEq] at hk
  all_goals obtain ⟨rfl, rfl, rfl⟩ := hk
  case startRun d => conv_lhs => rw [← halfOf_halfBytes d]
                     rfl
  case startLinked d => conv_lhs => rw [← halfOf_halfBytes d]
                        rfl
  case adjustStep d _ => conv_lhs => rw [← halfOf_halfBytes d]
                         rfl
  case setWatch d _ => conv_lhs => rw [← halfOf_halfBytes d]
                       rfl
  case ackPrompt d => conv_lhs => rw [← halfOf_halfBytes d]
                      rfl
  case setCauseMask m => conv_lhs => rw [← wordOf_bytes m]
                         rfl
  all_goals rfl

end Sys2Proof.Machine
end

