-- ==== Sys2Proof/Laws/PerInstr.lean ====
section
/-! SUPPORT. The per-command family Encoding: what the frame form of each command is (R181, R182). -/

namespace Sys2Proof.Machine

/-- The parameter byte count of an order by its identifier (R182); `none` for STORE_LABEL and SET_PARAM, whose count is
their own. -/
def paramCount (id : Byte) : Option Nat :=
  if id = 0x49 ∨ id = 0x50 then none
  else if id = 0x11 then some 19
  else if id = 0x4A then some 18
  else if id = 0x1C then some 7
  else if id = 0x1B then some 6
  else if id = 0x10 ∨ id = 0x61 then some 4
  else if id = 0x13 then some 3
  else if id = 0x14 ∨ id = 0x1D ∨ id = 0x20 ∨ id = 0x4E then some 2
  else if id ∈ [0x12, 0x15, 0x16, 0x17, 0x18, 0x19, 0x1A, 0x1E, 0x28, 0x29, 0x48, 0x4D, 0x51, 0x5A] then some 1
  else some 0

end Sys2Proof.Machine

namespace Sys2Proof.Laws.Encoding

open Sys2Proof Sys2Proof.Machine

/-- An order's identifier is one of R181 and its parameters, when it is well formed, have the byte count of R182; an
event carries none. -/
def Statement (i : Instr) : Prop :=
  (∀ p q id, orderKey i = some (p, q, id) →
      id ∈ orderIds ∧ (WellFormed i = true → ∀ n, paramCount id = some n → (orderParams i).length = n))
    ∧ (orderKey i = none → orderParams i = [])

/-- The statement holds of every command. -/
theorem every (i : Instr) : Statement i := by
  cases i <;>
    simp (decide := true) [Statement, orderKey, orderParams, WellFormed, paramCount, halfBytes, recordBytes]

theorem frameReceived (p : Port) (bytes : List Byte) : Statement (.frameReceived p bytes) := every _
theorem interByteGap (p : Port) (next : Byte) : Statement (.interByteGap p next) := every _
theorem replySent (p : Port) : Statement (.replySent p) := every _
theorem lineBreak (p : Port) : Statement (.lineBreak p) := every _
theorem portReset (p : Port) (seq : Byte) : Statement (.portReset p seq) := every _
theorem openRun (p : Port) (seq : Byte) (cavity source slot watermark : Byte) :
    Statement (.openRun p seq cavity source slot watermark) := every _
theorem loadStep (p : Port) (seq : Byte) (cavity : Byte) (record : List Byte) :
    Statement (.loadStep p seq cavity record) := every _
theorem closeRun (p : Port) (seq : Byte) (cavity : Byte) : Statement (.closeRun p seq cavity) := every _
theorem startRun (p : Port) (seq : Byte) (cavity : Byte) (delay : Half) :
    Statement (.startRun p seq cavity delay) := every _
theorem startLinked (p : Port) (seq : Byte) (delay : Half) : Statement (.startLinked p seq delay) := every _
theorem pauseRun (p : Port) (seq : Byte) (cavity : Byte) : Statement (.pauseRun p seq cavity) := every _
theorem resumeRun (p : Port) (seq : Byte) (cavity : Byte) : Statement (.resumeRun p seq cavity) := every _
theorem stopRun (p : Port) (seq : Byte) (cavity : Byte) : Statement (.stopRun p seq cavity) := every _
theorem clearRun (p : Port) (seq : Byte) (cavity : Byte) : Statement (.clearRun p seq cavity) := every _
theorem adoptRun (p : Port) (seq : Byte) (cavity : Byte) : Statement (.adoptRun p seq cavity) := every _
theorem skipStep (p : Port) (seq : Byte) (cavity : Byte) : Statement (.skipStep p seq cavity) := every _
theorem adjustStep (p : Port) (seq : Byte) (cavity presence target : Byte) (remaining : Half) (steam : Byte) :
    Statement (.adjustStep p seq cavity presence target remaining steam) := every _
theorem setWatch (p : Port) (seq : Byte) (cavity slot source relation : Byte) (value : Half) (action : Byte) :
    Statement (.setWatch p seq cavity slot source relation value action) := every _
theorem clearWatch (p : Port) (seq : Byte) (cavity slot : Byte) : Statement (.clearWatch p seq cavity slot) := every _
theorem readRun (p : Port) (seq : Byte) (cavity : Byte) : Statement (.readRun p seq cavity) := every _
theorem ackPrompt (p : Port) (seq : Byte) (id : Half) : Statement (.ackPrompt p seq id) := every _
theorem readPrompts (p : Port) (seq : Byte) : Statement (.readPrompts p seq) := every _
theorem takeHold (p : Port) (seq : Byte) (object : Byte) : Statement (.takeHold p seq object) := every _
theorem releaseHold (p : Port) (seq : Byte) (object : Byte) : Statement (.releaseHold p seq object) := every _
theorem drainGen (p : Port) (seq : Byte) : Statement (.drainGen p seq) := every _
theorem genReset (p : Port) (seq : Byte) : Statement (.genReset p seq) := every _
theorem readGen (p : Port) (seq : Byte) : Statement (.readGen p seq) := every _
theorem startDescale (p : Port) (seq : Byte) : Statement (.startDescale p seq) := every _
theorem abortDescale (p : Port) (seq : Byte) : Statement (.abortDescale p seq) := every _
theorem startRinse (p : Port) (seq : Byte) : Statement (.startRinse p seq) := every _
theorem readDescale (p : Port) (seq : Byte) : Statement (.readDescale p seq) := every _
theorem readWater (p : Port) (seq : Byte) : Statement (.readWater p seq) := every _
theorem storeOpen (p : Port) (seq : Byte) (slot : Byte) : Statement (.storeOpen p seq slot) := every _
theorem storeLabel (p : Port) (seq : Byte) (length : Byte) (label : List Byte) :
    Statement (.storeLabel p seq length label) := every _
theorem storeStep (p : Port) (seq : Byte) (record : List Byte) : Statement (.storeStep p seq record) := every _
theorem storeCommit (p : Port) (seq : Byte) : Statement (.storeCommit p seq) := every _
theorem storeCancel (p : Port) (seq : Byte) : Statement (.storeCancel p seq) := every _
theorem eraseProgram (p : Port) (seq : Byte) (slot : Byte) : Statement (.eraseProgram p seq slot) := every _
theorem readProgram (p : Port) (seq : Byte) (selector first : Byte) :
    Statement (.readProgram p seq selector first) := every _
theorem setParam (p : Port) (seq : Byte) (id : Byte) (value : List Byte) :
    Statement (.setParam p seq id value) := every _
theorem readParam (p : Port) (seq : Byte) (id : Byte) : Statement (.readParam p seq id) := every _
theorem saveSettings (p : Port) (seq : Byte) : Statement (.saveSettings p seq) := every _
theorem readLoads (p : Port) (seq : Byte) : Statement (.readLoads p seq) := every _
theorem readSensors (p : Port) (seq : Byte) : Statement (.readSensors p seq) := every _
theorem clearLimit (p : Port) (seq : Byte) (cavity : Byte) : Statement (.clearLimit p seq cavity) := every _
theorem readCause (p : Port) (seq : Byte) : Statement (.readCause p seq) := every _
theorem setCauseMask (p : Port) (seq : Byte) (mask : BitVec 32) : Statement (.setCauseMask p seq mask) := every _
theorem deviceReset (inputs : StartInputs) : Statement (.deviceReset inputs) := every _
theorem delayExpiry (c : Cavity) : Statement (.delayExpiry c) := every _
theorem stepTimeExpiry (c : Cavity) : Statement (.stepTimeExpiry c) := every _
theorem feederTimeout (c : Cavity) : Statement (.feederTimeout c) := every _
theorem doorTimeout (c : Cavity) : Statement (.doorTimeout c) := every _
theorem regulationUpdate (c : Cavity) : Statement (.regulationUpdate c) := every _
theorem offIntervalExpiry (l : Load) : Statement (.offIntervalExpiry l) := every _
theorem onIntervalExpiry (l : Load) : Statement (.onIntervalExpiry l) := every _
theorem pairOffExpiry (c : Cavity) : Statement (.pairOffExpiry c) := every _
theorem soakUpdate : Statement (.soakUpdate) := every _
theorem sensorSample (x : Sensor) (sample : Sample) : Statement (.sensorSample x sample) := every _
theorem probeInsertion (c : Cavity) : Statement (.probeInsertion c) := every _
theorem probeRemoval (c : Cavity) : Statement (.probeRemoval c) := every _
theorem doorOpen (c : Cavity) : Statement (.doorOpen c) := every _
theorem doorClose (c : Cavity) : Statement (.doorClose c) := every _
theorem tankRemoval : Statement (.tankRemoval) := every _
theorem tankInsertion : Statement (.tankInsertion) := every _
theorem limitTrip (c : Cavity) : Statement (.limitTrip c) := every _
theorem limitRelease (c : Cavity) : Statement (.limitRelease c) := every _
theorem mainsLow : Statement (.mainsLow) := every _
theorem mainsBack : Statement (.mainsBack) := every _
theorem mainsLowExpiry : Statement (.mainsLowExpiry) := every _
theorem holdExpiry (h : HoldObject) : Statement (.holdExpiry h) := every _
theorem storeWriteComplete (written : Bool) : Statement (.storeWriteComplete written) := every _
theorem levelHighWet : Statement (.levelHighWet) := every _
theorem levelLowDry (highDried : Bool) : Statement (.levelLowDry highDried) := every _
theorem levelLowWet (highDried : Bool) : Statement (.levelLowWet highDried) := every _
theorem fillWatchdogStall : Statement (.fillWatchdogStall) := every _
theorem windowEnd : Statement (.windowEnd) := every _
theorem idleDrain : Statement (.idleDrain) := every _
theorem drainComplete : Statement (.drainComplete) := every _
theorem drainFail : Statement (.drainFail) := every _
theorem heatSlow : Statement (.heatSlow) := every _
theorem flowPulse (gap : Nat) : Statement (.flowPulse gap) := every _
theorem quietTimeExpiry : Statement (.quietTimeExpiry) := every _
theorem soakTimeExpiry : Statement (.soakTimeExpiry) := every _
theorem promptTimeout (o : Owner) : Statement (.promptTimeout o) := every _
theorem resetHeld : Statement (.resetHeld) := every _
theorem lineReturnToMark (p : Port) : Statement (.lineReturnToMark p) := every _

end Sys2Proof.Laws.Encoding
end

