-- ==== Sys2Proof/Laws/Power.lean ====
section
/-! SUPPORT. The power chain arbiter: the granted sum after each of its operations, and that they keep the power chain
safe. -/

namespace Sys2Proof.Machine

/-- The granted sum is made of the arbiter's sets and the ratings. -/
theorem grantedSum_congr {s t : State} (ha : t.arbiter = s.arbiter) (hr : t.settings.rating = s.settings.rating) :
    grantedSum t = grantedSum s := by
  simp only [grantedSum, ha, hr]

/-- The power chain stays safe where settings, arbiter and mains stay. -/
theorem PowerSafe.of_same {s t : State} (h : PowerSafe s) (hs : t.settings = s.settings) (ha : t.arbiter = s.arbiter)
    (hm : t.mains.low = s.mains.low) : PowerSafe t := by
  obtain ⟨h1, h2, h3, h4⟩ := h
  refine ⟨by rwa [hs], by rwa [hs], ?_, ?_⟩
  · rw [grantedSum_congr ha (by rw [hs]), hs]
    exact h3
  · rw [hm, ha]
    exact h4

/-- A sum over the loads that differs at one load only. -/
theorem sum_allLoads_congr {f g : Load → Nat} {l : Load} (h : ∀ j, j ≠ l → f j = g j) :
    (allLoads.map f).sum + g l = (allLoads.map g).sum + f l := by
  have h1 := h .genHeat
  have h2 := h .aRing
  have h3 := h .bRing
  have h4 := h .aTop
  have h5 := h .bTop
  have h6 := h .aBottom
  have h7 := h .bBottom
  cases l <;> simp [allLoads] at h1 h2 h3 h4 h5 h6 h7 ⊢ <;> omega

/-- Writing a load's status changes the granted sum by its rating. -/
theorem grantedSum_setStatus (l : Load) (x : LoadStatus) (s : State) :
    grantedSum (setStatus l x s) + (if s.arbiter.get l = .granted then s.settings.rating.get l else 0)
      = grantedSum s + (if x = .granted then s.settings.rating.get l else 0) := by
  have k := sum_allLoads_congr (l := l)
    (f := fun j => if (setStatus l x s).arbiter.get j = .granted then s.settings.rating.get j else 0)
    (g := fun j => if s.arbiter.get j = .granted then s.settings.rating.get j else 0)
    (fun j hj => by simp [setStatus, hj])
  simpa [grantedSum, setStatus] using k

/-- A load that leaves its grant lowers the granted sum. -/
theorem grantedSum_setStatus_le {l : Load} {x : LoadStatus} {s : State} (hx : x ≠ .granted) :
    grantedSum (setStatus l x s) ≤ grantedSum s := by
  have := grantedSum_setStatus l x s
  simp only [hx, if_false] at this
  omega

/-- A grant raises the granted sum by the load's rating. -/
theorem grantedSum_grant {l : Load} {s : State} (h : s.arbiter.get l ≠ .granted) :
    grantedSum (grant l s) = grantedSum s + s.settings.rating.get l := by
  have e : grantedSum (grant l s) = grantedSum (setStatus l .granted s) := grantedSum_congr rfl rfl
  have := grantedSum_setStatus l .granted s
  simp only [h, if_true, if_false] at this
  omega

/-- A walk down the chain keeps the granted sum within the budget. -/
theorem grantedSum_grantWalk (ls : List Load) {s : State} (h : grantedSum s ≤ s.settings.budget) :
    grantedSum (grantWalk ls s) ≤ s.settings.budget := by
  induction ls generalizing s with
  | nil => exact h
  | cons l ls ih =>
    unfold grantWalk
    split
    · next hw =>
      split
      · next hf =>
        have hn : s.arbiter.get l ≠ .granted := by simp [hw]
        have hb : grantedSum (grant l s) ≤ (grant l s).settings.budget := by
          rw [grantedSum_grant hn]
          exact of_decide_eq_true hf
        exact ih hb
      · exact h
    · exact ih h

/-- A grant decision keeps the power chain safe. -/
theorem PowerSafe.grantDecision {s : State} (h : PowerSafe s) : PowerSafe (grantDecision s) := by
  unfold Machine.grantDecision
  split
  · exact h
  · next hm =>
    have w := grantWalk_within s.settings.chain s
    have e : (grantWalk s.settings.chain s).settings = s.settings := w.1 rfl
    have m : (grantWalk s.settings.chain s).mains = s.mains := by
      unfold Within at w
      exact w.2.2.2.2.2.2.2.2.2.2.2.2.2.2.2.2.2.2.2.2.2.1 rfl
    refine ⟨by rw [e]; exact h.1, by rw [e]; exact h.2.1, by rw [e]; exact grantedSum_grantWalk _ h.2.2.1, ?_⟩
    rw [m]
    intro k
    exact absurd k hm

/-- Leaving a set keeps the power chain safe. -/
theorem PowerSafe.setStatus {l : Load} {x : LoadStatus} {s : State} (h : PowerSafe s) (hx : x ≠ .granted) :
    PowerSafe (setStatus l x s) := by
  obtain ⟨h1, h2, h3, h4⟩ := h
  refine ⟨h1, h2, Nat.le_trans (grantedSum_setStatus_le hx) h3, fun hm j => ?_⟩
  have := h4 hm j
  simp only [Machine.setStatus, PerLoad.get_set]
  split
  · exact hx
  · exact this

/-- A request keeps the power chain safe. -/
theorem PowerSafe.request {s : State} (l : Load) (h : PowerSafe s) : PowerSafe (request l s) :=
  (h.setStatus (by decide)).grantDecision

/-- A release or a cancel keeps the power chain safe. -/
theorem PowerSafe.leave {s : State} (l : Load) (h : PowerSafe s) : PowerSafe (leave l s) := by
  unfold Machine.leave
  split
  · exact h
  · exact (h.setStatus (by decide)).grantDecision

end Sys2Proof.Machine
end

