-- ==== Sys2Proof/Tests/Slice0.lean ====
section
/-! SUPPORT. The model's own tests: the checks of WellFormed, single steps on small states, and for every statement a
concrete state and operands that meet the hypotheses of each of its clauses. -/

namespace Sys2Proof.Tests

open Sys2Proof Sys2Proof.Machine

/-! ## Small states -/

/-- The state after a command. -/
def after (i : Instr) (s : State) : State :=
  match exec i s with
  | .next t => t
  | .fault _ | .refused _ => s

/-- An ACTION record: 180 °C top and bottom, 10 minutes from the start. -/
def bake : Action :=
  { heat := .topBottom, target := some 180, ramp := 0, band := none, steam := 0, fan := .low, duration := some 600
    basis := some .fromStart, core := none, prompt := none }

/-- The same with a prompt of a placement. -/
def asking (placement : Placement) : Action :=
  { bake with prompt := some { code := 7, placement := placement, doorAck := false, timeout := 0, onTimeout := .cont } }

/-- The same with steam, and the same to a core temperature. -/
def steaming : Action := { bake with steam := 50 }
def probing : Action := { bake with duration := none, basis := none, core := some 60 }

/-- A run of a stream fed by PANEL, in a state, without a step. -/
def runIn (st : RunState) : Run :=
  { Run.idle with state := st, opened := some { source := .stream .panel, closed := false, watermark := 2 } }

/-- The same on a current step. -/
def runOn (st : RunState) (phase : Phase) (a : Action) : Run :=
  { runIn st with current := some { load := 1, action := a, band := 5 }, phase := some phase, remaining := some 6000 }

/-- One ACTION record waiting. -/
def one : List Loaded := [{ load := 2, record := .action bake }]

/-- Cavity A with a run and a queue, everything else as after reset. -/
def withA (r : Run) (l : List Loaded) : State :=
  { State.reset with
    runs := ⟨r, Run.idle⟩, queues := ⟨{ StepQueue.reset with pending := l, nextLoad := 3 }, StepQueue.reset⟩ }

/-- The same with PANEL holding an object. -/
def held (h : HoldObject) (s : State) : State :=
  { s with holds := s.holds.set h (some { holder := .panel, expiry := 300 }) }

/-- The generator in a state, with water between the electrodes. -/
def withGen (st : GenState) : State := { State.reset with gen := { Gen.start true false with state := st } }

/-- A steam fill from a source, running or waiting. -/
def filling (st : GenState) (w : WaterSource) : State :=
  { State.reset with
    gen := { Gen.start false false with state := st, fill := some { purpose := .steam, source := w, watchdog := 10 } }
    meter := { Meter.reset with
      fill := some { source := w, purpose := .steam, pulses := 5, period := none, quiet := 0, measuring := true } } }

/-- The same with cavity A asking for steam. -/
def wanted (s : State) : State :=
  { s with gen := { s.gen with demand := ⟨{ status := .present, level := 50, load := 1 }, DemandReport.none⟩ } }

/-- The descale controller in a phase of a descale. -/
def inPhase (phase : ProcPhase) : State :=
  { State.reset with
    gen := { Gen.start true false with state := .descale }
    proc := { Procedure.reset false with phase := phase, kind := some .descale, rinseNumber := some 0 } }

/-- The same with its fill from a source running. -/
def pouring (phase : ProcPhase) (purpose : Purpose) (w : WaterSource) : State :=
  { inPhase phase with
    gen := { Gen.start false false with
      state := .descale, fill := some { purpose := purpose, source := w, watchdog := 10 } }
    meter := { Meter.reset with
      fill := some { source := w, purpose := purpose, pulses := 5, period := none, quiet := 0, measuring := true } } }

/-- The same with a drain reported to the controller, LEVEL_LOW dry or wet, a rinse behind it. -/
def reporting (phase : ProcPhase) (kind : ProcKind) (n : Nat) (low : Bool) (w : WaterSource) : State :=
  { inPhase phase with
    gen := { Gen.start low false with
      state := .descale, afterDrain := some .report, drainTime := some 200, dryTime := some 200 }
    proc := { (inPhase phase).proc with kind := some kind, rinseNumber := some n, rinseSource := some w } }

/-- The same waiting for its prompt of a code, with the tank in place or not. -/
def promptedDescale (phase : ProcPhase) (code : Nat) (tank : Bool) (w : WaterSource) : State :=
  let e : Prompt :=
    { id := 1, code := code, placement := .device, doorAck := false, doorOpened := false, tankRemoved := true
      timeout := none, onTimeout := none, timedOut := false }
  { inPhase phase with
    proc := { (inPhase phase).proc with promptId := some 1, rinseSource := some w }
    prompts := ⟨none, none, none, some e⟩, promptCounter := 2, tankPresent := tank }

/-- Records waiting, under load numbers from 2. -/
def waiting (records : List Record) : List Loaded := records.mapIdx (fun i r => { load := i + 2, record := r })

/-- The queue of such records. -/
def queueOf (records : List Record) : StepQueue := { StepQueue.reset with pending := waiting records, nextLoad := 10 }

/-- A queue with an active mark and sixteen records retained. -/
def fullMark : StepQueue :=
  { StepQueue.reset with
    retained := (List.range 16).map (fun n => { load := n + 1, action := bake }), mark := true, nextLoad := 17 }

/-- A prompt entry of an owner. -/
def entry (code : Nat) (placement : Placement) : Prompt :=
  { id := 1, code := code, placement := placement, doorAck := false, doorOpened := false, tankRemoved := false
    timeout := none, onTimeout := none, timedOut := false }

/-- Cavity A's run with its entry in the prompt table. -/
def asked (r : Run) (e : Prompt) (l : List Loaded) : State :=
  { withA r l with prompts := ⟨some e, none, none, none⟩, promptCounter := 2 }

/-- A port with an order whose reply is leaving. -/
def busyPort : PortRecord :=
  { receiver := .hunting, inBreak := false
    replies := [{ kind := .order, reply := { seq := 1, id := 0x62, answer := .done, results := .none } }] }

/-- The inputs of a start with everything closed and cold. -/
def coldStart : StartInputs :=
  { cavTempA := .tenths 200, cavTempB := .tenths 200, coreA := .openOrShorted, coreB := .openOrShorted
    genTemp := .tenths 200, doorOpenA := false, doorOpenB := false, probePresentA := false, probePresentB := false
    limitActiveA := false, limitActiveB := false, tankPresent := true, mainsLow := false, levelLowWet := false
    levelHighWet := false, settingsSpoiled := false, scaleSpoiled := false, procedureSpoiled := false }

/-! ## WellFormed -/

theorem test_empty_burst_is_ill_formed : WellFormed (.frameReceived .panel []) = false := by decide
theorem test_short_record_is_ill_formed : WellFormed (.loadStep .panel 1 0 (List.replicate 17 0)) = false := by decide
theorem test_long_record_is_ill_formed : WellFormed (.storeStep .panel 1 (List.replicate 19 0)) = false := by decide
theorem test_label_length_is_checked : WellFormed (.storeLabel .panel 1 3 [65, 66]) = false := by decide
theorem test_one_value_byte_is_ill_formed : WellFormed (.setParam .panel 1 0x01 [5]) = false := by decide
theorem test_chain_of_two_is_ill_formed : WellFormed (.setParam .panel 1 0x09 [0, 1]) = false := by decide
theorem test_gap_of_zero_is_ill_formed : WellFormed (.flowPulse 0) = false := by decide
theorem test_well_formed_commands :
    WellFormed (.loadStep .panel 1 0 (List.replicate 18 0)) = true
      ∧ WellFormed (.storeLabel .panel 1 0 []) = true
      ∧ WellFormed (.setParam .panel 1 0x09 [0, 1, 2, 3, 4, 5, 6]) = true
      ∧ WellFormed (.setParam .panel 1 0x01 [0, 5]) = true := by decide

/-! ## Table words and the queue -/

theorem test_no_word_spells_a_command (n w : Nat) : decodeTableWord n w = none := rfl
theorem test_reset_idles : step { State.reset with pending := [], resetHeld := true }
    = .next { State.reset with resetHeld := true } := rfl

/-! ## Frames -/

/-- The check of the nine ASCII digits is the published value of this CRC. -/
theorem test_crc_of_digits : crc16 [0x31, 0x32, 0x33, 0x34, 0x35, 0x36, 0x37, 0x38, 0x39] = 0x29B1#16 := by
  decide +kernel

/-- A START_RUN frame written out byte by byte from R174, R175, R181 and R182. -/
theorem test_start_run_frame :
    (orderFrame 7 0x13 [0, 0, 60]).take 7 = [0xA5, 0x05, 0x07, 0x13, 0x00, 0x00, 0x3C] := by decide

theorem test_record_bytes :
    encodeRecord (.action bake) = [0, 13, 2, 180, 0, 0, 0, 1, 2, 88, 0, 0, 0, 0, 0, 0, 0, 0]
      ∧ acceptRecord (encodeRecord (.action bake)) = some (.action bake)
      ∧ acceptRecord (encodeRecord (.rep 16)) = none := by decide

/-! ## Single steps -/

theorem test_mains_low_holds_the_run :
    ((after .mainsLow (withA (runOn .running .hold bake) [])).runs.a.mainsHeld
      = true) := by decide

theorem test_open_run_answers_done :
    ((after (.openRun .panel 1 0 0 0 255) State.reset).ports.panel.replies.map (·.reply.answer)) = [.done] := by decide

theorem test_open_run_of_no_cavity_is_range :
    ((after (.openRun .panel 1 2 0 0 255) State.reset).ports.panel.replies.map (·.reply.answer)) = [.range] := by decide

theorem test_second_order_is_busy :
    ((after (.readGen .panel 2) (after (.readGen .panel 1) State.reset)).ports.panel.replies.map (·.reply.answer))
      = [.done, .busy] := by decide

theorem test_load_step_takes_a_record :
    ((after (.loadStep .panel 1 0 (encodeRecord (.action bake))) (withA (runIn .loading) [])).queues.a.pending)
      = [{ load := 3, record := .action bake }] := by decide

theorem test_start_run_enters_the_step :
    let t := after (.startRun .panel 1 0 0) (withA (runIn .loading) one)
    t.runs.a.state = .running ∧ t.runs.a.phase = some .heatup ∧ t.runs.a.remaining = some 6000 := by decide

theorem test_pause_freezes_the_timers :
    (after (.pauseRun .panel 1 0) (withA (runOn .running .hold bake) [])).timers.aTop.frozen = true := by decide

theorem test_stop_of_a_running_run_aborts :
    (after (.stopRun .panel 1 0) (withA (runOn .running .hold bake) one)).runs.a.state = .aborted := by decide

theorem test_step_time_ends_a_closed_run :
    let r := { runOn .running .hold bake with
      opened := some { source := .stream .panel, closed := true, watermark := 2 } }
    (after (.stepTimeExpiry .A) (withA r [])).runs.a.state = .finished := by decide

theorem test_step_time_starves_an_open_run :
    (after (.stepTimeExpiry .A) (withA (runOn .running .hold bake) [])).runs.a.state = .starved := by decide

theorem test_level_high_heats :
    (after .levelHighWet (filling .filling .tank)).gen.state = .heating := by decide

theorem test_window_end_serves_a :
    let s := { withGen .ready with
      gen := { Gen.start true false with
        state := .ready, credit := ⟨60, 0⟩
        demand := ⟨{ status := .present, level := 50, load := 1 }, DemandReport.none⟩ } }
    (after .windowEnd s).gen.serving = some .A ∧ (after .windowEnd s).gen.credit = ⟨10, 0⟩ := by decide

theorem test_stalled_tank_fill_asks_for_water :
    let t := after .fillWatchdogStall (wanted (filling .filling .tank))
    t.gen.state = .waterWait ∧ t.prompts.generator.map (·.code) = some 240 := by decide

theorem test_unwanted_stalled_fill_is_given_up :
    let t := after .fillWatchdogStall (filling .filling .tank)
    t.gen.state = .draining ∧ t.gen.fill = none ∧ t.prompts.generator = none := by decide

theorem test_level_high_dries_alone :
    let s := { State.reset with gen := Gen.start false true }
    (after (.levelLowDry true) s).gen.levelHighWet = false ∧ (after (.levelLowDry false) s).gen.levelHighWet = true := by
  decide

/-- The holds of the first step stand in frozen timers, with no interval begun. -/
theorem test_run_started_with_the_door_open_asks_for_no_power :
    let s := { withA (runIn .loading) one with doorOpen := ⟨true, false⟩ }
    let t := after (.startRun .panel 1 0 0) s
    t.runs.a.state = .running ∧ t.timers.aTop.interval = .idle ∧ t.timers.aTop.frozen = true ∧ t.timers.aTop.on = 200
      ∧ t.arbiter.aTop = .none := by
  decide

/-- The loop of two passes walked: the retained record comes back behind its REPEAT record. -/
theorem test_repeat_brings_the_body_back :
    let q := { queueOf [.rep 2, .mark] with retained := [{ load := 1, action := bake }], mark := true }
    let t := after (.stepTimeExpiry .A) { withA (runOn .running .hold bake) [] with queues := ⟨q, StepQueue.reset⟩ }
    t.runs.a.current.map (·.load) = some 1 ∧ t.queues.a.loop = some 1
      ∧ t.queues.a.pending.map (·.load) = [2, 3] := by decide

theorem test_stray_repeat_is_a_loop_error :
    let t := after (.stepTimeExpiry .A) (withA (runOn .running .hold bake) (waiting [.rep 2, .action bake]))
    t.runs.a.current.map (·.load) = some 3
      ∧ (t.attention.panel.causes.filter (fun e => e.code == (causeEntry (.loopError .A 2)).code)).length = 1 := by decide

theorem test_overrun_drops_the_mark :
    let t := after (.stepTimeExpiry .A)
      { withA (runOn .running .hold bake) [] with queues := ⟨fullMark, StepQueue.reset⟩ }
    t.runs.a.state = .starved ∧ t.queues.a.retained = [] ∧ t.queues.a.mark = false := by decide

/-- The bytes of a cause detail on the line: code, count, subject, reason and the two values. -/
theorem test_read_cause_bytes :
    let e : CauseEntry := { code := 9, count := 3, subject := 1, reason := 2, value1 := 0x0102, value2 := 0x0304 }
    ((replyFrame { seq := 7, id := 0x60, answer := .done, results := .cause e 4 }).take 14)
      = [0x5A, 0x0C, 0x07, 0x60, 0x00, 9, 3, 1, 2, 1, 2, 3, 4, 4] := by decide

theorem test_descale_starts_with_a_drain :
    let t := after (.startDescale .service 1) State.reset
    t.proc.phase = .prepDrain ∧ t.gen.state = .descale ∧ drainPump t = true := by decide

theorem test_dry_boil_faults :
    let s := { withGen .heating with arbiter := { PerLoad.all LoadStatus.none with genHeat := .granted } }
    (after (.sensorSample .genTemp (.tenths 1400)) s).gen.faultKind = some .dryBoil := by decide

theorem test_limit_trip_aborts :
    let t := after (.limitTrip .A) (withA (runOn .running .hold bake) one)
    t.limitLatch.a = true ∧ t.runs.a.abortReason = some .limit := by decide

theorem test_held_object_is_refused :
    ((after (.takeHold .link 1 0) (held .editA State.reset)).ports.link.replies.map (·.reply.results))
      = [.heldBy .panel 30] := by decide

theorem test_cold_start_is_empty :
    let t := after (.deviceReset coldStart) State.reset
    t.gen.state = .empty ∧ t.settings = Settings.default ∧ t.sensors.coreA.status = .absent := by decide

/-! ## Witnesses: every port accepts in the small states -/

theorem witness_accepts (p : Port) : Accepts p State.reset := by cases p <;> exact ⟨rfl, rfl, rfl⟩

/-! ## Witnesses: steps, resets and invariants -/

theorem witness_StepTakesFrontCommandAndCompletes :
    ({ State.reset with pending := [.mainsLow, .mainsBack] }).pending = .mainsLow :: [.mainsBack] := rfl

theorem witness_TimePassesOnEmptyQueue :
    (withA Run.idle []).pending = [] ∧ (withA Run.idle []).resetHeld = false
      ∧ ({ State.reset with resetHeld := true }).resetHeld = true := by decide

theorem witness_ResetHeldSilencesThePart :
    ({ State.reset with resetHeld := true }).resetHeld = true ∧ ∀ inputs, Instr.mainsLow ≠ .deviceReset inputs :=
  ⟨rfl, fun _ => by simp⟩

/-- A stored procedure record in the nonvolatile memory. -/
def savedProc (phase : ProcPhase) (kind : Option ProcKind) (owed : Bool) : State :=
  { State.reset with
    store := { Store.blank with
      procedure := some { value := { phase := phase, kind := kind, rinseNumber := none, rinseOwed := owed }, intact := true } } }

theorem witness_DeviceResetStartsThePart :
    let found (s : State) : Option ProcRecord := intactValue (spoil coldStart.procedureSpoiled s.store.procedure)
    found State.reset = none ∧ intactValue (spoil true (savedProc .idle none true).store.procedure) = none
      ∧ found (savedProc .idle none true)
        = some { phase := .idle, kind := none, rinseNumber := none, rinseOwed := true }
      ∧ found (savedProc .soak (some .descale) false)
        = some { phase := .soak, kind := some .descale, rinseNumber := none, rinseOwed := false } := by decide

/-- The start from them: the rinse owed kept, found from the phase, and not found. -/
theorem test_start_finds_the_rinse_owed :
    (after (.deviceReset coldStart) (savedProc .idle none true)).proc.rinseOwed = true
      ∧ (after (.deviceReset coldStart) (savedProc .soak (some .descale) false)).proc.rinseOwed = true
      ∧ (after (.deviceReset coldStart) (savedProc .waitSolution (some .descale) false)).proc.rinseOwed = false := by
  decide

/-- A safe power chain with a grant outstanding, and a step from it. -/
theorem witness_EveryStepKeepsThePowerChainSafe :
    let s := { State.reset with arbiter := { PerLoad.all LoadStatus.none with genHeat := .granted }, pending := [.mainsLow] }
    PowerSafe s ∧ step s = .next (after .mainsLow { s with pending := [] }) :=
  ⟨⟨by decide, by decide, by decide, fun h => absurd h (by decide)⟩, rfl⟩

theorem witness_EveryStepKeepsTheCauseSetsOrdered :
    let e : CauseEntry := { code := 1, count := 255, subject := 0, reason := 0, value1 := 0, value2 := 0 }
    let a : Attention := { causes := [{ e with code := 31 }, e], mask := defaultMask }
    let s := { State.reset with attention := ⟨a, a, a⟩, pending := [.mainsLow] }
    CausesOk s ∧ step s = .next (after .mainsLow { s with pending := [] }) :=
  ⟨fun p => by cases p <;> exact ⟨by decide, by decide⟩, rfl⟩

theorem witness_EveryStepKeepsTheQueuesWithinTheirSlots :
    let q : StepQueue := { StepQueue.reset with
      pending := (List.range 15).map (fun n => { load := n + 2, record := .mark })
      retained := [{ load := 1, action := bake }], mark := true, loop := some 3 }
    let s := { State.reset with queues := ⟨q, StepQueue.reset⟩, pending := [.stepTimeExpiry .A] }
    QueuesOk s ∧ step s = .next (after (.stepTimeExpiry .A) { s with pending := [] }) :=
  ⟨fun c => by cases c <;> exact ⟨by decide, by decide⟩, rfl⟩

theorem witness_OtherCavityIsLeftAlone :
    commandCavity (.doorOpen .A) = some .A ∧ exec (.doorOpen .A) State.reset = .next (after (.doorOpen .A) State.reset) :=
  ⟨rfl, rfl⟩

/-! ## Witnesses: ports, frames, holds and causes -/

theorem witness_OrderOnAPendingPortIsBusyOrDropped :
    let s := { State.reset with ports := ⟨busyPort, PortRecord.reset, PortRecord.reset⟩ }
    let b : Outgoing := { kind := .busy, reply := { seq := 2, id := 0x32, answer := .busy, results := .none } }
    let full := { s with ports := ⟨{ busyPort with replies := busyPort.replies ++ [b] }, PortRecord.reset, PortRecord.reset⟩ }
    orderKey (.readGen .panel 2) = some (.panel, 2, 0x32)
      ∧ s.resetHeld = false ∧ (s.ports.get .panel).inBreak = false
      ∧ orderPending (s.ports.get .panel) = true ∧ busyOwed (s.ports.get .panel) = false
      ∧ full.resetHeld = false ∧ (full.ports.get .panel).inBreak = false
      ∧ orderPending (full.ports.get .panel) = true ∧ busyOwed (full.ports.get .panel) = true := by decide

theorem witness_AcceptedOrderGetsOneReply :
    orderKey (.readGen .link 9) = some (.link, 9, 0x32) ∧ (0x32 : Byte) ≠ 0x62 ∧ Accepts .link State.reset :=
  ⟨rfl, by decide, witness_accepts _⟩

theorem witness_FrameOfAnOrderIsTheOrder :
    orderKey (.storeLabel .panel 1 59 (List.replicate 59 65)) = some (.panel, 1, 0x49)
      ∧ (orderParams (.storeLabel .panel 1 59 (List.replicate 59 65))).length ≤ 60
      ∧ State.reset.resetHeld = false ∧ (State.reset.ports.get .panel).inBreak = false
      ∧ (State.reset.ports.get .panel).receiver = .hunting := by decide

theorem witness_ReceiverDiscardsNonFramesAndAnswersUnknown :
    State.reset.resetHeld = false ∧ (State.reset.ports.get .link).inBreak = false
      ∧ (State.reset.ports.get .link).receiver = .hunting ∧ (0xA5 : Byte) ∉ [(0x00 : Byte), 0xA4, 0xA6]
      ∧ ((1 : Byte).toNat < 2 ∧ 62 < (63 : Byte).toNat)
      ∧ (2 ≤ (2 : Byte).toNat ∧ (62 : Byte).toNat ≤ 62 ∧ [(0 : Byte), 0] ≠ checkBytes (crc16 [2, 1, 0x32]))
      ∧ (0x63 : Byte) ∉ orderIds ∧ (List.replicate 60 (0 : Byte)).length ≤ 60 := by decide +kernel

theorem witness_LineEventsAndPortResetActOnTheirPort :
    State.reset.resetHeld = false ∧ (State.reset.ports.get .panel).inBreak = false
      ∧ ({ PortRecord.reset with inBreak := true }).inBreak = true ∧ Accepts .panel State.reset :=
  ⟨rfl, rfl, rfl, witness_accepts _⟩

/-- A fresh line break on the port that holds STORE discards the staging buffer; one on another port does not. -/
theorem test_line_break_discards_the_staging_buffer :
    let s := { State.reset with
      holds := { State.reset.holds with store := some { holder := .link, expiry := 30 } }
      staging := some { slot := 3, label := [], records := [] } }
    (s.holds.store).map (·.holder) = some .link ∧ (s.ports.get .link).inBreak = false
      ∧ (after (.lineBreak .link) s).staging = none ∧ (after (.lineBreak .panel) s).staging = s.staging := by decide

theorem witness_TakeHoldGivesOneHolder :
    Accepts .panel (held .store State.reset) ∧ Accepts .link (held .store State.reset)
      ∧ holdOf? 2 = some .store ∧ holdOf? 3 = none ∧ (State.reset).holds.get .store = none
      ∧ (held .store State.reset).holds.get .store = some { holder := .panel, expiry := 300 } :=
  ⟨⟨rfl, rfl, rfl⟩, ⟨rfl, rfl, rfl⟩, by decide⟩

theorem witness_HoldsAreReleasedAndExpire :
    Accepts .panel (held .store State.reset) ∧ Accepts .link (held .store State.reset) ∧ holdOf? 2 = some .store
      ∧ holdOf? 3 = none ∧ (held .store State.reset).holds.get .store = some { holder := .panel, expiry := 300 }
      ∧ (held .store State.reset).holds.get .editA = none ∧ (held .store State.reset).resetHeld = false :=
  ⟨⟨rfl, rfl, rfl⟩, ⟨rfl, rfl, rfl⟩, by decide⟩

theorem witness_OrdersThatNeedAHoldAreChecked :
    let s := held .editB State.reset
    orderKey (.skipStep .panel 1 1) = some (.panel, 1, 0x1A) ∧ neededHold (.skipStep .panel 1 1) = some .editB
      ∧ orderKey (.skipStep .link 1 1) = some (.link, 1, 0x1A) ∧ neededHold (.skipStep .link 1 1) = some .editB
      ∧ WellFormed (.skipStep .panel 1 1) = true ∧ Accepts .panel s ∧ Accepts .link s
      ∧ s.holds.get .editB = some { holder := .panel, expiry := 300 } :=
  ⟨rfl, by decide, rfl, by decide, rfl, ⟨rfl, rfl, rfl⟩, ⟨rfl, rfl, rfl⟩, rfl⟩

theorem witness_ReadCauseTakesTheHighestCode :
    let e : CauseEntry := { code := 1, count := 1, subject := 0, reason := 0, value1 := 0, value2 := 0 }
    let s := { State.reset with attention := ⟨⟨[{ e with code := 31 }, e], defaultMask⟩, ⟨[], defaultMask⟩, ⟨[], 0⟩⟩ }
    Accepts .panel s ∧ Accepts .link s ∧ (s.attention.get .link).causes = []
      ∧ (s.attention.get .panel).causes = { e with code := 31 } :: [e] ∧ CauseSetOk [{ e with code := 31 }, e] :=
  ⟨⟨rfl, rfl, rfl⟩, ⟨rfl, rfl, rfl⟩, rfl, rfl, by decide, by decide⟩

theorem witness_SetCauseMaskReplacesTheMask :
    Accepts .panel State.reset ∧ (1#32).getLsbD 0 = true ∧ (0x7FFFFFFE#32).getLsbD 0 = false
      ∧ (0x7FFFFFFE#32).getLsbD (causeEntry .mainsLow).code = false :=
  ⟨witness_accepts _, by decide⟩

theorem witness_OfferedCauseIsAddedOrCoalesced :
    let e : CauseEntry := { code := 31, count := 255, subject := 0, reason := 0, value1 := 0, value2 := 0 }
    CauseSetOk [e] ∧ defaultMask.getLsbD (causeEntry .mainsLow).code = true
      ∧ (0#32).getLsbD (causeEntry .mainsLow).code = false :=
  ⟨⟨by decide, by decide⟩, by decide⟩

theorem witness_ReadingOrdersChangeNothing :
    Accepts .service State.reset ∧ cavityOf? 1 = some .B ∧ cavityOf? 2 = none
      ∧ ((39 : Byte).toNat < 40 ∧ (47 : Byte).toNat < 48 ∧ (39 : Byte).toNat < 40)
      ∧ ((40 ≤ (40 : Byte).toNat ∧ (40 : Byte) ≠ 255) ∧ 48 ≤ (48 : Byte).toNat ∧ 40 ≤ (40 : Byte).toNat)
      ∧ settingOf? 1 = some .budget ∧ settingOf? 0 = none :=
  ⟨witness_accepts _, by decide⟩

/-! ## Witnesses: runs -/

theorem witness_OpenRunChecksInOrder :
    let s := State.reset
    let tripped := { s with limitLatch := ⟨true, false⟩ }
    let faulted := { s with
      sensors := { s.sensors with cavTempA := { status := .faulted, reading := none, runTime := none, inRange := false } } }
    Accepts .panel s ∧ Accepts .panel tripped ∧ Accepts .panel faulted ∧ Accepts .panel (withA (runIn .loading) [])
      ∧ cavityOf? 2 = none ∧ cavityOf? 0 = some .A ∧ tripped.limitLatch.get .A = true ∧ s.limitLatch.get .A = false
      ∧ (faulted.sensors.get (cavitySensor .A)).status = .faulted
      ∧ (s.sensors.get (cavitySensor .A)).status ≠ .faulted
      ∧ (withA (runIn .loading) []).runs.a.state ∈ [RunState.loading, .delayed, .running, .starved, .paused]
      ∧ s.runs.a.state ∈ [RunState.idle, .finished, .aborted]
      ∧ ((9 : Byte) ≠ 255 ∧ 8 < (9 : Byte).toNat) ∧ 39 < (40 : Byte).toNat ∧ 1 < (2 : Byte).toNat
      ∧ (39 : Byte).toNat ≤ 39 ∧ installed 39 s = none :=
  ⟨⟨rfl, rfl, rfl⟩, ⟨rfl, rfl, rfl⟩, ⟨rfl, rfl, rfl⟩, ⟨rfl, rfl, rfl⟩, by decide⟩

/-- A store with one program in slot 39. -/
def stored (records : List Record) : State :=
  { State.reset with
    store := { Store.blank with slots := Store.blank.slots.setIfInBounds 39 (some { label := [65], records := records }) } }

theorem witness_OpenRunOpensAStreamOrAProgram :
    Accepts .link (stored [.action bake]) ∧ cavityOf? 0 = some .A ∧ (State.reset).limitLatch.get .A = false
      ∧ ((State.reset).sensors.get (cavitySensor .A)).status ≠ .faulted
      ∧ (State.reset).runs.a.state ∈ [RunState.idle, .finished, .aborted] ∧ (8 : Byte).toNat ≤ 8
      ∧ (39 : Byte).toNat ≤ 39
      ∧ installed (39 : Byte).toNat (stored [.action bake]) = some { label := [65], records := [.action bake] }
      ∧ installed (39 : Byte).toNat (stored (List.replicate 17 (.action bake)))
          = some { label := [65], records := List.replicate 17 (.action bake) } :=
  ⟨⟨rfl, rfl, rfl⟩, by decide⟩

theorem witness_LoadStepAppendsOrRefuses :
    let open15 := withA (runIn .running) (List.replicate 15 { load := 1, record := .mark })
    let full := withA (runIn .loading) (List.replicate 16 { load := 1, record := .mark })
    let starved := withA (runOn .starved .hold bake) []
    Accepts .panel open15 ∧ Accepts .panel full ∧ Accepts .panel starved ∧ Accepts .link starved
      ∧ cavityOf? 0 = some .A ∧ feederOf (runIn .loading) = some .panel ∧ feederOf (runIn .loading) ≠ some .link
      ∧ (runIn .paused).state ∈ [RunState.paused, .finished, .aborted]
      ∧ (runIn .running).state ∉ [RunState.paused, .finished, .aborted] ∧ isClosed (runIn .running) = false
      ∧ (List.replicate 18 (3 : Byte)).length = 18 ∧ acceptRecord (List.replicate 18 3) = none
      ∧ (encodeRecord (.action bake)).length = 18 ∧ acceptRecord (encodeRecord (.action bake)) = some (.action bake)
      ∧ 16 ≤ occupied full.queues.a ∧ occupied open15.queues.a < 16 ∧ open15.runs.a.state ≠ .starved
      ∧ starved.runs.a.state = .starved ∧ starved.runs.a.reader = none ∧ occupied starved.queues.a < 16
      ∧ starved.queues.a.nextLoad = 3 :=
  ⟨⟨rfl, rfl, rfl⟩, ⟨rfl, rfl, rfl⟩, ⟨rfl, rfl, rfl⟩, ⟨rfl, rfl, rfl⟩, by decide⟩

/-- The queue of the STARVED run after one more record. -/
def appended (x : Record) : StepQueue := { StepQueue.reset with pending := [{ load := 3, record := x }], nextLoad := 4 }

/-- The walks of that statement: to an ACTION record, and none by a MARK or a REPEAT. -/
theorem witness_LoadStepWalks :
    acceptRecord (encodeRecord .mark) = some .mark ∧ acceptRecord (encodeRecord (.rep 2)) = some (.rep 2)
      ∧ walked walkLimit (appended (.action bake)) = some (some (3, bake), { appended (.action bake) with pending := [] })
      ∧ walked walkLimit (appended .mark) = some (none, { appended .mark with pending := [], mark := true })
      ∧ walked walkLimit (appended (.rep 2)) = some (none, { appended (.rep 2) with pending := [] }) := by decide

theorem witness_CloseRunClosesOrFinishes :
    let o : Opened := { source := .stream .panel, closed := false, watermark := 2 }
    Accepts .panel (withA (runIn .loading) []) ∧ Accepts .panel (withA (runOn .starved .hold bake) [])
      ∧ cavityOf? 0 = some .A ∧ feederOf (runIn .loading) = some .panel ∧ feederOf (runIn .loading) ≠ some .link
      ∧ (runIn .loading).opened = some o ∧ (runIn .loading).state ∈ [RunState.loading, .delayed, .running]
      ∧ (runIn .aborted).state ∈ [RunState.paused, .finished, .aborted] ∧ o.closed = false
      ∧ ({ o with closed := true }).closed = true
      ∧ (runOn .starved .hold bake).opened = some o ∧ (runOn .starved .hold bake).state = .starved :=
  ⟨⟨rfl, rfl, rfl⟩, ⟨rfl, rfl, rfl⟩, by decide⟩

theorem witness_StartRunDelaysOrRefuses :
    let prog := { runIn .loading with opened := some { source := .program 39, closed := true, watermark := 4 } }
    let marks : List Loaded := [{ load := 1, record := .mark }]
    Accepts .panel (withA (runIn .loading) one) ∧ Accepts .panel (withA prog one) ∧ cavityOf? 0 = some .A
      ∧ (runIn .loading).state = .loading ∧ (runIn .running).state ≠ .loading
      ∧ (∃ x ∈ one, isAction x.record = true) ∧ (∀ x ∈ marks, isAction x.record = false)
      ∧ (1 : Half) ≠ 0 ∧ feederOf (runIn .loading) = some .panel ∧ feederOf prog = none
      ∧ isClosed (runIn .loading) = false ∧ one.length ≤ watermarkOf (runIn .loading) :=
  ⟨⟨rfl, rfl, rfl⟩, ⟨rfl, rfl, rfl⟩, by decide⟩

theorem witness_RunEntersRunningOnItsFirstStep :
    let loaded := withA (runIn .loading) one
    let ajar := { loaded with doorOpen := ⟨true, false⟩ }
    let marked := withA (runIn .loading) (waiting [.rep 2, .mark, .action bake])
    let delayed := withA { runIn .delayed with delay := some 0 } one
    WalkReaches 2 bake loaded.queues.a ∧ WalkReaches 4 bake marked.queues.a ∧ Accepts .panel loaded ∧ Accepts .panel marked
      ∧ Accepts .panel ajar ∧ cavityOf? 0 = some .A ∧ loaded.runs.a.state = .loading ∧ marked.runs.a.state = .loading
      ∧ (∃ x ∈ marked.queues.a.pending, isAction x.record = true) ∧ (∃ x ∈ one, isAction x.record = true)
      ∧ ajar.doorOpen.get .A = true ∧ (ajar.timers.get (topOf .A)).interval = .idle
      ∧ ajar.arbiter.get (topOf .A) = .none ∧ (ajar.pairs.get .A).position = none
      ∧ delayed.resetHeld = false ∧ delayed.runs.a.state = .delayed ∧ delayed.runs.a.linked = false
      ∧ delayed.queues.a.pending = one ∧ loaded.runs.a.state ≠ .delayed :=
  ⟨rfl, rfl, ⟨rfl, rfl, rfl⟩, ⟨rfl, rfl, rfl⟩, ⟨rfl, rfl, rfl⟩, by decide⟩

/-- Both runs LOADING, or both DELAYED on the shared timer, with a step each. -/
def both (r : Run) : State :=
  { State.reset with
    runs := ⟨r, r⟩, queues := ⟨{ StepQueue.reset with pending := one }, { StepQueue.reset with pending := one }⟩ }

theorem witness_StartLinkedStartsBothOrNeither :
    let loaded := both (runIn .loading)
    let delayed := both { runIn .delayed with delay := some 10, linked := true }
    Accepts .panel loaded ∧ Accepts .panel delayed
      ∧ (∀ c, (loaded.runs.get c).state = .loading)
      ∧ (∀ c, ∃ x ∈ (loaded.queues.get c).pending, isAction x.record = true)
      ∧ (withA (runIn .loading) one).runs.b.state ≠ .loading
      ∧ WalkReaches 2 bake loaded.queues.a ∧ WalkReaches 2 bake loaded.queues.b
      ∧ (∀ c, (delayed.runs.get c).state = .delayed ∧ (delayed.runs.get c).linked = true)
      ∧ WalkReaches 2 bake delayed.queues.a ∧ WalkReaches 2 bake delayed.queues.b ∧ (65535 : Half) ≠ 0 :=
  ⟨⟨rfl, rfl, rfl⟩, ⟨rfl, rfl, rfl⟩, fun c => by cases c <;> rfl,
    fun c => by cases c <;> exact ⟨_, List.mem_singleton.mpr rfl, rfl⟩, by decide, rfl, rfl,
    fun c => by cases c <;> exact ⟨rfl, rfl⟩, rfl, rfl, by decide⟩

theorem witness_PauseRunPauses :
    Accepts .panel (withA (runOn .running .hold bake) []) ∧ Accepts .panel (withA (runOn .starved .hold bake) [])
      ∧ cavityOf? 0 = some .A ∧ (runOn .running .hold bake).state = .running
      ∧ (runOn .starved .hold bake).state = .starved ∧ (runOn .paused .hold bake).state = .paused
      ∧ Run.idle.state ∈ [RunState.idle, .loading, .delayed, .finished, .aborted] :=
  ⟨⟨rfl, rfl, rfl⟩, ⟨rfl, rfl, rfl⟩, by decide⟩

theorem witness_ResumeRunReturnsToItsState :
    let r := { runOn .paused .hold bake with pausedFrom := some .running, pauseReason := some .order }
    let x := { r with pausedFrom := some .starved, starveTime := some 2999 }
    let before := { runOn .paused .entryPrompt (asking .before) with pausedFrom := some .running, deferred := true }
    let behind := { runOn .paused .exitPrompt (asking .after) with pausedFrom := some .running, deferred := true }
    Accepts .panel (withA r []) ∧ Accepts .panel (withA x []) ∧ Accepts .panel (withA before [])
      ∧ Accepts .panel (withA behind one) ∧ WalkReaches 2 bake (withA behind one).queues.a ∧ cavityOf? 0 = some .A
      ∧ (runIn .loading).state ≠ .paused ∧ r.state = .paused ∧ r.deferred = false ∧ r.pausedFrom ≠ some .starved
      ∧ x.pausedFrom = some .starved ∧ x.starveTime.getD 0 < State.reset.settings.feedTimeout * 10
      ∧ (withA r []).doorOpen.get .A = false ∧ (withA r []).limitLatch.get .A = false
      ∧ before.state = .paused ∧ before.deferred = true ∧ before.pausedFrom = some .running
      ∧ before.phase = some .entryPrompt ∧ before.current = some { load := 1, action := asking .before, band := 5 }
      ∧ behind.state = .paused ∧ behind.deferred = true ∧ behind.phase = some .exitPrompt :=
  ⟨⟨rfl, rfl, rfl⟩, ⟨rfl, rfl, rfl⟩, ⟨rfl, rfl, rfl⟩, ⟨rfl, rfl, rfl⟩, rfl, by decide⟩

theorem witness_ResumeRunEndsOrStarves :
    let behind := { runOn .paused .exitPrompt (asking .after) with pausedFrom := some .running, deferred := true }
    let closed := { behind with opened := some { source := .stream .panel, closed := true, watermark := 2 } }
    let late := { runOn .paused .hold bake with pausedFrom := some .starved, starveTime := some 3000 }
    Accepts .panel (withA behind []) ∧ Accepts .panel (withA closed []) ∧ Accepts .panel (withA late [])
      ∧ behind.state = .paused ∧ behind.deferred = true ∧ behind.pausedFrom = some .running
      ∧ behind.phase = some .exitPrompt ∧ behind.reader = none ∧ isClosed behind = false ∧ isClosed closed = true
      ∧ feederOf behind = some .panel ∧ 0 < State.reset.settings.feedTimeout
      ∧ walked walkLimit (withA behind []).queues.a = some (none, (withA behind []).queues.a)
      ∧ late.deferred = false ∧ late.pausedFrom = some .starved
      ∧ State.reset.settings.feedTimeout * 10 ≤ late.starveTime.getD 0 :=
  ⟨⟨rfl, rfl, rfl⟩, ⟨rfl, rfl, rfl⟩, ⟨rfl, rfl, rfl⟩, by decide⟩

theorem test_resumption_ends_the_wait_for_the_feeder :
    let late := { runOn .paused .hold bake with pausedFrom := some .starved, starveTime := some 3000 }
    (after (.resumeRun .panel 1 0) (withA late [])).runs.a.abortReason = some .feedLost := by decide

theorem witness_StopAndClearEndTheRecord :
    Accepts .panel (withA (runIn .loading) one) ∧ cavityOf? 0 = some .A ∧ (runIn .loading).state = .loading
      ∧ (runIn .paused).state ∈ [RunState.delayed, .running, .starved, .paused]
      ∧ (runIn .aborted).state ∈ [RunState.idle, .finished, .aborted]
      ∧ (runIn .aborted).state ∈ [RunState.finished, .aborted] ∧ Run.idle.state ∉ [RunState.finished, .aborted] :=
  ⟨⟨rfl, rfl, rfl⟩, by decide⟩

theorem witness_AdoptRunMovesTheFeeder :
    let s := withA (runOn .starved .hold bake) []
    Accepts .panel s ∧ Accepts .link s ∧ cavityOf? 0 = some .A ∧ s.runs.a.state = .starved
      ∧ feederOf s.runs.a = some .panel ∧ (runIn .running).state ≠ .starved ∧ feederOf Run.idle = none
      ∧ s.runs.a.opened = some { source := .stream .panel, closed := false, watermark := 2 } ∧ Port.panel ≠ .link :=
  ⟨⟨rfl, rfl, rfl⟩, ⟨rfl, rfl, rfl⟩, by decide⟩

theorem witness_StepEndsAtItsEndCondition :
    let plain := held .editA (withA (runOn .running .hold bake) one)
    let asks := held .editA (withA (runOn .running .heatup (asking .after)) [])
    let left := runOn .running .exitPrompt (asking .after)
    let closed := withA { runOn .running .hold bake with
      opened := some { source := .stream .panel, closed := true, watermark := 2 } } []
    Accepts .panel plain ∧ Accepts .panel asks ∧ cavityOf? 0 = some .A
      ∧ plain.holds.get (editHold .A) = some { holder := .panel, expiry := 300 }
      ∧ asks.holds.get (editHold .A) = some { holder := .panel, expiry := 300 }
      ∧ (runIn .loading).state ≠ .running ∧ plain.runs.a.state = .running
      ∧ (asks.runs.a.phase = some .heatup ∧ plain.runs.a.phase = some .hold ∧ left.phase = some .exitPrompt)
      ∧ left.current = some { load := 1, action := asking .after, band := 5 }
      ∧ asks.runs.a.current = some { load := 1, action := asking .after, band := 5 }
      ∧ (asking .after).prompt
          = some { code := 7, placement := .after, doorAck := false, timeout := 0, onTimeout := .cont }
      ∧ plain.runs.a.current = some { load := 1, action := bake, band := 5 } ∧ bake.prompt = none
      ∧ plain.resetHeld = false ∧ stepCounts plain.runs.a = true
      ∧ stepCounts asks.runs.a = true ∧ stepCounts (runIn .loading) = false
      ∧ stepCounts closed.runs.a = true ∧ closed.runs.a.reader = none ∧ isClosed closed.runs.a = true
      ∧ isClosed plain.runs.a = false ∧ feederOf plain.runs.a = some .panel :=
  ⟨⟨rfl, rfl, rfl⟩, ⟨rfl, rfl, rfl⟩, by decide⟩

/-- The walks of that statement: to an ACTION record, through a loop's REPEAT and a stray one, and to an empty queue,
with an overrun mark and without. -/
theorem witness_StepEndsWalks :
    let loop := { queueOf [.rep 2] with retained := [{ load := 1, action := bake }], mark := true }
    let stray := queueOf [.rep 2, .action bake]
    walked walkLimit loop
        = some (some (1, bake), { loop with loop := some 1 })
      ∧ stray.mark = false
      ∧ stray.pending = { load := 2, record := .rep 2 } :: { load := 3, record := .action bake } :: []
      ∧ walked walkLimit stray = some (some (3, bake), { stray with pending := [] })
      ∧ walked walkLimit StepQueue.reset = some (none, StepQueue.reset)
      ∧ walked walkLimit fullMark = some (none, fullMark) ∧ fullMark.mark = true ∧ fullMark.retained.length = 16 := by
  decide

theorem witness_AdjustStepChangesTheCopy :
    let s := held .editA (withA (runOn .running .hold bake) [])
    Accepts .panel s ∧ cavityOf? 0 = some .A ∧ s.holds.get (editHold .A) = some { holder := .panel, expiry := 300 }
      ∧ (runIn .running).current = none ∧ (runIn .loading).state ∉ [RunState.running, .starved, .paused]
      ∧ s.runs.a.current = some { load := 1, action := bake, band := 5 }
      ∧ s.runs.a.state ∈ [RunState.running, .starved, .paused]
      ∧ ((0 : Byte).toNat = 0 ∧ 8 ≤ (8 : Byte).toNat ∧ (1 : Byte).getLsbD 0 = true ∧ (29 : Byte).toNat < 30
          ∧ 250 < (251 : Byte).toNat ∧ (2 : Byte).getLsbD 1 = true ∧ (0 : Half).toNat = 0
          ∧ (4 : Byte).getLsbD 2 = true ∧ (55 : Byte).toNat % 10 ≠ 0 ∧ 100 < (110 : Byte).toNat)
      ∧ ((runOn .starved .hold bake).state = .starved ∧ (runOn .running .exitPrompt bake).phase = some .exitPrompt)
      ∧ (s.runs.a.state ≠ .starved ∧ s.runs.a.phase ≠ some .exitPrompt) ∧ probing.duration = none
      ∧ ((7 : Byte).toNat < 8 ∧ (7 : Byte).getLsbD 0 = true ∧ (7 : Byte).getLsbD 1 = true ∧ (7 : Byte).getLsbD 2 = true)
      ∧ (30 ≤ (30 : Byte).toNat ∧ (250 : Byte).toNat ≤ 250 ∧ bake.heat ≠ .noHeat) ∧ 0 < (1 : Half).toNat
      ∧ ((100 : Byte).toNat % 10 = 0 ∧ (100 : Byte).toNat ≤ 100) :=
  ⟨⟨rfl, rfl, rfl⟩, by decide⟩

/-- The three parts at once. -/
theorem test_adjust_step_takes_every_part :
    let t := after (.adjustStep .panel 1 0 7 200 90 30) (held .editA (withA (runOn .running .hold probing) []))
    t.runs.a.remaining = some 900
      ∧ t.runs.a.current.map (fun x => (x.action.target, x.action.duration, x.action.steam))
        = some (some 200, some 90, 30) := by decide

theorem witness_WatchOrdersWriteTheirSlot :
    let s := held .editA State.reset
    Accepts .panel s ∧ cavityOf? 0 = some .A ∧ s.holds.get (editHold .A) = some { holder := .panel, expiry := 300 }
      ∧ watchSourceOf? 0 = some .cavity ∧ watchSourceOf? 1 = some .core ∧ watchRelationOf? 1 = some .atOrBelow
      ∧ watchActionOf? 2 = some .pauseRun ∧ (300 : Half).toNat ≤ 300 ∧ (120 : Half).toNat ≤ 120
      ∧ ((3 : Byte) ≠ 1 ∧ (3 : Byte) ≠ 2)
      ∧ (1 < (2 : Byte).toNat ∧ 2 < (3 : Byte).toNat ∧ 300 < (301 : Half).toNat ∧ 120 < (121 : Half).toNat) :=
  ⟨⟨rfl, rfl, rfl⟩, by decide⟩

theorem witness_FeederAndDoorTimeoutsEndTheWait :
    let suspended := { runOn .running .hold bake with doorSuspended := true, doorTime := some 6000 }
    State.reset.resetHeld = false ∧ (runIn .running).state ≠ .starved ∧ (runOn .starved .hold bake).state = .starved
      ∧ (runIn .running).doorSuspended = false ∧ suspended.doorSuspended = true ∧ suspended.state = .running := by
  decide

/-! ## Witnesses: climate, drive timers and the power chain -/

/-- Cavity A in HOLD on a step with its loop at a setpoint. -/
def looped (a : Action) (setpoint : Nat) : State :=
  { withA (runOn .running .hold a) [] with
    climates := ⟨{ Climate.reset with
      loop := some { case := .heating, reached := true, setpoint := setpoint, remainder := 40 }, updateTime := some 20 },
      Climate.reset⟩ }

theorem witness_RegulationMovesTheSetpoint :
    let s := looped { bake with ramp := 10 } 17990
    s.resetHeld = false ∧ counting (runIn .loading) = false ∧ counting s.runs.a = true
      ∧ s.runs.a.current = some { load := 1, action := { bake with ramp := 10 }, band := 5 } ∧ bake.target = some 180
      ∧ (s.climates.get .A).loop = some { case := .heating, reached := true, setpoint := 17990, remainder := 40 }
      ∧ 17990 < 180 * 100 ∧ (looped bake 18000).climates.a.loop.map (·.setpoint) = some (180 * 100)
      ∧ 180 * 100 < 18001 := by decide

theorem witness_RegulationWritesTheHolds :
    let s := looped bake 18000
    s.resetHeld = false ∧ counting s.runs.a = true
      ∧ s.runs.a.current = some { load := 1, action := bake, band := 5 } ∧ bake.target = some 180
      ∧ (s.climates.get .A).loop = some { case := .heating, reached := true, setpoint := 180 * 100, remainder := 40 }
      ∧ 0 < s.settings.propBand ∧ (s.sensors.get (cavitySensor .A)).reading = some 200 := by decide

/-- The setpoint moves, and the demand is that of the setpoint it moves to; a step without a target asks for nothing. -/
theorem witness_RegulationMovesThenWrites :
    let moving := { bake with ramp := 10 }
    let s := looped moving 17990
    let rest := withA (runOn .running .hold { bake with target := none, heat := .noHeat }) []
    s.runs.a.current = some { load := 1, action := moving, band := 5 } ∧ moving.target = some 180
      ∧ s.climates.a.loop.map (·.setpoint) = some 17990
      ∧ (after (.regulationUpdate .A) s).climates.a.loop.map (·.setpoint) = some 18000
      ∧ rest.resetHeld = false ∧ counting rest.runs.a = true
      ∧ rest.runs.a.current.map (·.action.target) = some none ∧ rest.runs.a.current.map (·.action.heat) = some .noHeat
      ∧ (after (.regulationUpdate .A) rest).climates.a.demand = 0 := by decide

/-- One timer with its holds, interval and status. -/
def timed (l : Load) (x : Timer) (st : LoadStatus) : State :=
  { State.reset with timers := State.reset.timers.set l x, arbiter := State.reset.arbiter.set l st }

/-- Counts of every kind standing, none at its end. -/
def ticking : State :=
  let x : Timer := { on := 100, off := 100, interval := .onInterval, frozen := false, remaining := some 2, waited := 0 }
  { held .store (timed .aRing x .granted) with
    runs := ⟨{ runOn .running .hold bake with remaining := some 2 },
      { runOn .starved .hold bake with starveTime := some 2998, doorSuspended := true, doorTime := some 5998 }⟩
    climates := ⟨{ Climate.reset with updateTime := some 18 }, Climate.reset⟩
    gen := { Gen.start true false with
      state := .filling, fill := some { purpose := .steam, source := .tank, watchdog := 38 } }
    meter := { Meter.reset with
      fill := some { source := .tank, purpose := .steam, pulses := 5, period := none, quiet := 38, measuring := true } }
    prompts := ⟨some { entry 7 .notice with timeout := some 2, onTimeout := some .cont }, none, none, none⟩ }

theorem witness_TimePassesWithNothingDue :
    NothingDue ticking ∧ ticking.pending = [] ∧ ticking.resetHeld = false := by
  refine ⟨⟨?_, ?_, ?_, ?_, ?_, ?_, ?_⟩, rfl, rfl⟩
  · exact ⟨by decide, by decide, by decide, fun _ n h => by cases h; decide, fun _ n h => by cases h; decide⟩
  · refine ⟨by decide, fun _ n h => by cases h; decide, fun _ n h => by cases h; decide, by decide, by decide⟩
  · refine ⟨by decide, fun n h => (by cases h), fun _ f h => (by cases h; decide), fun n h => (by cases h),
      fun n h => (by cases h), fun _ n h => (by cases h), fun n h => (by cases h), fun n h => (by cases h),
      fun f h => (by cases h; decide)⟩
  · exact fun _ n h => by cases h
  · intro o e n he hn
    cases o <;> cases he <;> cases hn <;> decide
  · intro l n _ _ hn
    cases l <;> cases hn <;> decide
  · intro h k hk
    cases h <;> cases hk <;> decide

/-- The alternate pair of cavity A at a position, its top and bottom with a turn each. -/
def paired (pos : PairPosition) (l : Load) : State :=
  let x : Timer := { on := 100, off := 0, interval := .offInterval, frozen := false, remaining := none, waited := 0 }
  { State.reset with
    timers := ({ State.reset.timers with aTop := x, aBottom := x }).set l { x with
      interval := if pos = PairPosition.pairOff then .offInterval else .onInterval, remaining := some 0 }
    arbiter := State.reset.arbiter.set l (if pos = PairPosition.pairOff then .none else .granted)
    pairs := ⟨{ paired := true, position := some pos, offHold := 200 }, Pair.none⟩ }

/-- The same pair with its holds at other values. -/
def pairedAt (pos : PairPosition) (l : Load) (top bottom off : Nat) : State :=
  let s := paired pos l
  { s with
    timers := { s.timers with aTop := { s.timers.aTop with on := top }, aBottom := { s.timers.aBottom with on := bottom } }
    pairs := ⟨{ paired := true, position := some pos, offHold := off }, Pair.none⟩ }

theorem witness_OnIntervalEndsByTheHolds :
    let x : Timer := { on := 100, off := 100, interval := .onInterval, frozen := false, remaining := some 0, waited := 0 }
    let s := timed .aRing x .granted
    s.resetHeld = false ∧ (Timer.reset).interval ≠ .onInterval ∧ (s.timers.get .aRing).interval = .onInterval
      ∧ (s.timers.get .aRing).frozen = false ∧ singleOff .aRing s = true ∧ 0 < (s.timers.get .aRing).off
      ∧ singleOff .aRing (timed .aRing { x with off := 0 } .granted) = true
      ∧ ((paired .topTurn .aTop).timers.get .aTop).interval = .onInterval
      ∧ ((paired .topTurn .aTop).pairs.get .A).paired = true
      ∧ 0 < ((paired .topTurn .aTop).timers.get (bottomOf .A)).on
      ∧ ((paired .bottomTurn .aBottom).timers.get .aBottom).interval = .onInterval
      ∧ 0 < ((paired .bottomTurn .aBottom).pairs.get .A).offHold := by decide

theorem witness_PairTurnsAreSkipped :
    let t := pairedAt .topTurn .aTop
    let b := pairedAt .bottomTurn .aBottom
    (t 100 0 0).arbiter.get (bottomOf .A) = .none ∧ (b 0 100 0).arbiter.get (topOf .A) = .none ∧ ((t 100 0 200).timers.aTop.interval = .onInterval ∧ (t 100 0 200).timers.aTop.frozen = false
        ∧ ((t 100 0 200).timers.get (bottomOf .A)).on = 0 ∧ 0 < ((t 100 0 200).pairs.get .A).offHold)
      ∧ ((t 100 0 0).pairs.get .A).offHold = 0 ∧ 0 < (t 100 0 0).timers.aTop.on
      ∧ (b 100 100 0).timers.aBottom.interval = .onInterval ∧ ((b 100 100 0).pairs.get .A).offHold = 0
      ∧ 0 < ((b 100 100 0).timers.get (topOf .A)).on ∧ ((b 0 100 0).timers.get (topOf .A)).on = 0
      ∧ 0 < (b 0 100 0).timers.aBottom.on ∧ ((b 0 0 0).timers.get (bottomOf .A)).on = 0 := by decide

theorem test_pair_turns_are_skipped :
    (after (.onIntervalExpiry .aTop) (pairedAt .topTurn .aTop 100 0 0)).pairs.a.position = some .topTurn
      ∧ (after (.onIntervalExpiry .aBottom) (pairedAt .bottomTurn .aBottom 0 100 0)).pairs.a.position = some .bottomTurn
      ∧ (after (.onIntervalExpiry .aTop) (pairedAt .topTurn .aTop 100 0 200)).pairs.a.position = some .pairOff
      ∧ (after (.onIntervalExpiry .aBottom) (pairedAt .bottomTurn .aBottom 100 100 0)).pairs.a.position = some .topTurn
      ∧ (after (.onIntervalExpiry .aBottom) (pairedAt .bottomTurn .aBottom 0 0 0)).pairs.a.position = none := by decide

theorem witness_OffIntervalEndsInAnOnInterval :
    let x : Timer := { on := 100, off := 100, interval := .offInterval, frozen := false, remaining := some 0, waited := 0 }
    let s := timed .aRing x .none
    s.resetHeld = false ∧ (Timer.reset).interval ≠ .offInterval ∧ (s.timers.get .aRing).interval = .offInterval
      ∧ singleOff .aRing s = true ∧ 0 < (s.timers.get .aRing).on
      ∧ singleOff .aRing (timed .aRing { x with on := 0 } .none) = true
      ∧ singleOff .aRing (timed .aRing { x with on := 0, off := 0 } .none) = true
      ∧ ((State.reset).pairs.get .A).paired = false
      ∧ ((paired .pairOff .aTop).pairs.get .A).position = some .pairOff
      ∧ ((paired .pairOff .aTop).timers.get (topOf .A)).frozen = false
      ∧ 0 < ((paired .pairOff .aTop).timers.get (topOf .A)).on
      ∧ (paired .pairOff .aTop).arbiter.get (bottomOf .A) = .none := by decide

theorem witness_PairOffEndsInTheNextTurn :
    let p := pairedAt .pairOff .aTop
    ((p 0 100 200).pairs.get .A).paired = true ∧ ((p 0 100 200).pairs.get .A).position = some .pairOff
      ∧ ((p 0 100 200).timers.get (topOf .A)).frozen = false ∧ ((p 0 100 200).timers.get (topOf .A)).on = 0
      ∧ 0 < ((p 0 100 200).timers.get (bottomOf .A)).on ∧ (p 0 100 200).arbiter.get (topOf .A) = .none
      ∧ ((p 0 0 200).timers.get (bottomOf .A)).on = 0 ∧ 0 < ((p 0 0 200).pairs.get .A).offHold
      ∧ ((p 0 0 0).pairs.get .A).offHold = 0
      ∧ (after (.pairOffExpiry .A) (p 0 100 200)).pairs.a.position = some .bottomTurn := by decide

theorem witness_GrantDecisionStopsAtTheFirstThatDoesNotFit :
    let s := { State.reset with arbiter := { PerLoad.all .none with aRing := .waiting, bRing := .waiting } }
    let t := grantDecision { State.reset with arbiter := { PerLoad.all .none with genHeat := .waiting, aRing := .waiting } }
    chainOk s.settings.chain = true ∧ s.mains.low = false ∧ s.arbiter.get .genHeat ≠ .waiting
      ∧ s.arbiter.get .aRing = .waiting ∧ breakLoad (grantDecision s) = none ∧ breakLoad t = some .aRing
      ∧ s.settings.chain = [.genHeat] ++ .aRing :: [.bRing, .aTop, .bTop, .aBottom, .bBottom]
      ∧ ratingsWithin s.settings = true ∧ (∀ l ∈ allLoads, s.arbiter.get l ≠ .granted)
      ∧ grantedSum s ≤ s.settings.budget := by decide

theorem witness_OutputsStayWithinTheBudget :
    let x : Timer := { on := 100, off := 100, interval := .onInterval, frozen := false, remaining := some 5, waited := 0 }
    let s := timed .genHeat x .granted
    PowerSafe s ∧ loadOutput .genHeat s = true ∧ PowerSafe { State.reset with mains := { State.reset.mains with low := true } } :=
  ⟨⟨by decide, by decide, by decide, fun h => absurd h (by decide)⟩, by decide,
    by decide, by decide, by decide, fun _ l => by cases l <;> decide⟩

/-! ## Witnesses: steam generator, water and descaling -/

theorem witness_LevelElectrodesDriveTheGenerator :
    let s := filling .filling .plumbed
    let full : State := { s with scale := { s.scale with points := 255, carry := 99 } }
    let solution := pouring .fillSolution .descaleSolution .tank
    let wet := withGen .ready
    let called := wanted wet
    s.resetHeld = false ∧ s.gen.levelHighWet = false ∧ s.gen.state = .filling
      ∧ (filling .waterWait .tank).gen.state = .waterWait
      ∧ s.gen.fill = some { purpose := .steam, source := .plumbed, watchdog := 10 }
      ∧ s.meter.fill = some { source := .plumbed, purpose := .steam, pulses := 5, period := none, quiet := 0, measuring := true }
      ∧ full.scale.warn = false ∧ full.scale.lock = false
      ∧ solution.gen.state = .descale ∧ solution.proc.phase = .fillSolution ∧ solution.gen.levelHighWet = false
      ∧ (pouring .rinseFill .rinse .plumbed).proc.phase = .rinseFill
      ∧ s.gen.levelLowWet = false ∧ wet.gen.levelLowWet = true
      ∧ wet.gen.state ∈ [GenState.heating, .ready, .delivering] ∧ anyDemand wet = false
      ∧ called.gen.levelLowWet = true ∧ called.gen.state ∈ [GenState.heating, .ready, .delivering]
      ∧ called.scale.lock = false ∧ anyDemand called = true ∧ called.gen.levelHighWet = false
      ∧ called.tankPresent = true ∧ (withGen .filling).gen.state ∉ [GenState.heating, .ready, .delivering]
      ∧ ({ called.gen with levelHighWet := true }).levelHighWet = true := by decide

/-- A top-up that is complete or waits at its start. -/
theorem witness_TopUpsThatStartEnded :
    let full := wanted (withGen .ready)
    let dry := { wanted (withGen .ready) with tankPresent := false }
    full.gen.levelLowWet = true ∧ full.gen.state ∈ [GenState.heating, .ready, .delivering] ∧ full.scale.lock = false
      ∧ anyDemand full = true ∧ ({ full.gen with levelHighWet := true }).levelHighWet = true
      ∧ dry.settings.waterSource = .tank ∧ dry.tankPresent = false ∧ dry.gen.levelHighWet = false
      ∧ (after (.levelLowDry false) { full with gen := { full.gen with levelHighWet := true } }).gen.state = .heating
      ∧ (after (.levelLowDry false) dry).gen.state = .waterWait := by decide

/-- LEVEL_HIGH wets with no fill open. -/
theorem witness_LevelHighWetsWithoutAFill :
    (withGen .ready).resetHeld = false ∧ (withGen .ready).gen.fill = none ∧ (withGen .ready).gen.levelHighWet = false
      ∧ (after .levelHighWet (withGen .ready)).gen.levelHighWet = true := by decide

/-- LEVEL_HIGH in DESCALE ends the fill and accrues nothing. -/
theorem test_level_high_in_descale :
    let t := after .levelHighWet (pouring .fillSolution .descaleSolution .tank)
    let u := after .levelHighWet (pouring .rinseFill .rinse .plumbed)
    t.proc.phase = .heatSoak ∧ t.proc.solutionVolume = some (500 / State.reset.settings.flowCal)
      ∧ u.proc.phase = .rinseDrain ∧ drainPump u = true ∧ t.scale.points = 0 ∧ t.meter.total = 0 := by decide

theorem witness_StallsAndTankEventsMoveTheFill :
    let out := { State.reset with tankPresent := false }
    let waits := { filling .waterWait .tank with
      tankPresent := false
      prompts := ⟨none, none, some { entry 240 .device with tankRemoved := true }, none⟩ }
    let piped := pouring .rinseFill .rinse .plumbed
    (filling .filling .tank).resetHeld = false ∧ fillRunning State.reset = false
      ∧ (filling .filling .tank).gen.state = .filling ∧ (filling .filling .tank).mains.low = false
      ∧ anyDemand (filling .filling .tank) = false ∧ anyDemand (wanted (filling .filling .tank)) = true
      ∧ (filling .filling .tank).gen.fill = some { purpose := .steam, source := .tank, watchdog := 10 }
      ∧ (filling .filling .plumbed).gen.fill = some { purpose := .steam, source := .plumbed, watchdog := 10 }
      ∧ (pouring .fillSolution .descaleSolution .tank).gen.state = .descale
      ∧ (pouring .fillSolution .descaleSolution .tank).gen.fill
          = some { purpose := .descaleSolution, source := .tank, watchdog := 10 }
      ∧ (pouring .fillSolution .descaleSolution .tank).proc.phase = .fillSolution
      ∧ (pouring .fillSolution .descaleSolution .tank).prompts.generator = none
      ∧ (pouring .rinseFill .rinse .tank).gen.fill = some { purpose := .rinse, source := .tank, watchdog := 10 }
      ∧ piped.gen.fill = some { purpose := .rinse, source := .plumbed, watchdog := 10 }
      ∧ piped.proc.phase = .rinseFill ∧ piped.proc.kind = some .descale ∧ piped.mains.low = false
      ∧ out.tankPresent = false ∧ (State.reset).tankPresent = true ∧ (State.reset).prompts.generator = none
      ∧ (State.reset).prompts.descaler = none ∧ (filling .filling .tank).prompts.descaler = none
      ∧ (240 ≤ (entry 242 .device).code ∧ (entry 242 .device).code ≤ 242)
      ∧ waits.gen.state = .waterWait ∧ waits.tankPresent = false
      ∧ waits.prompts.generator = some { entry 240 .device with tankRemoved := true }
      ∧ waits.prompts.descaler = none := by decide

/-- A tank removal marks a standing REFILL_TANK, and stalls a fill under mains-low too. -/
theorem witness_TankRemovalInWaterWaitAndUnderMainsLow :
    let standing := { filling .waterWait .tank with prompts := ⟨none, none, some (entry 240 .device), none⟩ }
    let low := { wanted (filling .filling .tank) with mains := { low := true, lowTime := some 3, expiryGiven := false } }
    standing.tankPresent = true ∧ fillRunning standing = false ∧ (entry 240 .device).code = 240
      ∧ standing.prompts.generator = some (entry 240 .device) ∧ standing.prompts.descaler = none
      ∧ (after .tankRemoval standing).prompts.generator.map (·.tankRemoved) = some true
      ∧ low.gen.state = .filling ∧ low.gen.fill.map (·.source) = some .tank ∧ low.tankPresent = true
      ∧ low.prompts.descaler = none ∧ anyDemand low = true ∧ low.mains.low = true
      ∧ (after .tankRemoval low).gen.state = .waterWait ∧ (after .fillWatchdogStall low).gen.state = .filling := by
  decide

/-- The descaler's prompt and the tank: back in place it is answered and the fill begins. -/
theorem witness_TankAnswersTheDescaler :
    let s := promptedDescale .waitSolution 241 false .tank
    let u := promptedDescale .waitRinse 242 false .tank
    s.resetHeld = false ∧ s.tankPresent = false ∧ s.gen.state = .descale ∧ s.gen.levelHighWet = false
      ∧ s.prompts.descaler = some { entry 241 .device with tankRemoved := true } ∧ s.prompts.generator = none
      ∧ s.proc.phase = .waitSolution ∧ u.proc.phase = .waitRinse ∧ u.proc.rinseSource = some .tank
      ∧ (after .tankInsertion s).proc.phase = .fillSolution ∧ (after .tankInsertion u).proc.phase = .rinseFill := by decide

/-- The same with LEVEL_HIGH wet: the fill is complete at its start. -/
theorem witness_DescaleFillsThatStartComplete :
    let wet (s : State) : State := { s with gen := { s.gen with levelHighWet := true } }
    let s := wet (promptedDescale .waitSolution 241 false .tank)
    let u := wet (promptedDescale .waitRinse 242 true .plumbed)
    s.tankPresent = false ∧ s.gen.state = .descale ∧ s.gen.levelHighWet = true ∧ s.proc.phase = .waitSolution
      ∧ s.prompts.descaler.map (·.tankRemoved) = some true ∧ s.prompts.generator = none
      ∧ (after .tankInsertion s).proc.phase = .heatSoak ∧ (after .tankInsertion s).proc.solutionVolume = some 0
      ∧ Accepts .panel u ∧ u.proc.phase = .waitRinse ∧ u.proc.rinseSource = some .plumbed
      ∧ (after (.ackPrompt .panel 1 1) u).proc.phase = .rinseDrain :=
  ⟨rfl, rfl, rfl, rfl, rfl, rfl, by decide, by decide, ⟨rfl, rfl, rfl⟩, rfl, rfl, by decide⟩

theorem test_stalls_in_descale :
    (after .fillWatchdogStall (pouring .fillSolution .descaleSolution .tank)).proc.phase = .waitSolution
      ∧ (after .fillWatchdogStall (pouring .rinseFill .rinse .tank)).proc.phase = .waitRinse
      ∧ (after .fillWatchdogStall (pouring .rinseFill .rinse .plumbed)).proc.lastOutcome
        = some (.aborted .descale .noWater .rinseFill) := by decide

/-- A READY or DELIVERING generator with credits and the demands of both cavities. -/
def serving (st : GenState) (credit : PerCavity Nat) (last : Option Cavity) (a b : Demand) : State :=
  { State.reset with
    gen := { Gen.start true false with
      state := st, credit := credit, lastServed := last
      demand := ⟨{ status := a, level := 50, load := 1 }, { status := b, level := 50, load := 1 }⟩ } }

theorem witness_WindowEndServesByCredit :
    let one := serving .ready ⟨50, 0⟩ none .present .absent
    let two := serving .delivering ⟨50, 180⟩ (some .B) .present .present
    let new := serving .ready ⟨100, 100⟩ none .present .present
    let few := serving .delivering ⟨49, 200⟩ (some .A) .present .suspended
    one.resetHeld = false ∧ (State.reset).gen.state ∉ [GenState.ready, .delivering]
      ∧ one.gen.state = .ready ∧ (100 ≤ min 200 (50 + 50) ∧ one.gen.demand.b.status ≠ .present)
      ∧ two.gen.state = .delivering ∧ two.gen.demand.a.status = .present ∧ two.gen.demand.b.status = .present
      ∧ min 200 (180 + 50) = 200 ∧ two.gen.lastServed = some (otherCavity .A)
      ∧ new.gen.lastServed = none ∧ few.gen.state = .delivering ∧ ¬ 100 ≤ min 200 (49 + 50)
      ∧ few.gen.demand.b.status ≠ .present := by decide

theorem witness_DrainsEndAndSlowHeatingIsReported :
    let drain (low : Bool) (k : AfterDrain) : State := { State.reset with
      gen := { Gen.start low false with
        state := .draining, afterDrain := some k, drainTime := some 200, dryTime := some 200 } }
    let hot := { withGen .heating with arbiter := { PerLoad.all LoadStatus.none with genHeat := .granted } }
    (withGen .ready).resetHeld = false ∧ (withGen .ready).gen.state = .ready ∧ anyDemand (withGen .ready) = false
      ∧ (State.reset).gen.state ≠ .ready ∧ drainRunning State.reset = false
      ∧ (drain false .rinseOwed).gen.state = .draining ∧ (drain false .rinseOwed).gen.levelLowWet = false
      ∧ (drain false .rinseOwed).mains.low = false ∧ (drain false .rinseOwed).gen.afterDrain = some .rinseOwed
      ∧ (drain false .empty).gen.afterDrain = some .empty ∧ anyPresent (drain false .empty) = false
      ∧ (drain false .empty).gen.levelHighWet = false ∧ (drain false .empty).tankPresent = true
      ∧ anyPresent { drain false .empty with
          gen := { (drain false .empty).gen with
            demand := ⟨{ status := .present, level := 10, load := 1 }, DemandReport.none⟩ } } = true
      ∧ (drain true .empty).gen.levelLowWet = true
      ∧ hot.gen.state = .heating ∧ hot.arbiter.genHeat = .granted ∧ hot.gen.slowPosted = false
      ∧ hot.scale.points < hot.settings.scaleWarn ∧ (withGen .heating).arbiter.genHeat ≠ .granted := by decide

/-- The drains that the descale controller has asked for, in each phase. -/
theorem witness_DrainsEndInDescale :
    let rinsed := reporting .rinseDrain .descale 2 false .tank
    let prep := reporting .prepDrain .descale 0 false .tank
    prep.resetHeld = false ∧ prep.mains.low = false ∧ prep.gen.state = .descale ∧ prep.gen.afterDrain = some .report
      ∧ prep.proc.kind = some .descale ∧ prep.gen.levelLowWet = false ∧ prep.proc.phase = .prepDrain
      ∧ (reporting .drainSolution .descale 0 false .plumbed).proc.phase = .drainSolution
      ∧ (reporting .drainSolution .descale 0 false .plumbed).proc.rinseSource = some .plumbed
      ∧ (reporting .drainSolution .descale 0 false .plumbed).gen.levelHighWet = false
      ∧ rinsed.proc.phase = .rinseDrain ∧ rinsed.proc.rinseNumber = some 2 ∧ rinsed.proc.rinseSource = some .tank
      ∧ (1 < rinsed.settings.rinseCount ∧ rinsed.settings.rinseCount ≤ 2) ∧ anyPresent rinsed = false
      ∧ (reporting .rinseDrain .rinse 2 false .tank).proc.kind = some .rinse
      ∧ (reporting .soak .descale 0 true .tank).gen.levelLowWet = true
      ∧ (reporting .soak .descale 0 true .tank).proc.phase ≠ .idle := by decide

/-- A drain's end that brings a fill complete or waiting at its start. -/
theorem witness_DrainsEndInAFill :
    let s := wanted { State.reset with
      gen := { Gen.start false true with state := .draining, afterDrain := some .empty, drainTime := some 200 } }
    let u := wanted { State.reset with
      tankPresent := false
      gen := { Gen.start false false with state := .draining, afterDrain := some .empty, drainTime := some 200 } }
    let w := reporting .drainSolution .descale 0 false .plumbed
    let rinse := { w with gen := { w.gen with levelHighWet := true } }
    s.gen.levelLowWet = false ∧ s.mains.low = false ∧ anyPresent s = true ∧ s.scale.lock = false
      ∧ s.gen.levelHighWet = true ∧ (after .drainComplete s).gen.state = .heating
      ∧ u.settings.waterSource = .tank ∧ u.tankPresent = false ∧ u.gen.levelHighWet = false
      ∧ (after .drainComplete u).gen.state = .waterWait
      ∧ rinse.proc.rinseSource = some .plumbed ∧ rinse.gen.levelHighWet = true
      ∧ (after .drainComplete rinse).proc.phase = .rinseDrain := by decide

theorem test_drains_in_descale :
    (after .drainComplete (reporting .prepDrain .descale 0 false .tank)).proc.phase = .waitSolution
      ∧ (after .drainComplete (reporting .drainSolution .descale 0 false .plumbed)).proc.phase = .rinseFill
      ∧ (after .drainComplete (reporting .rinseDrain .descale 2 false .tank)).proc.lastOutcome = some (.complete .descale)
      ∧ (after .drainFail (reporting .drainSolution .descale 0 true .tank)).gen.faultKind = some .drainFail := by decide

theorem witness_GeneratorOrdersAnswerByState :
    let faulted := { State.reset with gen := { Gen.start false false with state := .fault, faultKind := some .noWater } }
    Accepts .panel (withGen .ready) ∧ Accepts .panel faulted
      ∧ (withGen .ready).gen.state ∈ [GenState.filling, .waterWait, .heating, .ready, .delivering]
      ∧ anyDemand (withGen .ready) = false ∧ anyDemand (serving .ready ⟨0, 0⟩ none .suspended .absent) = true
      ∧ (filling .waterWait .tank).gen.fill ≠ none ∧ (withGen .draining).gen.state = .draining
      ∧ (State.reset).gen.state ∈ [GenState.empty, .rinseOwed, .fault] ∧ (inPhase .soak).gen.state = .descale
      ∧ (State.reset).gen.state ≠ .fault ∧ faulted.gen.state = .fault
      ∧ faulted.sensors.genTemp.status ≠ .faulted :=
  ⟨⟨rfl, rfl, rfl⟩, ⟨rfl, rfl, rfl⟩, by decide⟩

theorem witness_FlowPulsesAreMetered :
    let s := filling .filling .tank
    let solution := pouring .fillSolution .descaleSolution .tank
    s.resetHeld = false ∧ (State.reset).meter.fill = none ∧ (State.reset).gen.fill = none
      ∧ s.meter.fill = some { source := .tank, purpose := .steam, pulses := 5, period := none, quiet := 0, measuring := true }
      ∧ s.gen.fill = some { purpose := .steam, source := .tank, watchdog := 10 }
      ∧ s.gen.state ∉ [GenState.fault, .descale] ∧ solution.gen.state = .descale ∧ solution.proc.kind = some .descale
      ∧ solution.gen.levelHighWet = false ∧ solution.meter.fill.map (·.pulses) = some 5
      ∧ s.mains.low = false ∧ 2700 * 100 / s.settings.flowCal ≤ 1500 ∧ 1500 < 2702 * 100 / s.settings.flowCal
      ∧ s.gen.levelHighWet = false := by decide

theorem witness_ProcedureOrdersTakeAndGiveBackTheGenerator :
    let owed := withGen .rinseOwed
    let piped := { owed with settings := { Settings.default with waterSource := .plumbed } }
    Accepts .panel State.reset ∧ Accepts .panel owed ∧ Accepts .panel (inPhase .soak)
      ∧ (inPhase .soak).proc.phase ≠ .idle ∧ (State.reset).proc.phase = .idle
      ∧ (withGen .heating).gen.state ∉ [GenState.empty, .ready, .rinseOwed]
      ∧ (withGen .ready).gen.state ∉ [GenState.empty, .rinseOwed]
      ∧ owed.gen.state ∈ [GenState.empty, .ready, .rinseOwed]
      ∧ steamInUse { owed with runs := ⟨runOn .running .hold steaming, Run.idle⟩ } = true
      ∧ steamInUse (withA (runOn .paused .hold steaming) []) = true ∧ steamInUse owed = false
      ∧ owed.settings.waterSource = .tank ∧ piped.settings.waterSource = .plumbed ∧ piped.gen.levelHighWet = false
      ∧ (inPhase .waitSolution).proc.kind = some .descale
      ∧ ProcPhase.waitSolution ∈ [ProcPhase.prepDrain, .waitSolution]
      ∧ ProcPhase.fillSolution ∉ [ProcPhase.prepDrain, .waitSolution] :=
  ⟨⟨rfl, rfl, rfl⟩, ⟨rfl, rfl, rfl⟩, ⟨rfl, rfl, rfl⟩, by decide⟩

/-- A rinse whose fill starts with LEVEL_HIGH wet, and an abort that leaves the vessel dry. -/
theorem witness_RinseThatStartsFull :
    let full := { State.reset with
      gen := Gen.start true true, settings := { Settings.default with waterSource := .plumbed } }
    let dry := { inPhase .waitSolution with gen := { Gen.start false false with state := .descale } }
    Accepts .panel full ∧ Accepts .panel dry ∧ full.proc.phase = .idle ∧ full.gen.state = .empty ∧ steamInUse full = false
      ∧ full.settings.waterSource = .plumbed ∧ full.gen.levelHighWet = true
      ∧ (after (.startRinse .panel 1) full).proc.phase = .rinseDrain
      ∧ dry.proc.rinseOwed = false ∧ dry.gen.levelLowWet = false ∧ anyPresent dry = false
      ∧ (after (.abortDescale .panel 1) dry).gen.state = .empty :=
  ⟨⟨rfl, rfl, rfl⟩, ⟨rfl, rfl, rfl⟩, by decide⟩

theorem witness_SoakHoldsTheTemperatureThenDrains :
    (inPhase .soak).resetHeld = false ∧ (inPhase .soak).gen.state = .descale ∧ (inPhase .soak).proc.phase = .soak
      ∧ (inPhase .soak).mains.low = false ∧ (inPhase .soak).sensors.genTemp.reading = some 200
      ∧ 0 < (inPhase .soak).settings.propBand ∧ (inPhase .heatSoak).proc.phase ≠ .soak := by decide

/-! ## Witnesses: sensors, safety inputs, prompts, store and settings -/

/-- CAV_TEMP A in a status with a run time. -/
def sensed (status : SensorStatus) (runTime : Option Nat) : SensorRecord :=
  { status := status, reading := some 200, runTime := runTime, inRange := false }

theorem witness_SampleIsJudgedByItsSensor :
    State.reset.resetHeld = false ∧ (State.reset.sensors.get .coreA).status = .absent
      ∧ (State.reset.sensors.get .cavTempA).status = .valid ∧ (sensed .suspect (some 500)).status = .suspect
      ∧ ((0 : Int) ≤ 3000 ∧ (3000 : Int) ≤ 3000 ∧ ¬ (3001 : Int) ≤ 3000 ∧ ¬ (0 : Int) ≤ -1)
      ∧ (749 + 250 < 1000 ∧ 1000 ≤ 750 + 250) ∧ (4749 + 250 < 5000 ∧ 5000 ≤ 4750 + 250)
      ∧ (sensed .faulted none).runTime = none ∧ (sensed .faulted (some 4750)).runTime = some 4750 := by decide

theorem witness_SamplesActOnTheirUsers :
    let step : CurrentStep := { load := 1, action := probing, band := 5 }
    let w : Watch := { source := .cavity, relation := .atOrAbove, value := 100, action := .notify, armed := true }
    let loop : Loop := { case := .heating, reached := false, setpoint := 18000, remainder := 0 }
    let heating := { looped bake 18000 with
      runs := ⟨runOn .running .heatup bake, Run.idle⟩
      climates := ⟨{ Climate.reset with loop := some loop, updateTime := some 0 }, Climate.reset⟩ }
    let cored := { runOn .running .hold probing with coreCond := some .live }
    let hot := { withGen .heating with arbiter := { PerLoad.all LoadStatus.none with genHeat := .granted } }
    heating.resetHeld = false ∧ (heating.sensors.get (cavitySensor .A)).status = .valid
      ∧ heating.climates.a.watch1 = none ∧ counting heating.runs.a = true ∧ heating.runs.a.phase = some .heatup
      ∧ heating.climates.a.loop = some loop ∧ approachMet loop.case 180 5 1750 = true
      ∧ heating.climates.a.restartOwed = false ∧ (1000 : Nat) ≤ 3000
      ∧ w.value * 10 ≤ 1000 ∧ w.action = .notify ∧ w.armed = true ∧ w.relation = .atOrAbove
      ∧ cored.current = some step ∧ step.action.core = some 60 ∧ step.action.prompt = none
      ∧ cored.coreCond = some .live ∧ counting cored = true ∧ cored.phase = some .hold ∧ 60 * 10 ≤ 600 ∧ 600 ≤ 1200
      ∧ (sensed .valid none).status = .valid
      ∧ hot.sensors.genTemp.status = .valid ∧ hot.gen.state = .heating ∧ hot.settings.readyTemp * 10 ≤ 970
      ∧ 970 < 1400 ∧ hot.arbiter.genHeat = .granted ∧ hot.gen.state ≠ .fault
      ∧ (sensed .suspect (some 750)).runTime = some 750 ∧ 1000 ≤ 750 + 250 ∧ inProgress cored = true := by decide

/-- The watches of that statement: each slot, source and action, and the run they act on. -/
theorem witness_WatchesTripOnSamples :
    let w (x : WatchSource) (a : WatchAction) : Watch :=
      { source := x, relation := .atOrAbove, value := 100, action := a, armed := true }
    let k : Climate := { Climate.reset with watch1 := some (w .cavity .endStep) }
    let l : Climate := { Climate.reset with watch2 := some (w .core .pauseRun) }
    let r := runOn .running .hold bake
    let asks := runOn .running .hold (asking .after)
    watchOf 1 k = some (w .cavity .endStep) ∧ watchOf (3 - 1) k = none
      ∧ watchOf 2 l = some (w .core .pauseRun) ∧ watchOf (3 - 2) l = none
      ∧ 100 * 10 ≤ 1000 ∧ 1000 ≤ 3000 ∧ 1000 ≤ 1200 ∧ (sensed .valid none).status = .valid
      ∧ (r.state = .running ∧ r.phase ≠ some .heatup ∧ r.phase = some .hold ∧ r.coreCond ≠ some .live)
      ∧ r.current = some { load := 1, action := bake, band := 5 } ∧ bake.prompt = none
      ∧ (asking .after).prompt.map (·.placement) = some .after ∧ asks.state = .running ∧ asks.phase = some .hold
      ∧ (walked walkLimit (withA r one).queues.a).map (·.1) = some (some (2, bake))
      ∧ (runIn .loading).state ∉ [RunState.running, .starved] ∧ (runOn .starved .hold bake).state = .starved := by decide

/-- A cavity watch in HEATUP, tripped by a sample that meets the approach and by one that does not. -/
theorem witness_CavityWatchInHeatup :
    let w : Watch := { source := .cavity, relation := .atOrAbove, value := 100, action := .pauseRun, armed := true }
    let loop : Loop := { case := .heating, reached := false, setpoint := 18000, remainder := 0 }
    let s := { withA (runOn .running .heatup bake) [] with
      climates := ⟨{ Climate.reset with loop := some loop, watch1 := some w }, Climate.reset⟩ }
    s.runs.a.state = .running ∧ s.runs.a.phase = some .heatup ∧ counting s.runs.a = true
      ∧ (s.sensors.get (cavitySensor .A)).status = .valid ∧ watchOf 1 s.climates.a = some w
      ∧ watchOf 2 s.climates.a = none ∧ bake.target.any (fun g => approachMet loop.case g 5 1750) = true
      ∧ bake.target.any (fun g => approachMet loop.case g 5 1000) = false
      ∧ (after (.sensorSample .cavTempA (.tenths 1750)) s).runs.a = pausedRun (runOn .running .hold bake) .watch
      ∧ (after (.sensorSample .cavTempA (.tenths 1000)) s).runs.a = pausedRun (runOn .running .heatup bake) .watch := by
  decide

/-- A core sample, a core sensor's fault and its clearing, on a step with a core target. -/
theorem witness_CoreSamplesActOnTheStep :
    let asks : Action := { asking .after with core := some 60 }
    let core (a : Action) (k : CoreCond) (x : SensorRecord) : State :=
      { withA { runOn .running .hold a with coreCond := some k } one with
        sensors := { State.reset.sensors with coreA := x }, probePresent := ⟨true, false⟩ }
    let lost := core probing .live (sensed .suspect (some 750))
    let found := core probing .suspended (sensed .faulted (some 4750))
    (sensed .suspect (some 750)).runTime = some 750 ∧ 1000 ≤ 750 + 250 ∧ 5000 ≤ 4750 + 250
      ∧ asks.core = some 60 ∧ asks.prompt.map (·.placement) = some .after ∧ 60 * 10 ≤ 600 ∧ 599 < 60 * 10
      ∧ lost.runs.a.coreCond = some .live ∧ inHeatOrHold lost.runs.a = true ∧ probing.duration = none
      ∧ (lost.climates.get .A).watch1 = none ∧ (lost.climates.get .A).watch2 = none
      ∧ (after (.sensorSample .coreA (.tenths 600)) (core asks .live (sensed .valid none))).runs.a.phase = some .exitPrompt
      ∧ (after (.sensorSample .coreA (.tenths 600)) (core probing .live (sensed .valid none))).runs.a.current.map (·.load)
        = some 2
      ∧ (after (.sensorSample .coreA .openOrShorted) lost).runs.a
        = pausedRun { lost.runs.a with coreCond := some .waitingProbe } .probe
      ∧ (after (.sensorSample .coreA (.tenths 599)) found).runs.a.coreCond = some .live := by decide

/-- The run that its probe paused, with INSERT_PROBE in the table, and the three events that resume it. -/
def probePaused (x : SensorRecord) (present : Bool) : State :=
  let r := { runOn .paused .hold probing with
    pausedFrom := some .running, pauseReason := some .probe, coreCond := some .waitingProbe }
  { asked r (entry 243 .device) [] with
    sensors := { State.reset.sensors with coreA := x }, probePresent := ⟨present, false⟩ }

theorem witness_ProbeAnswersResumeTheRun :
    let faulted := probePaused (sensed .faulted (some 4750)) true
    let away := probePaused SensorRecord.absent false
    Accepts .panel away ∧ ResumesInTime away.runs.a away ∧ away.runs.a.state = .paused
      ∧ away.runs.a.pauseReason = some .probe ∧ away.runs.a.coreCond = some .waitingProbe
      ∧ away.prompts.cavityA = some (entry 243 .device)
      ∧ faulted.sensors.coreA.status = .faulted ∧ away.probePresent.get .A = false
      ∧ (after (.sensorSample .coreA (.tenths 599)) faulted).runs.a.state = .running
      ∧ (after (.probeInsertion .A) away).runs.a.state = .running
      ∧ (after (.ackPrompt .panel 1 1) away).runs.a.coreCond = some .dropped
      ∧ (after (.ackPrompt .panel 1 1) away).runs.a.state = .running :=
  ⟨⟨rfl, rfl, rfl⟩, ⟨rfl, by decide⟩, by decide⟩

/-- Two END_STEP reports of one sample: a dry step between two steaming ones ends the demand. -/
theorem test_step_between_two_reports_ends_the_demand :
    let w : Watch := { source := .core, relation := .atOrAbove, value := 50, action := .endStep, armed := true }
    let s := { withA (runOn .running .hold steaming) (waiting [.action { bake with target := some 30 }, .action steaming]) with
      climates := ⟨{ Climate.reset with watch1 := some w, watch2 := some w }, Climate.reset⟩
      sensors := { State.reset.sensors with coreA := sensed .valid none }
      gen := { Gen.start true false with
        state := .ready, credit := ⟨90, 40⟩
        demand := ⟨{ status := .present, level := 50, load := 1 }, DemandReport.none⟩ } }
    let t := after (.sensorSample .coreA (.tenths 500)) s
    t.gen.credit = ⟨0, 40⟩ ∧ t.gen.demand.a = { status := .present, level := 50, load := 3 } := by
  decide +kernel

theorem witness_SoakTemperatureIsReached :
    let s := inPhase .heatSoak
    s.sensors.genTemp.status = .valid ∧ s.gen.state = .descale ∧ s.proc.phase = .heatSoak
      ∧ s.arbiter.genHeat ≠ .granted ∧ s.settings.soakTemp * 10 ≤ 1399 ∧ ¬ s.settings.soakTemp * 10 ≤ 0
      ∧ (after (.sensorSample .genTemp (.tenths 1399)) s).proc.phase = .soak := by decide

theorem witness_DoorAndProbeEventsMoveTheRun :
    let r := { runOn .running .hold probing with coreCond := some .waitingProbe }
    let s := asked r (entry 243 .device) []
    let live := { withA { r with coreCond := some .live } [] with probePresent := ⟨true, false⟩ }
    let timed := { runOn .paused .hold { probing with duration := some 60 } with coreCond := some .live }
    s.resetHeld = false ∧ s.doorOpen.get .A = false ∧ ({ s with doorOpen := ⟨true, false⟩ }).doorOpen.get .A = true
      ∧ r.state = .running ∧ Run.idle.state ∉ [RunState.running, .starved] ∧ 0 < stepSteam (runOn .running .hold steaming)
      ∧ s.prompts.get (cavityOwner .A) = some (entry 243 .device) ∧ (entry 243 .device).doorAck = false
      ∧ r.state ≠ .paused ∧ s.limitLatch.get .A = false
      ∧ s.probePresent.get .A = false ∧ live.probePresent.get .A = true
      ∧ r.current = some { load := 1, action := probing, band := 5 } ∧ probing.core ≠ none
      ∧ r.phase = some .hold ∧ r.coreCond = some .waitingProbe ∧ (entry 243 .device).code = 243
      ∧ live.runs.a.coreCond = some .live ∧ probing.duration = none
      ∧ timed.state = .paused ∧ timed.coreCond = some .live ∧ ({ probing with duration := some 60 }).duration ≠ none := by
  decide

theorem witness_DoorAnswersThePrompt :
    let e (p : Placement) : Prompt := { entry 7 p with doorAck := true, doorOpened := true }
    let ajar (r : Run) (p : Placement) (l : List Loaded) : State := { asked r (e p) l with doorOpen := ⟨true, false⟩ }
    let before := ajar (runOn .running .entryPrompt (asking .before)) .before []
    let behind := ajar (runOn .running .exitPrompt (asking .after)) .after one
    let paused := ajar (runOn .paused .exitPrompt (asking .after)) .after one
    before.doorOpen.get .A = true ∧ before.prompts.get (cavityOwner .A) = some (e .before)
      ∧ before.runs.a.phase = some .entryPrompt ∧ behind.runs.a.phase = some .exitPrompt
      ∧ WalkReaches 2 bake behind.queues.a ∧ paused.runs.a.state = .paused
      ∧ (after (.doorClose .A) before).runs.a.phase = some .heatup ∧ (after (.doorClose .A) before).prompts.cavityA = none
      ∧ (after (.doorClose .A) behind).runs.a.current.map (·.load) = some 2
      ∧ (after (.doorClose .A) paused).runs.a.deferred = true :=
  ⟨rfl, rfl, rfl, rfl, rfl, by decide⟩

theorem witness_LimitAndMainsEventsStopTheRuns :
    let low := { withA { runOn .running .hold bake with mainsHeld := true } one with
      mains := { low := true, lowTime := some 50, expiryGiven := false } }
    let tripped := { State.reset with limitActive := ⟨true, false⟩, limitLatch := ⟨true, false⟩ }
    Accepts .panel tripped ∧ Accepts .panel State.reset ∧ cavityOf? 0 = some .A
      ∧ tripped.limitActive.get .A = true ∧ (State.reset).limitActive.get .A = false
      ∧ inProgress (runOn .running .hold bake) = true ∧ inProgress Run.idle = false
      ∧ Run.idle.doorSuspended = false ∧ Run.idle.state ≠ .paused
      ∧ low.resetHeld = false ∧ low.mains.low = true ∧ low.mains.expiryGiven = false
      ∧ (State.reset).mains.low = false ∧ (runOn .starved .hold bake).state = .starved
      ∧ low.runs.a.mainsHeld = true ∧ low.runs.b.mainsHeld = false ∧ (inPhase .soak).proc.phase ≠ .idle
      ∧ (inPhase .soak).proc.kind = some .descale :=
  ⟨⟨rfl, rfl, rfl⟩, ⟨rfl, rfl, rfl⟩, by decide⟩

theorem witness_PromptsAreAnsweredOrTimeOut :
    let before := asked (runOn .running .entryPrompt (asking .before)) (entry 7 .before) []
    let after := asked (runOn .running .exitPrompt (asking .after)) (entry 7 .after) one
    let paused := asked (runOn .paused .exitPrompt (asking .after)) (entry 7 .after) one
    let notice := asked (runOn .running .hold (asking .notice)) (entry 7 .notice) []
    let water := { filling .waterWait .tank with prompts := ⟨none, none, some (entry 240 .device), none⟩ }
    let due (e : Prompt) (x : OnTimeout) : Prompt := { e with timeout := some 0, onTimeout := some x }
    Accepts .link before ∧ Accepts .link after ∧ Accepts .link paused ∧ Accepts .link notice ∧ Accepts .link water
      ∧ (1 : Half) ≠ 0 ∧ before.prompts.get .cavityA = some (entry 7 .before) ∧ (entry 7 .before).id = (1 : Half).toNat
      ∧ before.prompts.get .cavityB = none ∧ (entry 7 .before).code < 200
      ∧ before.runs.a.phase = some .entryPrompt
      ∧ before.runs.a.current = some { load := 1, action := asking .before, band := 5 } ∧ (asking .before).core = none
      ∧ after.runs.a.phase = some .exitPrompt ∧ after.queues.a.pending = one ∧ paused.runs.a.state = .paused
      ∧ (entry 7 .notice).placement = .notice
      ∧ water.gen.state = .waterWait ∧ water.gen.fill = some { purpose := .steam, source := .tank, watchdog := 10 }
      ∧ water.tankPresent = true ∧ water.prompts.generator = some (entry 240 .device)
      ∧ before.resetHeld = false ∧ (entry 7 .after).timeout = none ∧ (due (entry 7 .after) .abort).timeout = some 0
      ∧ (due (entry 7 .notice) .pause).onTimeout = some .pause ∧ (due (entry 7 .before) .cont).onTimeout = some .cont
      ∧ after.runs.a.state = .running ∧ inProgress after.runs.a = true :=
  ⟨⟨rfl, rfl, rfl⟩, ⟨rfl, rfl, rfl⟩, ⟨rfl, rfl, rfl⟩, ⟨rfl, rfl, rfl⟩, ⟨rfl, rfl, rfl⟩, by decide⟩

/-- An AFTER entry on a queue without an ACTION record, and a CONTINUE timeout on a RUNNING run. -/
theorem witness_AnswersEndTheLastStep :
    let r := runOn .running .exitPrompt (asking .after)
    let closed := { r with opened := some { source := .stream .panel, closed := true, watermark := 2 } }
    let due : Prompt := { entry 7 .before with timeout := some 0, onTimeout := some .cont }
    let before := asked (runOn .running .entryPrompt (asking .before)) due []
    r.state = .running ∧ r.reader = none ∧ isClosed r = false ∧ isClosed closed = true ∧ feederOf r = some .panel
      ∧ walked walkLimit (asked r (entry 7 .after) []).queues.a = some (none, (asked r (entry 7 .after) []).queues.a)
      ∧ (after (.ackPrompt .panel 1 1) (asked r (entry 7 .after) [])).runs.a.state = .starved
      ∧ (after (.ackPrompt .panel 1 1) (asked closed (entry 7 .after) [])).runs.a.state = .finished
      ∧ due.timeout = some 0 ∧ due.onTimeout = some .cont
      ∧ (after (.promptTimeout .cavityA) before).runs.a.phase = some .heatup := by decide

/-- The descale controller's prompts, with the tank in place and away. -/
theorem witness_DescalerPromptsAreAnswered :
    let s := promptedDescale .waitSolution 241 true .tank
    let u := promptedDescale .waitRinse 242 false .plumbed
    Accepts .panel s ∧ Accepts .panel u ∧ (1 : Half) ≠ 0 ∧ s.prompts.descaler.map (·.id) = some (1 : Half).toNat
      ∧ s.prompts.cavityA = none ∧ s.prompts.cavityB = none ∧ s.prompts.generator = none
      ∧ s.gen.state = .descale ∧ s.gen.levelHighWet = false ∧ s.proc.phase = .waitSolution ∧ s.tankPresent = true
      ∧ (promptedDescale .waitSolution 241 false .tank).tankPresent = false
      ∧ u.proc.phase = .waitRinse ∧ u.proc.rinseSource = some .plumbed
      ∧ (promptedDescale .waitRinse 242 false .tank).proc.rinseSource = some .tank :=
  ⟨⟨rfl, rfl, rfl⟩, ⟨rfl, rfl, rfl⟩, by decide⟩

theorem test_descaler_prompt_pours_or_stalls :
    (after (.ackPrompt .panel 1 1) (promptedDescale .waitSolution 241 true .tank)).proc.phase = .fillSolution
      ∧ (after (.ackPrompt .panel 1 1) (promptedDescale .waitSolution 241 false .tank)).proc.phase = .waitSolution
      ∧ (after (.ackPrompt .panel 1 1) (promptedDescale .waitRinse 242 false .plumbed)).proc.phase = .rinseFill := by
  decide

/-- PANEL holds STORE with a staging buffer open on slot 12. -/
def staged (records : List Record) : State :=
  { held .store State.reset with staging := some { slot := 12, label := [], records := records } }

theorem witness_StagingOrdersFillTheBuffer :
    Accepts .panel (held .store State.reset) ∧ Accepts .panel (staged [])
      ∧ (held .store State.reset).holds.store = some { holder := .panel, expiry := 300 }
      ∧ (39 < (40 : Byte).toNat ∧ (39 : Byte).toNat ≤ 39 ∧ (11 : Byte).toNat < State.reset.settings.fence
          ∧ State.reset.settings.fence ≤ (12 : Byte).toNat ∧ Port.panel ≠ .service)
      ∧ (held .store State.reset).staging = none ∧ (staged []).staging = some { slot := 12, label := [], records := [] }
      ∧ (16 < (List.replicate 17 (65 : Byte)).length ∧ (List.replicate 16 (65 : Byte)).length ≤ 16)
      ∧ (17 : Byte).toNat = (List.replicate 17 (65 : Byte)).length
      ∧ acceptRecord (List.replicate 18 3) = none ∧ (List.replicate 18 (3 : Byte)).length = 18
      ∧ acceptRecord (encodeRecord .mark) = some .mark ∧ (encodeRecord .mark).length = 18
      ∧ (48 ≤ (List.replicate 48 Record.mark).length ∧ (List.replicate 47 Record.mark).length < 48) :=
  ⟨⟨rfl, rfl, rfl⟩, ⟨rfl, rfl, rfl⟩, by decide⟩

theorem witness_AcceptedWritesJoinTheQueue :
    let s := staged [.action bake]
    let loops := List.replicate 15 (Record.action bake)
    let busy := { State.reset with
      store := { Store.blank with inFlight := some (.erase 20 .panel), waiting := [.erase 21 .link] } }
    Accepts .panel s ∧ Accepts .panel busy ∧ s.holds.store = some { holder := .panel, expiry := 300 }
      ∧ s.store.inFlight = none ∧ s.store.waiting = []
      ∧ s.staging = some { slot := 12, label := [], records := [.action bake] } ∧ ¬ (12 < s.settings.fence)
      ∧ 11 < s.settings.fence ∧ bodiesFit none [.action bake] = true
      ∧ bodiesFit none ([.mark] ++ loops ++ [.rep 2]) = false ∧ useCount 12 s = 0
      ∧ 1 + projectedUse s ≤ 384 + recordCount (projected 12 s) ∧ portWriteCount s < 2 ∧ 2 ≤ portWriteCount busy
      ∧ 39 < (40 : Byte).toNat ∧ projected 12 s = none
      ∧ projected (39 : Byte).toNat (stored [.action bake]) ≠ none ∧ useCount (39 : Byte).toNat (stored []) = 0 :=
  ⟨⟨rfl, rfl, rfl⟩, ⟨rfl, rfl, rfl⟩, by decide⟩

/-- STORE_COMMIT on a slot in use, and over a pool of eight full programs. -/
theorem witness_CommitsThatDoNotFit :
    let s := staged [.action bake]
    let used := { s with
      runs := ⟨{ runIn .running with
        reader := some 16, opened := some { source := .program 12, closed := false, watermark := 4 } }, Run.idle⟩ }
    let full := { s with
      store := { Store.blank with
        slots := Vector.ofFn (fun i =>
          if i.1 < 8 then some { label := [], records := List.replicate 48 Record.mark } else none) } }
    0 < useCount 12 used ∧ useCount 12 full = 0
      ∧ 384 + recordCount (projected 12 full) < [Record.action bake].length + projectedUse full
      ∧ (after (.storeCommit .panel 1) used).ports.panel.replies.map (·.reply.answer) = [.inUse]
      ∧ (after (.storeCommit .panel 1) full).ports.panel.replies.map (·.reply.answer) = [.poolFull] := by
  decide +kernel

theorem witness_WriteCompletionInstallsAndReports :
    let writing (e : WriteEntry) : State := { State.reset with store := { Store.blank with inFlight := some e } }
    let p : Program := { label := [], records := [.action bake] }
    (State.reset).resetHeld = false ∧ (State.reset).store.inFlight = none
      ∧ (writing (.commit 12 p .panel)).store.inFlight = some (.commit 12 p .panel)
      ∧ useCount 12 (writing (.commit 12 p .panel)) = 0 ∧ (State.reset).settings.fence ≤ 12
      ∧ (writing (.erase 11 .panel)).store.inFlight = some (.erase 11 .panel) ∧ 11 < (State.reset).settings.fence
      ∧ Port.panel ≠ .service
      ∧ 0 < useCount 12 { writing (.erase 12 .panel) with
          runs := ⟨{ Run.idle with
            state := .running, reader := some 16
            opened := some { source := .program 12, closed := false, watermark := 4 } }, Run.idle⟩ }
      ∧ (writing (.settings Settings.default .panel)).store.inFlight = some (.settings Settings.default .panel)
      ∧ (writing (.scale { points := 1, carry := 0 })).store.inFlight = some (.scale { points := 1, carry := 0 })
      ∧ (writing (.procedure { phase := .idle, kind := none, rinseNumber := none, rinseOwed := false })).store.inFlight
          = some (.procedure { phase := .idle, kind := none, rinseNumber := none, rinseOwed := false }) := by decide

theorem witness_SetParamPutsTheValueInForce :
    Accepts .panel State.reset ∧ Accepts .service State.reset ∧ settingOf? 0 = none ∧ settingOf? 0x13 = some .approachBand
      ∧ settingOf? 9 = some .chain ∧ [(0 : Byte)].length ≠ 2 ∧ serviceOnly .budget = true ∧ Port.panel ≠ .service
      ∧ serviceOnly .hardness = false ∧ settingOf? 12 = some .hardness
      ∧ settingAccepts Settings.default .approachBand ((0 : Byte).toNat * 256 + (20 : Byte).toNat) = true
      ∧ settingAccepts Settings.default .approachBand ((0 : Byte).toNat * 256 + (21 : Byte).toNat) = false
      ∧ chainOf? [6, 5, 4, 3, 2, 1, 0] = some [.bBottom, .aBottom, .bTop, .aTop, .bRing, .aRing, .genHeat]
      ∧ chainOk [.bBottom, .aBottom, .bTop, .aTop, .bRing, .aRing, .genHeat] = true
      ∧ chainOf? [0, 0, 4, 3, 2, 1, 0] = some [.genHeat, .genHeat, .bTop, .aTop, .bRing, .aRing, .genHeat]
      ∧ chainOk [.genHeat, .genHeat, .bTop, .aTop, .bRing, .aRing, .genHeat] = false :=
  ⟨witness_accepts _, witness_accepts _, by decide⟩

/-- The owners' consequences: the counts at and below a value, the points at a threshold, an open fill over the limit. -/
theorem witness_SettingsActOnTheirOwners :
    let starved := withA { runOn .starved .hold bake with starveTime := some 600 } []
    let ajar := withA { runOn .running .hold bake with doorSuspended := true, doorTime := some 600 } []
    let idle := { withGen .ready with gen := { (withGen .ready).gen with idleTime := some 600 } }
    let soak := { inPhase .soak with proc := { (inPhase .soak).proc with soakTime := some 3000 } }
    let scaled := { withA (runOn .running .hold steaming) [] with scale := { State.reset.scale with points := 31000 } }
    let poured := { filling .filling .tank with
      meter := { Meter.reset with
        fill := some { source := .tank, purpose := .steam, pulses := 2000, period := none, quiet := 0, measuring := true } } }
    starved.runs.a.state = .starved ∧ 60 * 10 ≤ 600 ∧ 600 < 61 * 10 ∧ ajar.runs.a.doorSuspended = true
      ∧ idle.gen.state = .ready ∧ anyDemand idle = false ∧ soak.gen.state = .descale ∧ soak.proc.phase = .soak
      ∧ scaled.scale.lock = false ∧ scaled.gen.state = .empty ∧ demandOf scaled.runs.a ≠ .absent
      ∧ 1500 < 2000 * 100 / 100 ∧ poured.gen.levelHighWet = false ∧ poured.gen.state ≠ .fault
      ∧ (after (.setParam .panel 1 0x15 [0, 60]) starved).runs.a.abortReason = some .feedLost
      ∧ (after (.setParam .service 1 0x14 [0, 60]) ajar).runs.a.pauseReason = some .door
      ∧ (after (.setParam .service 1 0x16 [0, 60]) idle).gen.state = .draining
      ∧ (after (.setParam .service 1 0x19 [1, 44]) soak).proc.phase = .drainSolution
      ∧ (after (.setParam .service 1 0x0E [121, 24]) scaled).scale.lock = true
      ∧ (after (.setParam .service 1 0x0F [0, 100]) poured).gen.faultKind = some .overfill := by decide

end Sys2Proof.Tests
end

section
/-! SUPPORT. What reset leaves, by the member of each family. -/

namespace Sys2Proof.Machine

theorem reset_queue (c : Cavity) : State.reset.queues.get c = StepQueue.reset := by cases c <;> rfl
theorem reset_run (c : Cavity) : State.reset.runs.get c = Run.idle := by cases c <;> rfl
theorem reset_climate (c : Cavity) : State.reset.climates.get c = Climate.reset := by cases c <;> rfl
theorem reset_timer (l : Load) : State.reset.timers.get l = Timer.reset := PerLoad.get_all _ l
theorem reset_status (l : Load) : State.reset.arbiter.get l = .none := PerLoad.get_all _ l
theorem reset_prompt (o : Owner) : State.reset.prompts.get o = none := by cases o <;> rfl
theorem reset_port (p : Port) : State.reset.ports.get p = PortRecord.reset := by cases p <;> rfl
theorem reset_hold (h : HoldObject) : State.reset.holds.get h = none := by cases h <;> rfl
theorem reset_attention (p : Port) : State.reset.attention.get p = ⟨startCauses, defaultMask⟩ := by cases p <;> rfl

/-- STARTED stands in the cause set that reset leaves (R188). -/
theorem started_mem_startCauses : ∃ e ∈ startCauses, e.code = 1 ∧ e.count = 1 :=
  ⟨_, List.mem_cons_of_mem _ (List.mem_singleton_self _), rfl, rfl⟩

/-- Every output of a load is off after reset (R88). -/
theorem loadOutput_reset (l : Load) : loadOutput l State.reset = false := by
  simp [loadOutput, reset_status]

/-- Settles O3, family by family. -/
theorem resetLeavesStatedValues : Obligations.ResetLeavesStatedValues := by
  unfold Obligations.ResetLeavesStatedValues
  have timers (l : Load) : holdsOf l State.reset = (0, 0) := by simp [holdsOf, reset_timer, Timer.reset]
  refine ⟨rfl, fun c => ?queue, fun c => ?run, fun c => ?climate, fun l => ?load, rfl, rfl, rfl, rfl, rfl, rfl,
    reset_prompt, rfl, fun p => ?port, reset_hold, fun p => ?attention⟩
  case queue => rw [reset_queue]; exact ⟨rfl, rfl, rfl, rfl, rfl, rfl⟩
  case run => rw [reset_run]; exact ⟨rfl, rfl, rfl⟩
  case climate => rw [reset_climate]; exact ⟨rfl, rfl, rfl, rfl⟩
  case load =>
    rw [reset_timer, reset_status, loadOutput_reset]
    exact ⟨rfl, timers l, rfl, rfl, rfl, rfl⟩
  case port => rw [reset_port]; exact ⟨rfl, rfl⟩
  case attention =>
    rw [attn, reset_attention]
    exact ⟨rfl, rfl, started_mem_startCauses⟩

end Sys2Proof.Machine
end

section
/-! SUPPORT. The parts of State that a change leaves, by `Within`. -/

namespace Sys2Proof.Machine

/-- The parts of State other than the cavities' runs, queues, climate loops and pairs. -/
def Parts.elsewhere : Parts :=
  { settings := true, timers := true, arbiter := true, gen := true, meter := true, scale := true, proc := true
    store := true, staging := true, prompts := true, promptCounter := true, sensors := true, doorOpen := true
    probePresent := true, limitActive := true, limitLatch := true, tankPresent := true, mains := true, ports := true
    holds := true, attention := true, resetHeld := true, freeIndex := true, pending := true }

/-- The parts of State other than the runs, the drive timers and the arbiter's sets. -/
def Parts.offDrive : Parts :=
  { Parts.elsewhere with timers := false, arbiter := false, queues := true, climates := true, pairs := true }

theorem Within.runs_eq {f : Parts} {s t : State} (w : Within f s t) (k : f.runs = false) : t.runs = s.runs := by
  obtain ⟨-, hr, -⟩ := w
  exact hr k

theorem Within.queues_eq {f : Parts} {s t : State} (w : Within f s t) (k : f.queues = false) : t.queues = s.queues := by
  obtain ⟨-, -, hq, -⟩ := w
  exact hq k

theorem Within.climates_eq {f : Parts} {s t : State} (w : Within f s t) (k : f.climates = false) :
    t.climates = s.climates := by
  obtain ⟨-, -, -, hk, -⟩ := w
  exact hk k

theorem Within.pairs_eq {f : Parts} {s t : State} (w : Within f s t) (k : f.pairs = false) : t.pairs = s.pairs := by
  obtain ⟨-, -, -, -, hp, -⟩ := w
  exact hp k

theorem Within.timers_eq {f : Parts} {s t : State} (w : Within f s t) (k : f.timers = false) : t.timers = s.timers := by
  obtain ⟨-, -, -, -, -, ht, -⟩ := w
  exact ht k

theorem Within.arbiter_eq {f : Parts} {s t : State} (w : Within f s t) (k : f.arbiter = false) :
    t.arbiter = s.arbiter := by
  obtain ⟨-, -, -, -, -, -, ha, -⟩ := w
  exact ha k

theorem Within.settings_eq {f : Parts} {s t : State} (w : Within f s t) (k : f.settings = false) :
    t.settings = s.settings := by
  obtain ⟨hs, -⟩ := w
  exact hs k

end Sys2Proof.Machine
end

section
/-! SUPPORT. What an operation on one load does to another: at most the grant of a decision (R78, R79). -/

namespace Sys2Proof.Machine

/-- A load's timer and status are as they were, or its waiting has ended in a grant (R78, R79). -/
def OnlyGranted (l : Load) (s t : State) : Prop :=
  (t.timers.get l = s.timers.get l ∧ t.arbiter.get l = s.arbiter.get l)
    ∨ (s.arbiter.get l = .waiting ∧ t.arbiter.get l = .granted
      ∧ t.timers.get l = { s.timers.get l with interval := .onInterval })

theorem OnlyGranted.refl (l : Load) (s : State) : OnlyGranted l s s := .inl ⟨rfl, rfl⟩

section
variable {l j : Load} {s t u : State}

theorem OnlyGranted.trans (h : OnlyGranted l s t) (k : OnlyGranted l t u) : OnlyGranted l s u := by
  rcases h with ⟨timer, status⟩ | ⟨waits, granted, timer⟩
  · rw [OnlyGranted, ← timer, ← status]
    exact k
  · rcases k with ⟨timer', status'⟩ | ⟨waits', -, -⟩
    · exact .inr ⟨waits, status'.trans granted, timer'.trans timer⟩
    · exact absurd (granted.symm.trans waits') (by decide)

theorem OnlyGranted.frozen_eq (h : OnlyGranted l s t) : (t.timers.get l).frozen = (s.timers.get l).frozen := by
  rcases h with ⟨timer, -⟩ | ⟨-, -, timer⟩ <;> rw [timer]

theorem OnlyGranted.ite {p : Prop} [Decidable p] (ht : OnlyGranted l s t) (hu : OnlyGranted l s u) :
    OnlyGranted l s (if p then t else u) := by
  split
  · exact ht
  · exact hu

/-- A walk down the chain grants loads and does nothing else (R78). -/
theorem OnlyGranted.then_grantWalk {ls : List Load} (h : OnlyGranted l s t) : OnlyGranted l s (grantWalk ls t) := by
  induction ls generalizing t with
  | nil => exact h
  | cons j ls ih =>
    unfold grantWalk
    split
    · next waits =>
      refine .ite (ih (h.trans ?_)) h
      by_cases e : l = j
      · subst e
        exact .inr ⟨waits, by simp [grant], by simp [grant]⟩
      · exact .inl ⟨by simp [grant, e], by simp [grant, e]⟩
    · exact ih h

theorem OnlyGranted.then_grantDecision (h : OnlyGranted l s t) : OnlyGranted l s (grantDecision t) :=
  .ite h h.then_grantWalk

section
variable (ne : l ≠ j)
include ne

theorem OnlyGranted.then_modTimer {f : Timer → Timer} (h : OnlyGranted l s t) : OnlyGranted l s (modTimer j f t) :=
  h.trans (.inl ⟨by rw [modTimer_timers, PerLoad.get_set_of_ne _ _ ne], rfl⟩)

theorem OnlyGranted.then_setStatus {x : LoadStatus} (h : OnlyGranted l s t) : OnlyGranted l s (setStatus j x t) :=
  h.trans (.inl ⟨rfl, by rw [setStatus_arbiter, PerLoad.get_set_of_ne _ _ ne]⟩)

theorem OnlyGranted.then_setInterval {i : Interval} {x : Option Nat} (h : OnlyGranted l s t) :
    OnlyGranted l s (setInterval j i x t) := h.then_modTimer ne

theorem OnlyGranted.then_setHolds {m n : Nat} (h : OnlyGranted l s t) : OnlyGranted l s (setHolds j m n t) :=
  h.then_modTimer ne

theorem OnlyGranted.then_request (h : OnlyGranted l s t) : OnlyGranted l s (request j t) :=
  (h.then_setStatus ne).then_grantDecision

theorem OnlyGranted.then_leave (h : OnlyGranted l s t) : OnlyGranted l s (leave j t) :=
  .ite h (h.then_setStatus ne).then_grantDecision

theorem OnlyGranted.then_startOn {n : Nat} (h : OnlyGranted l s t) : OnlyGranted l s (startOn j n t) :=
  (h.then_setInterval ne).then_request ne

theorem OnlyGranted.then_beginOn (h : OnlyGranted l s t) : OnlyGranted l s (beginOn j t) :=
  .ite (h.then_startOn ne) (.ite (h.then_setInterval ne) (h.then_setInterval ne))

theorem OnlyGranted.then_writeHolds {m n : Nat} (h : OnlyGranted l s t) : OnlyGranted l s (writeHolds j m n t) := by
  have written := h.then_setHolds (m := m) (n := n) ne
  exact .ite (written.then_beginOn ne) written

theorem OnlyGranted.then_restartTimer {m n : Nat} (h : OnlyGranted l s t) : OnlyGranted l s (restartTimer j m n t) := by
  have written := h.then_setHolds (m := m) (n := n) ne
  exact .ite (written.then_beginOn ne) written

theorem OnlyGranted.then_stopTimer (h : OnlyGranted l s t) : OnlyGranted l s (stopTimer j t) :=
  ((h.then_setHolds ne).then_setInterval ne).then_leave ne

end

end

end Sys2Proof.Machine
end

section
/-! SUPPORT. `SharedWork s t`: `t` comes of `s` by work of the shared generator. Every run stays but for the denial reason
(R96), and every load but the generator's heater but for a grant (R68). -/

namespace Sys2Proof.Machine

/-- What work of the shared generator keeps. -/
structure SharedWork (s t : State) : Prop where
  runs : ∀ c, SameRun (t.runs.get c) (s.runs.get c)
  loads : ∀ l, l ≠ .genHeat → OnlyGranted l s t

theorem SharedWork.refl (s : State) : SharedWork s s := ⟨fun _ => rfl, fun l _ => .refl l s⟩

theorem SharedWork.ite {p : Prop} [Decidable p] {s t u : State} (ht : SharedWork s t) (hu : SharedWork s u) :
    SharedWork s (if p then t else u) := by
  split
  · exact ht
  · exact hu

/-- An operation that reaches no run record, drive timer or status. -/
theorem SharedWork.then_within {g : Parts} {s t u : State} (h : SharedWork s t) (w : Within g t u)
    (k : Parts.offDrive.covers g = true) : SharedWork s u := by
  have within := w.mono k
  refine ⟨fun c => ?_, fun l hl => (h.loads l hl).trans (.inl ⟨?_, ?_⟩)⟩
  · rw [within.runs_eq rfl]
    exact h.runs c
  · rw [within.timers_eq rfl]
  · rw [within.arbiter_eq rfl]

section
variable {s t : State} {c : Cavity}

theorem SharedWork.then_modRun {f : Run → Run} (h : SharedWork s t) (k : SameRun (f (t.runs.get c)) (t.runs.get c)) :
    SharedWork s (modRun c f t) := by
  refine ⟨fun j => ?_, h.loads⟩
  rw [modRun_runs, PerCavity.get_set]
  split
  · next e => rw [e]; exact k.trans (h.runs c)
  · exact h.runs j

theorem SharedWork.then_broadcast {x : Cause} (h : SharedWork s t) : SharedWork s (broadcast x t) := ⟨h.runs, h.loads⟩

theorem SharedWork.then_modGen {f : Gen → Gen} (h : SharedWork s t) : SharedWork s (modGen f t) := ⟨h.runs, h.loads⟩

theorem SharedWork.then_modScale {f : Scale → Scale} (h : SharedWork s t) : SharedWork s (modScale f t) :=
  ⟨h.runs, h.loads⟩

theorem SharedWork.then_saveScale (h : SharedWork s t) : SharedWork s (saveScale t) :=
  h.then_within (saveScale_within t) rfl

theorem SharedWork.then_meterBegin {w : WaterSource} {x : Purpose} (h : SharedWork s t) :
    SharedWork s (meterBegin w x t) := h.then_within (meterBegin_within w x t) rfl

theorem SharedWork.then_meterIncomplete (h : SharedWork s t) : SharedWork s (meterIncomplete t) :=
  h.then_within (meterIncomplete_within t) rfl

theorem SharedWork.then_cancelPrompt {o : Owner} (h : SharedWork s t) : SharedWork s (cancelPrompt o t) :=
  h.then_within (cancelPrompt_within o t) rfl

theorem SharedWork.then_raiseDevice {o : Owner} {code : Nat} (h : SharedWork s t) :
    SharedWork s (raiseDevice o code t) := h.then_within (raiseDevice_within o code t) rfl

/-- The generator instructs no timer but its heater's (R68). -/
theorem SharedWork.then_heatInstruction {g : GenState} (h : SharedWork s t) : SharedWork s (heatInstruction g t) := by
  refine ⟨fun c => ?_, fun l hl => (h.loads l hl).trans ?_⟩
  · rw [(heatInstruction_within g t).runs_eq rfl]
    exact h.runs c
  · have here : OnlyGranted l t t := .refl l t
    cases g
    case heating => exact here.then_restartTimer hl
    case delivering => exact here.then_restartTimer hl
    case ready => exact here.then_writeHolds hl
    all_goals exact here.then_stopTimer hl

/-- A refusal writes nothing but the denial reason (R96). -/
theorem SharedWork.then_refuse (h : SharedWork s t) : SharedWork s (refuse c t) := by
  unfold refuse
  split
  · exact h
  · next reason _ =>
    have denied : SharedWork s (modRun c (fun r => { r with denial := some reason }) t) := h.then_modRun rfl
    exact .ite h (.ite denied denied.then_broadcast)

theorem SharedWork.then_refuseBoth (h : SharedWork s t) : SharedWork s (refuseBoth t) := h.then_refuse.then_refuse

theorem SharedWork.then_thresholdTest {r : ScaleReason} (h : SharedWork s t) : SharedWork s (thresholdTest r t) := by
  unfold thresholdTest
  extract_lets warned locked
  have warn : SharedWork s warned := .ite (.then_broadcast (.then_modScale h)) h
  have lock : SharedWork s locked := .then_broadcast (.then_modScale warn)
  exact .ite (.ite lock.then_refuseBoth lock) warn

theorem SharedWork.then_setPoints {m n : Nat} {r : ScaleReason} (h : SharedWork s t) : SharedWork s (setPoints m n r t) := by
  unfold setPoints
  extract_lets old tested
  have test : SharedWork s tested := .then_thresholdTest (.then_modScale h)
  exact .ite test test.then_saveScale

theorem SharedWork.then_meterComplete (h : SharedWork s t) : SharedWork s (meterComplete t) := by
  unfold meterComplete
  split
  · exact h
  · exact .ite (.then_setPoints (t := { t with meter := _ }) ⟨h.runs, h.loads⟩) ⟨h.runs, h.loads⟩

theorem SharedWork.then_enterGen {g : GenState} {prep : Gen → Gen} (h : SharedWork s t) : SharedWork s (enterGen g prep t) := by
  unfold enterGen
  extract_lets left before instructed posted
  have entry : SharedWork s posted := .then_broadcast (.then_heatInstruction (.then_modGen h))
  exact .ite entry entry.then_refuseBoth

theorem SharedWork.then_abandonFill (h : SharedWork s t) : SharedWork s (abandonFill t) :=
  .ite (.then_modGen (.then_cancelPrompt (.then_meterIncomplete h))) h

theorem SharedWork.then_startDrain {x : AfterDrain} (h : SharedWork s t) : SharedWork s (startDrain x t) :=
  .then_enterGen (.then_abandonFill h)

theorem SharedWork.then_dropWait (h : SharedWork s t) : SharedWork s (dropWait t) := .ite (.then_startDrain h) h

theorem SharedWork.then_enterWaterWait (h : SharedWork s t) : SharedWork s (enterWaterWait t) :=
  .then_dropWait (.then_modGen (.then_raiseDevice (.then_enterGen h)))

theorem SharedWork.then_completeSteamFill (h : SharedWork s t) : SharedWork s (completeSteamFill t) :=
  .then_enterGen (.then_cancelPrompt (.then_meterComplete h))

theorem SharedWork.then_waitIfAbsent (h : SharedWork s t) : SharedWork s (waitIfAbsent t) := .ite (.then_enterWaterWait h) h

theorem SharedWork.then_startSteamFill (h : SharedWork s t) : SharedWork s (startSteamFill t) := by
  unfold startSteamFill
  extract_lets src entered begun
  have begins : SharedWork s begun := .then_meterBegin (.then_enterGen h)
  exact .ite begins.then_completeSteamFill begins.then_waitIfAbsent

theorem SharedWork.then_fillIfWanted (h : SharedWork s t) : SharedWork s (fillIfWanted t) := .ite (.then_startSteamFill h) h

theorem SharedWork.then_cutWindow (h : SharedWork s t) : SharedWork s (cutWindow c t) := .ite (.then_enterGen h) h

theorem SharedWork.then_demandPresent (h : SharedWork s t) : SharedWork s (demandPresent c t) :=
  .then_fillIfWanted (.then_refuse h)

theorem SharedWork.then_demandAbsent (h : SharedWork s t) : SharedWork s (demandAbsent c t) :=
  .then_dropWait (.then_cutWindow (.then_modGen h))

theorem SharedWork.then_holdIdle (h : SharedWork s t) : SharedWork s (holdIdle t) := .ite (.then_modGen h) h

/-- Telling the generator of a demand is work of the shared generator (R94, R96). -/
theorem SharedWork.then_syncDemand (h : SharedWork s t) : SharedWork s (syncDemand c t) := by
  unfold syncDemand
  extract_lets old new told
  have tells : SharedWork s told := .then_modGen h
  apply SharedWork.then_holdIdle
  split
  · exact .ite tells tells.then_demandAbsent
  · exact tells.then_cutWindow
  · exact .ite tells tells.then_demandPresent

end

end Sys2Proof.Machine
end

section
/-! SUPPORT. A step queue stays as R6 gives it through the operations of chapter 1. -/

namespace Sys2Proof.Machine

/-- A record appended to a queue with a free slot. -/
theorem QueueOk.append {q : StepQueue} (h : QueueOk q) (room : occupied q < 16) (x : Loaded) (n : Nat) :
    QueueOk { q with pending := q.pending ++ [x], nextLoad := n } := by
  obtain ⟨-, unmarked⟩ := h
  refine ⟨?_, unmarked⟩
  simp only [occupied, List.length_append, List.length_singleton] at room ⊢
  omega

theorem QueueOk.dropMark {q : StepQueue} (h : QueueOk q) : QueueOk (dropMark q) := by
  obtain ⟨slots, -⟩ := h
  refine ⟨?_, fun _ => ⟨rfl, rfl⟩⟩
  simp only [occupied, Machine.dropMark, List.length_nil] at slots ⊢
  omega

theorem QueueOk.emptied (q : StepQueue) : QueueOk (emptied q) := ⟨Nat.zero_le _, fun _ => ⟨rfl, rfl⟩⟩

/-- The ACTION record consumed moves to the retained records under a mark (R10). -/
theorem QueueOk.consumeAction {q : StepQueue} {x : Loaded} {rest : List Loaded} (h : QueueOk q)
    (e : q.pending = x :: rest) (load : Nat) (a : Action) : QueueOk (consumeAction load a rest q) := by
  obtain ⟨slots, unmarked⟩ := h
  simp only [occupied, e, List.length_cons] at slots
  cases m : q.mark
  · refine ⟨?_, fun _ => ?_⟩
    · simp only [occupied, Machine.consumeAction, m]
      simp only [Bool.false_eq_true, if_false]
      omega
    · simpa [Machine.consumeAction, m] using unmarked m
  · refine ⟨?_, fun k => absurd (m.symm.trans k) (by decide)⟩
    simp only [occupied, Machine.consumeAction, m, if_true, List.length_append, List.length_singleton]
    omega

theorem QueueOk.consumeMark {q : StepQueue} {x : Loaded} {rest : List Loaded} (h : QueueOk q)
    (e : q.pending = x :: rest) : QueueOk (consumeMark rest q) := by
  obtain ⟨slots, -⟩ := h
  refine ⟨?_, fun k => absurd k (by simp [Machine.consumeMark])⟩
  simp only [occupied, e, List.length_cons, Machine.consumeMark, List.length_nil] at slots ⊢
  omega

/-- The retained records returned ahead of the REPEAT record take the slots they had (R13). -/
theorem QueueOk.returnBody {q : StepQueue} (h : QueueOk q) (m : q.mark = true) (n : Nat) : QueueOk (returnBody n q) := by
  obtain ⟨slots, -⟩ := h
  refine ⟨?_, fun k => absurd (m.symm.trans k) (by decide)⟩
  simp only [occupied, Machine.returnBody, List.length_append, List.length_map, List.length_nil] at slots ⊢
  omega

theorem QueueOk.consumeRepeat {q : StepQueue} {x : Loaded} {rest : List Loaded} (h : QueueOk q)
    (e : q.pending = x :: rest) (count : Nat) : QueueOk (consumeRepeat count rest q) := by
  have leaves {p : StepQueue} (k : QueueOk p) (ep : p.pending = x :: rest) : QueueOk { p with pending := rest } := by
    obtain ⟨slots, unmarked⟩ := k
    refine ⟨?_, unmarked⟩
    simp only [occupied, ep, List.length_cons] at slots ⊢
    omega
  unfold Machine.consumeRepeat
  split
  · next m =>
    split
    · exact h.returnBody m _
    · exact h.returnBody m _
    · exact leaves h.dropMark e
  · exact leaves h e

end Sys2Proof.Machine
end

section
/-! SUPPORT. `CavityWork c s t`: `t` comes of `s` by work on the cavity `c`. The other cavity's queue, climate loop, pair
and run stay (R6, R96), and the cavity's own queue stays within its slots. A lemma `then_f` says that the operation `f`
on the cavity is such work; the proofs have the shape of the definitions. -/

namespace Sys2Proof.Machine

/-- What work on a cavity keeps. -/
structure CavityWork (c : Cavity) (s t : State) : Prop where
  other : OtherSame c s t
  queue : QueueOk (s.queues.get c) → QueueOk (t.queues.get c)

theorem CavityWork.refl (c : Cavity) (s : State) : CavityWork c s s := ⟨⟨rfl, rfl, rfl, rfl⟩, id⟩

theorem cavity_eq_or_other (c j : Cavity) : j = c ∨ j = otherCavity c := by
  cases c <;> cases j <;> simp [otherCavity]

/-- Work on a cavity keeps both queues within their slots. -/
theorem CavityWork.queuesOk {c : Cavity} {s t : State} (h : CavityWork c s t) (ok : QueuesOk s) : QueuesOk t := by
  intro j
  obtain ⟨⟨otherQueue, -⟩, own⟩ := h
  rcases cavity_eq_or_other c j with rfl | rfl
  · exact own (ok j)
  · rw [otherQueue]
    exact ok _

section
variable {s t u : State} {c : Cavity}

theorem CavityWork.ite {p : Prop} [Decidable p] (ht : CavityWork c s t) (hu : CavityWork c s u) :
    CavityWork c s (if p then t else u) := by
  split
  · exact ht
  · exact hu

/-- An operation on other parts, but for the denial reason in the runs. -/
theorem CavityWork.then_shared {g : Parts} (h : CavityWork c s t) (w : Within g t u)
    (r : ∀ j, SameRun (u.runs.get j) (t.runs.get j)) (k : { Parts.elsewhere with runs := true }.covers g = true) :
    CavityWork c s u := by
  have within := w.mono k
  obtain ⟨⟨queue, climate, pair, run⟩, own⟩ := h
  refine ⟨⟨?_, ?_, ?_, (r _).trans run⟩, ?_⟩
  · rw [within.queues_eq rfl, queue]
  · rw [within.climates_eq rfl, climate]
  · rw [within.pairs_eq rfl, pair]
  · rwa [within.queues_eq rfl]

/-- An operation on other parts. -/
theorem CavityWork.then_within {g : Parts} (h : CavityWork c s t) (w : Within g t u)
    (k : Parts.elsewhere.covers g = true) : CavityWork c s u :=
  h.then_shared (w.mono k) (fun j => by rw [(w.mono k).runs_eq rfl]; rfl) rfl

theorem CavityWork.then_modRun {f : Run → Run} (h : CavityWork c s t) : CavityWork c s (modRun c f t) := by
  obtain ⟨⟨queue, climate, pair, run⟩, own⟩ := h
  refine ⟨⟨queue, climate, pair, ?_⟩, own⟩
  rwa [modRun_runs, PerCavity.get_other_set]

theorem CavityWork.then_modClimate {f : Climate → Climate} (h : CavityWork c s t) : CavityWork c s (modClimate c f t) := by
  obtain ⟨⟨queue, climate, pair, run⟩, own⟩ := h
  refine ⟨⟨queue, ?_, pair, run⟩, own⟩
  rwa [modClimate_climates, PerCavity.get_other_set]

theorem CavityWork.then_modPair {f : Pair → Pair} (h : CavityWork c s t) : CavityWork c s (modPair c f t) := by
  obtain ⟨⟨queue, climate, pair, run⟩, own⟩ := h
  refine ⟨⟨queue, climate, ?_, run⟩, own⟩
  rwa [modPair_pairs, PerCavity.get_other_set]

theorem CavityWork.then_modQueue {f : StepQueue → StepQueue} (h : CavityWork c s t)
    (k : QueueOk (t.queues.get c) → QueueOk (f (t.queues.get c))) : CavityWork c s (modQueue c f t) := by
  obtain ⟨⟨queue, climate, pair, run⟩, own⟩ := h
  refine ⟨⟨?_, climate, pair, run⟩, fun ok => ?_⟩
  · rwa [modQueue_queues, PerCavity.get_other_set]
  · rw [modQueue_queues, PerCavity.get_set_self]
    exact k (own ok)

/-! ## Causes and prompts -/

theorem CavityWork.then_broadcast {x : Cause} (h : CavityWork c s t) : CavityWork c s (broadcast x t) := ⟨h.other, h.queue⟩

theorem CavityWork.then_post {p : Port} {x : Cause} (h : CavityWork c s t) : CavityWork c s (post p x t) :=
  ⟨h.other, h.queue⟩

theorem CavityWork.then_setPrompt {o : Owner} {x : Option Prompt} (h : CavityWork c s t) :
    CavityWork c s (setPrompt o x t) := ⟨h.other, h.queue⟩

theorem CavityWork.then_removePrompt {o : Owner} {r : ClearReason} (h : CavityWork c s t) :
    CavityWork c s (removePrompt o r t) := h.then_within (removePrompt_within o r t) rfl

theorem CavityWork.then_cancelPrompt {o : Owner} (h : CavityWork c s t) : CavityWork c s (cancelPrompt o t) :=
  h.then_removePrompt

theorem CavityWork.then_raiseDevice {o : Owner} {code : Nat} (h : CavityWork c s t) :
    CavityWork c s (raiseDevice o code t) := h.then_within (raiseDevice_within o code t) rfl

theorem CavityWork.then_raiseRecipe {p : PromptSub} (h : CavityWork c s t) : CavityWork c s (raiseRecipe c p t) :=
  h.then_within (raiseRecipe_within c p t) rfl

/-! ## Drive timers and pairs -/

theorem CavityWork.then_setInterval {l : Load} {i : Interval} {x : Option Nat} (h : CavityWork c s t) :
    CavityWork c s (setInterval l i x t) := ⟨h.other, h.queue⟩

theorem CavityWork.then_setHolds {l : Load} {m n : Nat} (h : CavityWork c s t) : CavityWork c s (setHolds l m n t) :=
  ⟨h.other, h.queue⟩

theorem CavityWork.then_startOn {l : Load} {n : Nat} (h : CavityWork c s t) : CavityWork c s (startOn l n t) :=
  h.then_within (startOn_within l n t) rfl

theorem CavityWork.then_stopTimer {l : Load} (h : CavityWork c s t) : CavityWork c s (stopTimer l t) :=
  h.then_within (stopTimer_within l t) rfl

theorem CavityWork.then_freezeTimer {l : Load} (h : CavityWork c s t) : CavityWork c s (freezeTimer l t) :=
  h.then_within (freezeTimer_within l t) rfl

theorem CavityWork.then_thawTimer {l : Load} {b : Bool} (h : CavityWork c s t) : CavityWork c s (thawTimer l b t) :=
  h.then_within (thawTimer_within l b t) rfl

theorem CavityWork.then_beginPair {x : PairPosition} (h : CavityWork c s t) : CavityWork c s (beginPair c x t) := by
  unfold beginPair
  extract_lets top bottom off turn placed
  have places : CavityWork c s placed := h.then_modPair
  refine .ite (.then_modPair (.then_setInterval (.then_setInterval h))) ?_
  clear_value turn
  cases turn
  · exact .then_startOn places.then_setInterval
  · exact .then_startOn places.then_setInterval
  · exact .then_setInterval places.then_setInterval

theorem CavityWork.then_wakePair (h : CavityWork c s t) : CavityWork c s (wakePair c t) := .ite (.then_beginPair h) h

theorem CavityWork.then_writePair {m n : Nat} (h : CavityWork c s t) : CavityWork c s (writePair c m n t) :=
  .then_wakePair (.then_modPair (.then_setHolds (.then_setHolds h)))

theorem CavityWork.then_stopPair (h : CavityWork c s t) : CavityWork c s (stopPair c t) :=
  .then_modPair (.then_stopTimer (.then_stopTimer h))

theorem CavityWork.then_stopCavity (h : CavityWork c s t) : CavityWork c s (stopCavity c t) :=
  .then_modPair (.then_stopTimer (.then_stopPair h))

theorem CavityWork.then_reformPair {b : Bool} (h : CavityWork c s t) : CavityWork c s (reformPair c b t) :=
  .ite h (.then_modPair (.then_stopPair h))

theorem CavityWork.then_freezeCavity (h : CavityWork c s t) : CavityWork c s (freezeCavity c t) :=
  .then_freezeTimer (.then_freezeTimer (.then_freezeTimer h))

theorem CavityWork.then_thawCavity (h : CavityWork c s t) : CavityWork c s (thawCavity c t) :=
  .then_thawTimer (.then_wakePair (.then_thawTimer (.then_thawTimer h)))

theorem CavityWork.then_syncFreeze (h : CavityWork c s t) : CavityWork c s (syncFreeze c t) :=
  .ite (.then_freezeCavity h) (.ite (.then_thawCavity h) h)

theorem CavityWork.then_pairOffEnd (h : CavityWork c s t) : CavityWork c s (pairOffEnd c t) := .ite (.then_beginPair h) h

/-! ## Climate loops -/

theorem CavityWork.then_writeElement {l : Load} {b : Bool} {d : Nat} (h : CavityWork c s t) :
    CavityWork c s (writeElement l b d t) := h.then_within (writeElement_within l b d t) rfl

theorem CavityWork.then_writeElements {x : HeatMode} {d : Nat} (h : CavityWork c s t) :
    CavityWork c s (writeElements c x d t) :=
  .then_writeElement (.ite (.then_writePair h) (.then_writeElement (.then_writeElement h)))

theorem CavityWork.then_demandComputation (h : CavityWork c s t) : CavityWork c s (demandComputation c t) := by
  unfold demandComputation
  split
  · exact h
  · exact .then_writeElements (.then_modClimate h)

theorem CavityWork.then_stepSetpoint (h : CavityWork c s t) : CavityWork c s (stepSetpoint c t) := by
  unfold stepSetpoint
  split
  · split
    · exact .then_modClimate h
    · exact h
  · exact h

theorem CavityWork.then_regulationUpdate (h : CavityWork c s t) : CavityWork c s (regulationUpdate c t) :=
  .ite (.then_demandComputation (.then_stepSetpoint h)) h

theorem CavityWork.then_climateTake {a : Action} (h : CavityWork c s t) : CavityWork c s (climateTake c a t) := by
  unfold climateTake
  exact .then_modClimate h

theorem CavityWork.then_climateRestart (h : CavityWork c s t) : CavityWork c s (climateRestart c t) := by
  unfold climateRestart
  split
  · exact .then_modClimate h
  · exact .then_demandComputation (.then_modClimate h)

theorem CavityWork.then_settleClimate (h : CavityWork c s t) : CavityWork c s (settleClimate c t) :=
  .ite (.then_climateRestart h) h

theorem CavityWork.then_climateEnd (h : CavityWork c s t) : CavityWork c s (climateEnd c t) := .then_modClimate h

theorem CavityWork.then_enterHold {x : Case} {n : Nat} (h : CavityWork c s t) : CavityWork c s (enterHold c x n t) :=
  .then_broadcast (.then_modRun (.then_modClimate h))

theorem CavityWork.then_approachTest (h : CavityWork c s t) : CavityWork c s (approachTest c t) := by
  unfold approachTest
  split
  · exact h
  · split
    · exact .then_modRun h
    · exact .ite (.then_enterHold h) (.then_modRun (.then_modClimate h))

theorem CavityWork.then_approachSample {n : Nat} (h : CavityWork c s t) : CavityWork c s (approachSample c n t) := by
  unfold approachSample
  refine .ite ?_ h
  split
  · split
    · exact .ite (.then_enterHold h) h
    · exact h
  all_goals exact h

theorem CavityWork.then_climateAdjust {n : Nat} (h : CavityWork c s t) : CavityWork c s (climateAdjust c n t) :=
  .then_demandComputation (.then_modClimate h)

/-- Telling the shared generator of a demand sets at most denial reasons in the runs (R96). -/
theorem CavityWork.then_syncDemand {j : Cavity} (h : CavityWork c s t) : CavityWork c s (syncDemand j t) :=
  h.then_shared (syncDemand_within j t) (SharedWork.then_syncDemand (.refl t)).runs rfl

theorem CavityWork.then_refuse {j : Cavity} (h : CavityWork c s t) : CavityWork c s (refuse j t) :=
  h.then_shared (refuse_within j t) (SharedWork.then_refuse (.refl t)).runs rfl

/-! ## Step queues -/

theorem CavityWork.then_append {r : Record} (h : CavityWork c s t) (room : occupied (t.queues.get c) < 16) :
    CavityWork c s (append c r t) := h.then_modQueue (fun ok => ok.append room _ _)

theorem CavityWork.then_close (h : CavityWork c s t) : CavityWork c s (close c t) := .then_modRun h

theorem CavityWork.then_copyOne {i : Nat} (h : CavityWork c s t) (room : occupied (t.queues.get c) < 16) :
    CavityWork c s (copyOne c i t) := by
  unfold copyOne
  extract_lets records copied
  have copies : CavityWork c s copied := by
    unfold copied
    split
    · exact h.then_append room
    · exact h
  exact .ite copies.then_modRun (.then_close copies.then_modRun)

/-- The reader copies only into free slots (R9). -/
theorem CavityWork.then_copyWhile {k : Nat} {b : Bool} (h : CavityWork c s t) : CavityWork c s (copyWhile k b c t) := by
  induction k generalizing t with
  | zero => exact h
  | succ k ih =>
    unfold copyWhile
    split
    · exact h
    · split
      · exact h
      · next room => exact .ite h (ih (h.then_copyOne (Nat.lt_of_not_le room)))

theorem CavityWork.then_noteOutstanding (h : CavityWork c s t) : CavityWork c s (noteOutstanding c t) :=
  h.then_modQueue id

theorem CavityWork.then_readerRefill (h : CavityWork c s t) : CavityWork c s (readerRefill c t) :=
  .then_noteOutstanding (.then_copyWhile h)

theorem CavityWork.then_readerAgain (h : CavityWork c s t) : CavityWork c s (readerAgain c t) :=
  .ite (.then_noteOutstanding (.then_copyWhile h)) h

theorem CavityWork.then_requestRefill (h : CavityWork c s t) : CavityWork c s (requestRefill c t) := by
  unfold requestRefill
  split
  · exact .then_post h
  · exact .then_readerRefill h

theorem CavityWork.then_afterChange {n : Nat} (h : CavityWork c s t) : CavityWork c s (afterChange c n t) :=
  .ite (.then_requestRefill h) (.then_readerAgain h)

theorem CavityWork.then_loseMark (h : CavityWork c s t) : CavityWork c s (loseMark c t) :=
  .then_broadcast (h.then_modQueue QueueOk.dropMark)

/-- A walk handles record after record (R10 to R16). -/
theorem CavityWork.then_walk {k : Nat} (h : CavityWork c s t) : CavityWork c s (walk k c t).1 := by
  induction k generalizing t with
  | zero => exact h
  | succ k ih =>
    unfold walk
    extract_lets q
    split
    · split
      · exact ih (.then_noteOutstanding (.then_copyWhile h.then_loseMark))
      · exact h
    · next x rest e =>
      split
      · exact .then_afterChange (h.then_modQueue (fun ok => ok.consumeAction e _ _))
      · exact ih (.then_afterChange (h.then_modQueue (fun ok => ok.consumeMark e)))
      · extract_lets told
        have tells : CavityWork c s told := .ite h h.then_broadcast
        have sameQueue : told.queues = t.queues := by unfold told; split <;> rfl
        refine ih (.then_afterChange (tells.then_modQueue (fun ok => ok.consumeRepeat (x := x) ?_ _)))
        rw [sameQueue]
        exact e

theorem CavityWork.then_emptyQueue (h : CavityWork c s t) : CavityWork c s (emptyQueue c t) :=
  h.then_modQueue (fun _ => .emptied _)

end

end Sys2Proof.Machine
end

section
/-! SUPPORT. Work on a cavity: the runs of chapter 2, their orders, their prompts and their inputs. -/

namespace Sys2Proof.Machine

section
variable {s t u : State} {c : Cavity}

/-! ## Step entry and run ends -/

theorem CavityWork.then_settle (h : CavityWork c s t) : CavityWork c s (settle c t) :=
  .then_syncDemand (.then_syncFreeze (.then_settleClimate h))

theorem CavityWork.then_coreEntry (h : CavityWork c s t) : CavityWork c s (coreEntry c t) :=
  .ite (.ite (.then_modRun h) (.then_raiseDevice h)) h

theorem CavityWork.then_enterPhases {a : Action} (h : CavityWork c s t) : CavityWork c s (enterPhases c a t) := by
  unfold enterPhases
  split
  · exact .then_raiseRecipe (.then_modRun h)
  · split
    · exact .then_coreEntry (.then_raiseRecipe (.then_approachTest h))
    · exact .then_coreEntry (.then_approachTest h)

theorem CavityWork.then_enterStep {load : Nat} {a : Action} (h : CavityWork c s t) :
    CavityWork c s (enterStep c load a t) := by
  unfold enterStep
  extract_lets recorded started formed computed
  have start : CavityWork c s started := .then_broadcast (.then_climateTake (.then_modRun h))
  have compute : CavityWork c s computed := .then_demandComputation (.then_reformPair (.then_enterPhases start))
  exact .ite (.then_refuse compute) compute

theorem CavityWork.then_leaveEntry (h : CavityWork c s t) : CavityWork c s (leaveEntry c t) :=
  .ite (.then_coreEntry (.then_approachTest h)) h

theorem CavityWork.then_endRun {x : RunState} {r : Option AbortReason} (h : CavityWork c s t) :
    CavityWork c s (endRun c x r t) := .then_emptyQueue (.then_climateEnd (.then_stopCavity (.then_modRun h)))

theorem CavityWork.then_clearStepPrompts (h : CavityWork c s t) : CavityWork c s (clearStepPrompts c t) :=
  h.then_within (clearStepPrompts_within c t) rfl

theorem CavityWork.then_cancelProbePrompt (h : CavityWork c s t) : CavityWork c s (cancelProbePrompt c t) :=
  h.then_within (cancelProbePrompt_within c t) rfl

theorem CavityWork.then_finish (h : CavityWork c s t) : CavityWork c s (finish c t) := .then_broadcast (.then_endRun h)

theorem CavityWork.then_starveOverrun (h : CavityWork c s t) : CavityWork c s (starveOverrun c t) := by
  unfold starveOverrun
  extract_lets lost
  have lose : CavityWork c s lost := .then_loseMark h
  refine .ite ?_ h
  split
  · exact .then_post lose
  · exact lose

theorem CavityWork.then_starve (h : CavityWork c s t) : CavityWork c s (starve c t) := by
  unfold starve
  extract_lets overran entered held
  have hold : CavityWork c s held := .then_modClimate (.then_modRun (.then_starveOverrun h))
  split
  · exact .then_broadcast hold
  · exact hold

theorem CavityWork.then_afterWalk {x : State × Option (Nat × Action)} (h : CavityWork c s x.1) :
    CavityWork c s (afterWalk c x) := by
  unfold afterWalk
  split
  · exact .then_enterStep h
  · exact .ite (.then_finish h) (.then_starve h)

theorem CavityWork.then_stepEnd (h : CavityWork c s t) : CavityWork c s (stepEnd c t) :=
  .then_afterWalk (.then_walk (.then_clearStepPrompts h))

theorem CavityWork.then_endCondition (h : CavityWork c s t) : CavityWork c s (endCondition c t) := by
  unfold endCondition
  split
  · exact .then_raiseRecipe (.then_cancelProbePrompt (.then_modRun h))
  · exact .then_stepEnd h

theorem CavityWork.then_tryEnd (h : CavityWork c s t) : CavityWork c s (tryEnd c t) := .ite (.then_endCondition h) h

theorem CavityWork.then_abortRun {r : AbortReason} (h : CavityWork c s t) : CavityWork c s (abortRun c r t) :=
  .then_broadcast (.then_endRun (.then_cancelPrompt h))

theorem CavityWork.then_abortInProgress {r : AbortReason} (h : CavityWork c s t) :
    CavityWork c s (abortInProgress c r t) := .ite (.then_abortRun h) h

/-! ## Pause, resume and start -/

theorem CavityWork.then_pause {r : PauseReason} (h : CavityWork c s t) : CavityWork c s (pause c r t) := by
  unfold pause
  extract_lets run paused
  have pauses (x : PausedFrom) : CavityWork c s (paused x) := .then_broadcast (.then_modRun h)
  split
  · exact pauses _
  · exact pauses _
  all_goals exact h

theorem CavityWork.then_takeOverlays (h : CavityWork c s t) : CavityWork c s (takeOverlays c t) := .then_modRun h

theorem CavityWork.then_makeDeferred (h : CavityWork c s t) : CavityWork c s (makeDeferred c t) := by
  unfold makeDeferred
  split
  · exact .then_leaveEntry h
  · exact .then_stepEnd h
  all_goals exact h

theorem CavityWork.then_feedCheck (h : CavityWork c s t) : CavityWork c s (feedCheck c t) :=
  .ite (.then_settle (.then_abortRun h)) h

theorem CavityWork.then_resume (h : CavityWork c s t) : CavityWork c s (resume c t) := by
  unfold resume
  extract_lets run back resumed overlaid owed
  have back : CavityWork c s resumed := .then_modRun h
  have overlay : CavityWork c s overlaid := .then_takeOverlays (.ite (.then_makeDeferred back) back)
  have owe : CavityWork c s owed := .ite (.then_modClimate overlay) overlay
  exact .then_feedCheck (.then_settle owe)

theorem CavityWork.then_startRefill (h : CavityWork c s t) : CavityWork c s (startRefill c t) :=
  .ite (.then_requestRefill h) h

theorem CavityWork.then_enterRunning (h : CavityWork c s t) : CavityWork c s (enterRunning c t) :=
  .then_settle (.then_afterWalk (.then_walk (.then_syncFreeze (.then_takeOverlays (.then_modRun h)))))

theorem CavityWork.then_enterDelayed {n : Nat} {b : Bool} (h : CavityWork c s t) :
    CavityWork c s (enterDelayed c n b t) := .then_modRun h

theorem CavityWork.then_delayEnd (h : CavityWork c s t) : CavityWork c s (delayEnd c t) := .ite (.then_enterRunning h) h

/-! ## Timed events, prompt and probe reports, overlays -/

theorem CavityWork.then_stepTimeEnd (h : CavityWork c s t) : CavityWork c s (stepTimeEnd c t) :=
  .ite (.then_settle (.then_tryEnd (.then_modRun h))) h

theorem CavityWork.then_feederEnd (h : CavityWork c s t) : CavityWork c s (feederEnd c t) :=
  .ite (.then_settle (.then_abortRun h)) h

theorem CavityWork.then_doorTimeoutEnd (h : CavityWork c s t) : CavityWork c s (doorTimeoutEnd c t) :=
  .ite (.then_settle (.then_pause h)) h

theorem CavityWork.then_recipeAnswered {x : Placement} (h : CavityWork c s t) :
    CavityWork c s (recipeAnswered c x t) := by
  unfold recipeAnswered
  cases x
  case before => exact .ite (.then_modRun h) (.ite (.then_settle (.then_leaveEntry h)) h)
  case after => exact .ite (.then_modRun h) (.ite (.then_settle (.then_stepEnd h)) h)
  case notice => exact h
  case device => exact h

theorem CavityWork.then_resumeForProbe (h : CavityWork c s t) : CavityWork c s (resumeForProbe c t) :=
  .ite (.then_resume h) h

theorem CavityWork.then_probePromptAcked (h : CavityWork c s t) : CavityWork c s (probePromptAcked c t) :=
  .then_resumeForProbe (.ite (.then_modRun h) h)

theorem CavityWork.then_probeLost (h : CavityWork c s t) : CavityWork c s (probeLost c t) := by
  unfold probeLost
  extract_lets run waits
  have wait : CavityWork c s waits := .then_raiseDevice (.then_modRun h)
  exact .ite (.ite (.then_modRun h) (.ite (.then_settle (.then_pause wait)) wait)) h

theorem CavityWork.then_probeFound (h : CavityWork c s t) : CavityWork c s (probeFound c t) := .ite (.then_modRun h) h

theorem CavityWork.then_doorOverlay (h : CavityWork c s t) : CavityWork c s (doorOverlay c t) :=
  .then_settle (.then_modRun h)

theorem CavityWork.then_doorLift (h : CavityWork c s t) : CavityWork c s (doorLift c t) :=
  .then_settle (.then_modRun h)

theorem CavityWork.then_mainsOverlay (h : CavityWork c s t) : CavityWork c s (mainsOverlay c t) :=
  .then_settle (.then_modRun h)

theorem CavityWork.then_mainsLift (h : CavityWork c s t) : CavityWork c s (mainsLift c t) :=
  .then_settle (.then_modRun h)

theorem CavityWork.then_mainsAbort (h : CavityWork c s t) : CavityWork c s (mainsAbort c t) :=
  .ite (.then_settle (.then_abortRun h)) h

theorem CavityWork.then_evalWatch {n r : Nat} {x : WatchSource} (h : CavityWork c s t) :
    CavityWork c s (evalWatch c n x r t).1 := by
  unfold evalWatch
  split
  · split
    · exact .then_broadcast (.then_modClimate h)
    · exact h
  · exact h

theorem CavityWork.then_watchEnd {x : Option WatchAction} (h : CavityWork c s t) : CavityWork c s (watchEnd c x t) :=
  .ite (.then_settle (.then_tryEnd h)) h

theorem CavityWork.then_watchPause {x : Option WatchAction} (h : CavityWork c s t) : CavityWork c s (watchPause c x t) :=
  .ite (.then_pause h) h

theorem CavityWork.then_evalWatches {x : WatchSource} {n : Nat} (h : CavityWork c s t) :
    CavityWork c s (evalWatches c x n t) :=
  .then_settle (.then_watchPause (.then_watchPause (.then_watchEnd (.then_watchEnd (.then_evalWatch (.then_evalWatch h))))))

theorem CavityWork.then_coreSample {n : Nat} (h : CavityWork c s t) : CavityWork c s (coreSample c n t) := by
  unfold coreSample
  extract_lets run
  split
  · exact .ite (.then_settle (.then_tryEnd h)) h
  · exact h

/-! ## Orders -/

theorem CavityWork.then_openWith {o : Opened} (h : CavityWork c s t) : CavityWork c s (openWith c o t) := by
  unfold openWith
  extract_lets reader fresh opened emptied
  have empty : CavityWork c s emptied := by
    apply CavityWork.then_modQueue h.then_modRun
    exact fun _ => .emptied StepQueue.reset
  exact .ite empty.then_readerRefill empty

theorem CavityWork.then_openRun {p : Port} {x y z : Byte} (h : CavityWork c s t) :
    CavityWork c s (openRun p x y z c t).1 := by
  unfold openRun
  split
  · exact h
  · split
    · exact h
    · split
      · exact h
      · split
        · exact h
        · extract_lets empty opened
          split
          · exact h
          · exact h.then_openWith

theorem CavityWork.then_starvedWalk (h : CavityWork c s t) : CavityWork c s (starvedWalk c t) := by
  unfold starvedWalk
  extract_lets x
  have walks : CavityWork c s x.1 := h.then_walk
  split
  · exact .then_settle (.then_enterStep walks.then_modRun)
  · exact walks

/-- LOAD_STEP appends only where a slot is free (R8). -/
theorem CavityWork.then_loadStep {p : Port} {r : List Byte} (h : CavityWork c s t) :
    CavityWork c s (loadStep p r c t).1 := by
  unfold loadStep
  extract_lets run
  split
  · exact h
  · split
    · exact h
    · split
      · exact h
      · next x _ =>
        split
        · exact h
        · next room =>
          have loads : CavityWork c s (append c x t) := h.then_append (Nat.lt_of_not_le room)
          exact .ite loads.then_starvedWalk loads

theorem CavityWork.then_closeRun {p : Port} (h : CavityWork c s t) : CavityWork c s (closeRun p c t).1 := by
  unfold closeRun
  extract_lets run
  split
  · exact h
  · split
    · exact h
    · split
      · exact h
      · split
        · exact .then_settle (.then_finish (.then_clearStepPrompts h.then_close))
        · exact h.then_close

theorem CavityWork.then_startRun {d : Half} (h : CavityWork c s t) : CavityWork c s (startRun d c t).1 := by
  unfold startRun
  split
  · exact .ite (.then_enterRunning h.then_startRefill) (.then_enterDelayed h.then_startRefill)
  · exact h

theorem CavityWork.then_pauseRun (h : CavityWork c s t) : CavityWork c s (pauseRun c t).1 := by
  unfold pauseRun
  split
  · exact .then_settle h.then_pause
  · exact .then_settle h.then_pause
  all_goals exact h

theorem CavityWork.then_resumeRun (h : CavityWork c s t) : CavityWork c s (resumeRun c t).1 := by
  unfold resumeRun
  split
  · exact h.then_resume
  · exact h

theorem CavityWork.then_toIdle (h : CavityWork c s t) : CavityWork c s (toIdle c t) := .then_modRun h

theorem CavityWork.then_stopRun (h : CavityWork c s t) : CavityWork c s (stopRun c t).1 := by
  have aborts : CavityWork c s (settle c (abortRun c .stop t)) := .then_settle h.then_abortRun
  unfold stopRun
  split
  · exact .then_settle (.then_toIdle h.then_endRun)
  · exact aborts
  · exact aborts
  · exact aborts
  · exact aborts
  all_goals exact h

theorem CavityWork.then_clearRun (h : CavityWork c s t) : CavityWork c s (clearRun c t).1 := by
  unfold clearRun
  split
  · exact h.then_toIdle
  · exact h.then_toIdle
  all_goals exact h

theorem CavityWork.then_adopt {p old : Port} (h : CavityWork c s t) : CavityWork c s (adopt p old c t) := by
  unfold adopt
  extract_lets fed moved
  have move : CavityWork c s moved := .then_post h.then_modRun
  exact .ite move.then_requestRefill move

theorem CavityWork.then_adoptRun {p : Port} (h : CavityWork c s t) : CavityWork c s (adoptRun p c t).1 := by
  unfold adoptRun
  extract_lets run
  split
  · exact h
  · split
    · exact h
    · split
      · exact h
      · exact h.then_adopt

theorem CavityWork.then_skipEffect (h : CavityWork c s t) : CavityWork c s (skipEffect c t) := by
  unfold skipEffect
  split
  · exact .then_endCondition h
  · exact .then_endCondition h
  · exact .then_endCondition h.then_cancelPrompt
  · exact .then_stepEnd h.then_cancelPrompt
  · exact h

theorem CavityWork.then_skipStep (h : CavityWork c s t) : CavityWork c s (skipStep c t).1 := by
  unfold skipStep
  extract_lets run
  split
  · exact .then_settle h.then_skipEffect
  · exact h

theorem CavityWork.then_adjust {a : Adjustment} (h : CavityWork c s t) : CavityWork c s (adjust c a t) := by
  unfold adjust
  extract_lets adjusted
  have adjusts : CavityWork c s adjusted := h.then_modRun
  apply CavityWork.then_settle
  split
  · exact .then_climateAdjust adjusts
  · exact adjusts

theorem CavityWork.then_adjustStep {x y z : Byte} {n : Half} (h : CavityWork c s t) :
    CavityWork c s (adjustStep x y n z c t).1 := by
  unfold adjustStep
  extract_lets run
  split
  · exact h
  · split
    · split
      · exact h
      · split
        · split
          · exact h
          · exact h.then_adjust
        · exact h
    · exact h

theorem CavityWork.then_setWatch {x y z w : Byte} {n : Half} (h : CavityWork c s t) :
    CavityWork c s (setWatch x y z n w c t).1 := by
  unfold setWatch
  split
  · split
    · exact h.then_modClimate
    · exact h
  · exact h

theorem CavityWork.then_clearWatch {x : Byte} (h : CavityWork c s t) : CavityWork c s (clearWatch x c t).1 := by
  unfold clearWatch
  split
  · exact h.then_modClimate
  · exact h

theorem CavityWork.then_clearLimit (h : CavityWork c s t) : CavityWork c s (clearLimit c t).1 := by
  unfold clearLimit
  split
  · exact h
  · exact CavityWork.then_settle (t := { t with limitLatch := _ }) ⟨h.other, h.queue⟩

/-! ## Prompts -/

@[simp] theorem ownerCavity_cavityOwner (j : Cavity) : ownerCavity (cavityOwner j) = some j := by cases j <;> rfl

theorem CavityWork.then_reportAnswer {e : Prompt} (h : CavityWork c s t) :
    CavityWork c s (reportAnswer (cavityOwner c) e t) := by
  rw [reportAnswer, ownerCavity_cavityOwner]
  exact h.then_recipeAnswered

theorem CavityWork.then_answerPrompt {r : ClearReason} (h : CavityWork c s t) :
    CavityWork c s (answerPrompt (cavityOwner c) r t) := by
  unfold answerPrompt
  split
  · exact .then_reportAnswer h.then_removePrompt
  · exact h

theorem CavityWork.then_doorOpenPrompt (h : CavityWork c s t) : CavityWork c s (doorOpenPrompt c t) :=
  h.then_within (doorOpenPrompt_within c t) rfl

theorem CavityWork.then_doorClosePrompt (h : CavityWork c s t) : CavityWork c s (doorClosePrompt c t) := by
  unfold doorClosePrompt
  split
  · exact .ite h.then_answerPrompt h
  · exact h

theorem CavityWork.then_probeAnswer (h : CavityWork c s t) : CavityWork c s (probeAnswer c t) := by
  unfold probeAnswer
  split
  · exact .ite (.then_resumeForProbe h.then_removePrompt) h
  · exact h

theorem CavityWork.then_timeoutPause {e : Prompt} (h : CavityWork c s t) :
    CavityWork c s (timeoutPause (cavityOwner c) e t) := by
  rw [timeoutPause, ownerCavity_cavityOwner]
  exact .then_settle (.then_pause h.then_setPrompt)

theorem CavityWork.then_timeoutAbort (h : CavityWork c s t) : CavityWork c s (timeoutAbort (cavityOwner c) t) := by
  rw [timeoutAbort, ownerCavity_cavityOwner]
  exact .then_settle (.then_abortInProgress h.then_removePrompt)

theorem CavityWork.then_promptTimeout (h : CavityWork c s t) : CavityWork c s (promptTimeout (cavityOwner c) t) := by
  unfold promptTimeout
  split
  · refine .ite ?_ h
    split
    · exact h.then_timeoutAbort
    · exact .ite h.then_answerPrompt h.then_timeoutPause
    all_goals exact h.then_answerPrompt
  · exact h

/-! ## Inputs -/

theorem deliver_cavitySensor (j : Cavity) (n : Nat) (s : State) :
    deliver (cavitySensor j) n s = evalWatches j .cavity n (approachSample j n s) := by cases j <;> rfl

theorem deliver_coreSensor (j : Cavity) (n : Nat) (s : State) :
    deliver (coreSensor j) n s = evalWatches j .core n (coreSample j n s) := by cases j <;> rfl

theorem handFault_cavitySensor (j : Cavity) (s : State) :
    handFault (cavitySensor j) s = settle j (abortInProgress j .sensor s) := by cases j <;> rfl

theorem handFault_coreSensor (j : Cavity) (s : State) : handFault (coreSensor j) s = probeLost j s := by cases j <;> rfl

theorem handClear_cavitySensor (j : Cavity) (s : State) : handClear (cavitySensor j) s = s := by cases j <;> rfl

theorem handClear_coreSensor (j : Cavity) (s : State) :
    handClear (coreSensor j) s = probeAnswer j (probeFound j s) := by cases j <;> rfl

section
variable {x : Sensor} (own : x = cavitySensor c ∨ x = coreSensor c)
include own

theorem CavityWork.then_deliver {n : Nat} (h : CavityWork c s t) : CavityWork c s (deliver x n t) := by
  rcases own with rfl | rfl
  · rw [deliver_cavitySensor]; exact .then_evalWatches h.then_approachSample
  · rw [deliver_coreSensor]; exact .then_evalWatches h.then_coreSample

theorem CavityWork.then_handFault (h : CavityWork c s t) : CavityWork c s (handFault x t) := by
  rcases own with rfl | rfl
  · rw [handFault_cavitySensor]; exact .then_settle h.then_abortInProgress
  · rw [handFault_coreSensor]; exact h.then_probeLost

theorem CavityWork.then_handClear (h : CavityWork c s t) : CavityWork c s (handClear x t) := by
  rcases own with rfl | rfl
  · rw [handClear_cavitySensor]; exact h
  · rw [handClear_coreSensor]; exact .then_probeAnswer h.then_probeFound

theorem CavityWork.then_sensorSample {v : Sample} (h : CavityWork c s t) : CavityWork c s (sensorSample x v t) := by
  unfold sensorSample
  extract_lets reading before out sampled
  have sample : CavityWork c s sampled := ⟨h.other, h.queue⟩
  split
  · exact sample
  · exact sample.then_deliver own
  · exact .then_handFault own sample.then_broadcast
  · exact .then_deliver own (.then_handClear own sample.then_broadcast)

end

theorem CavityWork.then_probeInsertion (h : CavityWork c s t) : CavityWork c s (probeInsertion c t) := by
  unfold probeInsertion
  extract_lets present
  have inserted : CavityWork c s present := ⟨h.other, h.queue⟩
  exact .ite h (.then_probeAnswer (.then_probeFound inserted.then_broadcast))

theorem CavityWork.then_probeRemoval (h : CavityWork c s t) : CavityWork c s (probeRemoval c t) := by
  unfold probeRemoval
  extract_lets absent
  have removed : CavityWork c s absent := ⟨h.other, h.queue⟩
  exact .ite (.then_probeLost removed.then_broadcast) h

theorem CavityWork.then_doorOpen (h : CavityWork c s t) : CavityWork c s (doorOpen c t) := by
  unfold doorOpen
  extract_lets opened
  have opens : CavityWork c s opened := ⟨h.other, h.queue⟩
  exact .ite h (.then_doorOpenPrompt opens.then_doorOverlay)

theorem CavityWork.then_doorClose (h : CavityWork c s t) : CavityWork c s (doorClose c t) := by
  unfold doorClose
  extract_lets closed
  have closes : CavityWork c s closed := ⟨h.other, h.queue⟩
  exact .ite (.then_doorClosePrompt closes.then_doorLift) h

theorem CavityWork.then_limitTrip (h : CavityWork c s t) : CavityWork c s (limitTrip c t) := by
  unfold limitTrip
  extract_lets tripped
  have trips : CavityWork c s tripped := ⟨h.other, h.queue⟩
  exact .ite h (.then_settle (.then_abortInProgress trips.then_broadcast))

theorem CavityWork.then_limitRelease (h : CavityWork c s t) : CavityWork c s (limitRelease c t) := ⟨h.other, h.queue⟩

end

end Sys2Proof.Machine
end

section
/-! SUPPORT. Taking an order or an event that names a cavity is work on that cavity. -/

namespace Sys2Proof.Machine

section
variable {s : State} {c : Cavity} {p : Port}

/-- A received frame is work on a cavity when its order is (R177). -/
theorem takeFrame_cavityWork {q id : Byte} {act : Act} (h : CavityWork c s (act s).1) :
    CavityWork c s (takeFrame p q id act s) := by
  have pushed {k : ReplyKind} {r : Reply} {t : State} (w : CavityWork c s t) : CavityWork c s (pushReply p k r t) :=
    ⟨w.other, w.queue⟩
  exact .ite (.refl c s) (.ite (.ite (.refl c s) (pushed (.refl c s))) (pushed h))

/-- The hold check restarts an expiry and no more (R184). -/
theorem withHold_cavityWork {need : Option HoldObject} {act : Act}
    (h : ∀ {t : State}, CavityWork c s t → CavityWork c s (act t).1) : CavityWork c s (withHold p need act s).1 := by
  unfold withHold
  split
  · exact h (.refl c s)
  · split
    · split
      · exact h ⟨⟨rfl, rfl, rfl, rfl⟩, id⟩
      · exact .refl c s
    · exact .refl c s

theorem cavityAct_cavityWork {b : Byte} {need : Cavity → Option HoldObject} {act : Cavity → Act}
    (hb : cavityOf? b = some c) (h : ∀ {t : State}, CavityWork c s t → CavityWork c s (act c t).1) :
    CavityWork c s (cavityAct p b need act s).1 := by
  simp only [cavityAct, hb]
  exact withHold_cavityWork h

theorem counted_cavityWork {ok : Bool} {act : Act} (h : CavityWork c s (act s).1) :
    CavityWork c s (counted ok act s).1 := by
  unfold counted
  split
  · exact h
  · exact .refl c s

theorem event_cavityWork {f : State → State} {t : State} (h : CavityWork c s (f s)) (e : event f s = .next t) :
    CavityWork c s t := by
  unfold event at e
  split at e
  · obtain rfl := Host.Outcome.next.inj e; exact .refl c s
  · obtain rfl := Host.Outcome.next.inj e; exact h

theorem event_cavityOrder_cavityWork {q id b : Byte} {need : Cavity → Option HoldObject} {act : Cavity → Act} {t : State}
    (hb : cavityOf? b = some c) (h : ∀ {t : State}, CavityWork c s t → CavityWork c s (act c t).1)
    (e : event (cavityOrder p q id b need act) s = .next t) : CavityWork c s t :=
  event_cavityWork (f := cavityOrder p q id b need act) (takeFrame_cavityWork (cavityAct_cavityWork hb h)) e

end

/-- A command that acts on one cavity is work on that cavity. -/
theorem exec_cavityWork {i : Instr} {c : Cavity} {s t : State} (hc : commandCavity i = some c) (e : exec i s = .next t) :
    CavityWork c s t := by
  cases i
  case openRun => exact event_cavityOrder_cavityWork hc .then_openRun e
  case loadStep =>
    exact event_cavityWork (takeFrame_cavityWork (counted_cavityWork (cavityAct_cavityWork hc .then_loadStep))) e
  case closeRun => exact event_cavityOrder_cavityWork hc .then_closeRun e
  case startRun => exact event_cavityOrder_cavityWork hc .then_startRun e
  case pauseRun => exact event_cavityOrder_cavityWork hc .then_pauseRun e
  case resumeRun => exact event_cavityOrder_cavityWork hc .then_resumeRun e
  case stopRun => exact event_cavityOrder_cavityWork hc .then_stopRun e
  case clearRun => exact event_cavityOrder_cavityWork hc .then_clearRun e
  case adoptRun => exact event_cavityOrder_cavityWork hc .then_adoptRun e
  case skipStep => exact event_cavityOrder_cavityWork hc .then_skipStep e
  case adjustStep => exact event_cavityOrder_cavityWork hc .then_adjustStep e
  case setWatch => exact event_cavityOrder_cavityWork hc .then_setWatch e
  case clearWatch => exact event_cavityOrder_cavityWork hc .then_clearWatch e
  case readRun => exact event_cavityOrder_cavityWork hc id e
  case clearLimit => exact event_cavityOrder_cavityWork hc .then_clearLimit e
  case stepTimeExpiry => cases hc; exact event_cavityWork (.then_stepTimeEnd (.refl c s)) e
  case feederTimeout => cases hc; exact event_cavityWork (.then_feederEnd (.refl c s)) e
  case doorTimeout => cases hc; exact event_cavityWork (.then_doorTimeoutEnd (.refl c s)) e
  case regulationUpdate => cases hc; exact event_cavityWork (.then_regulationUpdate (.refl c s)) e
  case pairOffExpiry => cases hc; exact event_cavityWork (.then_pairOffEnd (.refl c s)) e
  case probeInsertion => cases hc; exact event_cavityWork (.then_probeInsertion (.refl c s)) e
  case probeRemoval => cases hc; exact event_cavityWork (.then_probeRemoval (.refl c s)) e
  case doorOpen => cases hc; exact event_cavityWork (.then_doorOpen (.refl c s)) e
  case doorClose => cases hc; exact event_cavityWork (.then_doorClose (.refl c s)) e
  case limitTrip => cases hc; exact event_cavityWork (.then_limitTrip (.refl c s)) e
  case limitRelease => cases hc; exact event_cavityWork (.then_limitRelease (.refl c s)) e
  case sensorSample x v =>
    have own : x = cavitySensor c ∨ x = coreSensor c := by
      cases x <;> cases hc
      · exact .inl rfl
      · exact .inl rfl
      · exact .inr rfl
      · exact .inr rfl
    exact event_cavityWork (.then_sensorSample own (.refl c s)) e
  case promptTimeout o =>
    have own : o = cavityOwner c := by cases o <;> cases hc <;> rfl
    subst own
    exact event_cavityWork (.then_promptTimeout (.refl c s)) e
  all_goals exact absurd hc nofun

/-- Settles O10: the command is work on its cavity. -/
theorem otherCavityIsLeftAlone : Obligations.OtherCavityIsLeftAlone := by
  unfold Obligations.OtherCavityIsLeftAlone
  intro i c s t hc e
  exact (exec_cavityWork hc e).other

end Sys2Proof.Machine
end

section
/-! SUPPORT. Both step queues stay within their slots: what a command does beyond the work on one cavity. -/

namespace Sys2Proof.Machine

/-- Where no queue changes. -/
theorem QueuesOk.then_within {g : Parts} {s t : State} (h : QueuesOk s) (w : Within g s t) (k : g.queues = false) :
    QueuesOk t := by
  intro c
  rw [w.queues_eq k]
  exact h c

theorem QueuesOk.ite {p : Prop} [Decidable p] {t u : State} (ht : QueuesOk t) (hu : QueuesOk u) :
    QueuesOk (if p then t else u) := by
  split
  · exact ht
  · exact hu

section
variable {s : State}

/-! ## Prompts of every owner -/

/-- An answered prompt is work on its cavity, or the steam side's. -/
theorem QueuesOk.then_reportAnswer {o : Owner} {e : Prompt} (h : QueuesOk s) : QueuesOk (reportAnswer o e s) := by
  cases o
  case cavityA => exact (CavityWork.then_reportAnswer (c := .A) (.refl _ s)).queuesOk h
  case cavityB => exact (CavityWork.then_reportAnswer (c := .B) (.refl _ s)).queuesOk h
  case generator => exact h.then_within (refillAnswered_within s) rfl
  case descaler => exact h.then_within (descaleAnswered_within s) rfl

theorem QueuesOk.then_removePrompt {o : Owner} {r : ClearReason} (h : QueuesOk s) : QueuesOk (removePrompt o r s) :=
  h.then_within (removePrompt_within o r s) rfl

theorem QueuesOk.then_answerPrompt {o : Owner} {r : ClearReason} (h : QueuesOk s) : QueuesOk (answerPrompt o r s) := by
  unfold answerPrompt
  split
  · exact h.then_removePrompt.then_reportAnswer
  · exact h

theorem QueuesOk.then_tankAnswer {o : Owner} (h : QueuesOk s) : QueuesOk (tankAnswer o s) := by
  unfold tankAnswer
  split
  · exact .ite h.then_answerPrompt h
  · exact h

theorem QueuesOk.then_ackEntry {o : Owner} {e : Prompt} {p : Port} (h : QueuesOk s) : QueuesOk (ackEntry o e p s) := by
  unfold ackEntry
  split
  · exact .ite ((CavityWork.then_probePromptAcked (.refl _ _)).queuesOk h.then_removePrompt) h.then_answerPrompt
  · exact h.then_answerPrompt

theorem QueuesOk.then_ackPrompt {p : Port} {id : Half} (h : QueuesOk s) : QueuesOk (ackPrompt p id s).1 := by
  unfold ackPrompt
  split
  · exact h
  · split
    · exact h.then_ackEntry
    · exact h

/-- Every owner is a cavity's, or the steam side's. -/
theorem owner_cases (o : Owner) : (∃ c, o = cavityOwner c) ∨ ownerCavity o = none := by
  cases o
  case cavityA => exact .inl ⟨.A, rfl⟩
  case cavityB => exact .inl ⟨.B, rfl⟩
  case generator => exact .inr rfl
  case descaler => exact .inr rfl

theorem QueuesOk.then_promptTimeout {o : Owner} (h : QueuesOk s) : QueuesOk (promptTimeout o s) := by
  rcases owner_cases o with ⟨c, rfl⟩ | steam
  · exact (CavityWork.then_promptTimeout (.refl c s)).queuesOk h
  · unfold promptTimeout
    split
    · refine .ite ?_ h
      split
      · rw [timeoutAbort, steam]; exact h.then_removePrompt
      · rw [timeoutPause, steam]; exact .ite h.then_answerPrompt h
      all_goals exact h.then_answerPrompt
    · exact h

/-! ## Inputs of both cavities -/

/-- Every sensor is a cavity's, or GEN_TEMP. -/
theorem sensor_cases (x : Sensor) : (∃ c, x = cavitySensor c ∨ x = coreSensor c) ∨ x = .genTemp := by
  cases x
  case cavTempA => exact .inl ⟨.A, .inl rfl⟩
  case cavTempB => exact .inl ⟨.B, .inl rfl⟩
  case coreA => exact .inl ⟨.A, .inr rfl⟩
  case coreB => exact .inl ⟨.B, .inr rfl⟩
  case genTemp => exact .inr rfl

theorem QueuesOk.then_sensorSample {x : Sensor} {v : Sample} (h : QueuesOk s) : QueuesOk (sensorSample x v s) := by
  rcases sensor_cases x with ⟨c, own⟩ | rfl
  · exact (CavityWork.then_sensorSample own (.refl c s)).queuesOk h
  · unfold sensorSample
    extract_lets reading before out sampled
    have sample : QueuesOk sampled := h
    split
    · exact sample
    · exact sample.then_within (genSample_within _ _) rfl
    · exact QueuesOk.then_within (s := broadcast _ sampled) sample (genFault_within _ _) rfl
    · exact QueuesOk.then_within (s := broadcast _ sampled) sample (genSample_within _ _) rfl

theorem QueuesOk.then_handFault {x : Sensor} (h : QueuesOk s) : QueuesOk (handFault x s) := by
  rcases sensor_cases x with ⟨c, own⟩ | rfl
  · exact (CavityWork.then_handFault own (.refl c s)).queuesOk h
  · exact h.then_within (genFault_within _ s) rfl

theorem QueuesOk.then_limitTrip {c : Cavity} (h : QueuesOk s) : QueuesOk (limitTrip c s) :=
  (CavityWork.then_limitTrip (.refl c s)).queuesOk h

theorem QueuesOk.then_tankInsertion (h : QueuesOk s) : QueuesOk (tankInsertion s) := by
  have inserted : QueuesOk { s with tankPresent := true } := h
  exact .ite h inserted.then_tankAnswer.then_tankAnswer

theorem QueuesOk.then_tankRemoval (h : QueuesOk s) : QueuesOk (tankRemoval s) := by
  refine .ite ?_ h
  have removed : QueuesOk (tankRemovedAtGen { s with tankPresent := false }) :=
    QueuesOk.then_within (s := { s with tankPresent := false }) h (tankRemovedAtGen_within _) rfl
  exact (removed.then_within (tankMark_within _ _) rfl).then_within (tankMark_within _ _) rfl

theorem QueuesOk.then_mainsOverlay {c : Cavity} (h : QueuesOk s) : QueuesOk (mainsOverlay c s) :=
  (CavityWork.then_mainsOverlay (.refl c s)).queuesOk h

theorem QueuesOk.then_mainsLift {c : Cavity} (h : QueuesOk s) : QueuesOk (mainsLift c s) :=
  (CavityWork.then_mainsLift (.refl c s)).queuesOk h

theorem QueuesOk.then_mainsAbort {c : Cavity} (h : QueuesOk s) : QueuesOk (mainsAbort c s) :=
  (CavityWork.then_mainsAbort (.refl c s)).queuesOk h

theorem QueuesOk.then_mainsLow (h : QueuesOk s) : QueuesOk (mainsLow s) := by
  unfold mainsLow
  extract_lets low
  have withdrawn : QueuesOk (withdrawAll allLoads (broadcast .mainsLow low)) :=
    QueuesOk.then_within (s := broadcast .mainsLow low) h (withdrawAll_within _ _) rfl
  exact .ite h withdrawn.then_mainsOverlay.then_mainsOverlay

theorem QueuesOk.then_mainsBack (h : QueuesOk s) : QueuesOk (mainsBack s) := by
  unfold mainsBack
  extract_lets back
  have decided : QueuesOk (grantDecision (broadcast .mainsBack back)) :=
    QueuesOk.then_within (s := broadcast .mainsBack back) h (grantDecision_within _) rfl
  exact .ite decided.then_mainsLift.then_mainsLift h

theorem QueuesOk.then_mainsLowExpiry (h : QueuesOk s) : QueuesOk (mainsLowExpiry s) := by
  unfold mainsLowExpiry
  extract_lets expired
  have expires : QueuesOk expired := h
  exact .ite (expires.then_mainsAbort.then_mainsAbort.then_within (mainsAbortProcedure_within _) rfl) h

/-! ## Runs of both cavities -/

theorem QueuesOk.then_delayEnd {c : Cavity} (h : QueuesOk s) : QueuesOk (delayEnd c s) :=
  (CavityWork.then_delayEnd (.refl c s)).queuesOk h

theorem QueuesOk.then_delayExpiry {c : Cavity} (h : QueuesOk s) : QueuesOk (delayExpiry c s) :=
  .ite h.then_delayEnd.then_delayEnd h.then_delayEnd

theorem QueuesOk.then_startRefill {c : Cavity} (h : QueuesOk s) : QueuesOk (startRefill c s) :=
  (CavityWork.then_startRefill (.refl c s)).queuesOk h

theorem QueuesOk.then_enterRunning {c : Cavity} (h : QueuesOk s) : QueuesOk (enterRunning c s) :=
  (CavityWork.then_enterRunning (.refl c s)).queuesOk h

theorem QueuesOk.then_enterDelayed {c : Cavity} {n : Nat} {b : Bool} (h : QueuesOk s) : QueuesOk (enterDelayed c n b s) :=
  (CavityWork.then_enterDelayed (.refl c s)).queuesOk h

theorem QueuesOk.then_startLinked {d : Half} (h : QueuesOk s) : QueuesOk (startLinked d s).1 := by
  unfold startLinked
  split
  · exact .ite h.then_startRefill.then_enterRunning.then_startRefill.then_enterRunning
      h.then_startRefill.then_enterDelayed.then_startRefill.then_enterDelayed
  · exact h

/-! ## Settings -/

theorem QueuesOk.then_feederEnd {c : Cavity} (h : QueuesOk s) : QueuesOk (feederEnd c s) :=
  (CavityWork.then_feederEnd (.refl c s)).queuesOk h

theorem QueuesOk.then_doorTimeoutEnd {c : Cavity} (h : QueuesOk s) : QueuesOk (doorTimeoutEnd c s) :=
  (CavityWork.then_doorTimeoutEnd (.refl c s)).queuesOk h

theorem QueuesOk.then_feedTimeoutCheck {c : Cavity} (h : QueuesOk s) : QueuesOk (feedTimeoutCheck c s) :=
  .ite h.then_feederEnd h

theorem QueuesOk.then_doorTimeoutCheck {c : Cavity} (h : QueuesOk s) : QueuesOk (doorTimeoutCheck c s) :=
  .ite h.then_doorTimeoutEnd h

theorem QueuesOk.then_settingConsequence {x : SettingId} (h : QueuesOk s) : QueuesOk (settingConsequence x s) := by
  unfold settingConsequence
  split
  · exact h.then_within (cutAndDecide_within s) rfl
  · exact h.then_within (cutAndDecide_within s) rfl
  · exact h.then_within (cutAndDecide_within s) rfl
  · exact h.then_within (thresholdTest_within _ s) rfl
  · exact h.then_within (thresholdTest_within _ s) rfl
  · exact h.then_within (overfillTest_within s) rfl
  · exact h.then_doorTimeoutCheck.then_doorTimeoutCheck
  · exact h.then_feedTimeoutCheck.then_feedTimeoutCheck
  · exact h.then_within (idleDrainCheck_within s) rfl
  · exact h.then_within (soakTimeCheck_within s) rfl
  all_goals exact h

theorem QueuesOk.then_putSetting {x : SettingId} {v : Settings} (h : QueuesOk s) : QueuesOk (putSetting x v s).1 :=
  QueuesOk.then_settingConsequence (s := { s with settings := v }) h

theorem QueuesOk.then_changeSetting {x : SettingId} {v : List Byte} (h : QueuesOk s) :
    QueuesOk (changeSetting x v s).1 := by
  unfold changeSetting
  split
  · split
    · split
      · exact h.then_putSetting
      · exact h
    · exact h
  · split
    · split
      · exact h.then_putSetting
      · exact h
    · exact h

theorem QueuesOk.then_setParam {p : Port} {id : Byte} {v : List Byte} (h : QueuesOk s) : QueuesOk (setParam p id v s).1 := by
  unfold setParam
  split
  · exact h
  · split
    · exact h
    · split
      · exact h
      · exact h.then_changeSetting

end

/-! ## Orders in frames -/

/-- An order's act keeps the queues within their slots. -/
def ActKeepsQueues (act : Act) : Prop := ∀ s, QueuesOk s → QueuesOk (act s).1

theorem ActKeepsQueues.deny (a : Answer) : ActKeepsQueues (deny a) := fun _ h => h

theorem ActKeepsQueues.ite {p : Prop} [Decidable p] {act act' : Act} (h : ActKeepsQueues act) (h' : ActKeepsQueues act') :
    ActKeepsQueues (if p then act else act') := by
  split
  · exact h
  · exact h'

theorem ActKeepsQueues.of_within {g : Parts} {act : Act} (w : ∀ s, Within g s (act s).1) (k : g.queues = false) :
    ActKeepsQueues act := fun s h => h.then_within (w s) k

theorem ActKeepsQueues.withHold {p : Port} {need : Option HoldObject} {act : Act} (h : ActKeepsQueues act) :
    ActKeepsQueues (withHold p need act) := by
  intro s ok
  unfold Machine.withHold
  split
  · exact h s ok
  · split
    · split
      · exact h _ ok
      · exact ok
    · exact ok

theorem ActKeepsQueues.counted {b : Bool} {act : Act} (h : ActKeepsQueues act) : ActKeepsQueues (counted b act) := by
  intro s ok
  unfold Machine.counted
  split
  · exact h s ok
  · exact ok

/-- An order that names a cavity works on that cavity. -/
theorem ActKeepsQueues.cavityAct {p : Port} {b : Byte} {need : Cavity → Option HoldObject} {act : Cavity → Act}
    (h : ∀ {c s t}, CavityWork c s t → CavityWork c s (act c t).1) : ActKeepsQueues (cavityAct p b need act) := by
  intro s ok
  unfold Machine.cavityAct
  split
  · exact ok
  · exact (withHold_cavityWork h).queuesOk ok

theorem ActKeepsQueues.oneCavity {p : Port} {params : List Byte} {need : Cavity → Option HoldObject} {act : Cavity → Act}
    (h : ∀ {c s t}, CavityWork c s t → CavityWork c s (act c t).1) : ActKeepsQueues (oneCavity p params need act) := by
  unfold Machine.oneCavity
  split
  · exact .cavityAct h
  · exact .deny _

theorem ActKeepsQueues.noParams {params : List Byte} {act : Act} (h : ActKeepsQueues act) :
    ActKeepsQueues (noParams params act) := by
  unfold Machine.noParams
  split
  · exact h
  · exact .deny _

theorem ActKeepsQueues.oneByte {params : List Byte} {act : Byte → Act} (h : ∀ b, ActKeepsQueues (act b)) :
    ActKeepsQueues (oneByte params act) := by
  unfold Machine.oneByte
  split
  · exact h _
  · exact .deny _

theorem runAct_keepsQueues (p : Port) (id : Byte) (params : List Byte) : ActKeepsQueues (runAct p id params) := by
  unfold runAct
  refine .ite ?openRun (.ite ?loadStep (.ite ?closeRun (.ite ?startRun (.ite ?startLinked (.ite ?pauseRun
    (.ite ?resumeRun (.ite ?stopRun (.ite ?clearRun (.ite ?adoptRun (.ite ?skipStep (.ite ?adjustStep
    (.ite ?setWatch (.ite ?clearWatch (.ite ?readRun (.deny _)))))))))))))))
  case openRun =>
    split
    · exact .cavityAct .then_openRun
    · exact .deny _
  case loadStep =>
    split
    · exact .counted (.cavityAct .then_loadStep)
    · exact .deny _
  case closeRun => exact .oneCavity .then_closeRun
  case startRun =>
    split
    · exact .cavityAct .then_startRun
    · exact .deny _
  case startLinked =>
    split
    · exact .withHold (fun _ => .then_startLinked)
    · exact .deny _
  case pauseRun => exact .oneCavity .then_pauseRun
  case resumeRun => exact .oneCavity .then_resumeRun
  case stopRun => exact .oneCavity .then_stopRun
  case clearRun => exact .oneCavity .then_clearRun
  case adoptRun => exact .oneCavity .then_adoptRun
  case skipStep => exact .oneCavity .then_skipStep
  case adjustStep =>
    split
    · exact .cavityAct .then_adjustStep
    · exact .deny _
  case setWatch =>
    split
    · exact .cavityAct .then_setWatch
    · exact .deny _
  case clearWatch =>
    split
    · exact .cavityAct .then_clearWatch
    · exact .deny _
  case readRun => exact .oneCavity (fun h => h)

theorem storeAct_keepsQueues (p : Port) (id : Byte) (params : List Byte) : ActKeepsQueues (storeAct p id params) := by
  unfold storeAct
  refine .ite ?storeOpen (.ite ?storeLabel (.ite ?storeStep (.ite ?storeCommit (.ite ?storeCancel (.ite ?eraseProgram
    (.ite ?readProgram (.ite ?setParam (.ite ?readParam (.ite ?saveSettings (.deny _))))))))))
  case storeOpen => exact .oneByte (fun b => .withHold (.of_within (storeOpen_within p b) rfl))
  case storeLabel =>
    split
    · exact .counted (.withHold (.of_within (storeLabel_within _) rfl))
    · exact .deny _
  case storeStep => exact .counted (.withHold (.of_within (storeStep_within _) rfl))
  case storeCommit => exact .noParams (.withHold (.of_within (storeCommit_within p) rfl))
  case storeCancel => exact .noParams (.withHold (.of_within storeCancel_within rfl))
  case eraseProgram => exact .oneByte (fun b => .withHold (.of_within (eraseProgram_within p b) rfl))
  case readProgram =>
    split
    · exact .withHold (.of_within (readProgram_within _ _) rfl)
    · exact .deny _
  case setParam =>
    split
    · exact .withHold (fun _ => .then_setParam)
    · exact .deny _
  case readParam => exact .oneByte (fun b => .withHold (.of_within (readParam_within b) rfl))
  case saveSettings => exact .noParams (.withHold (.of_within (saveSettings_within p) rfl))

theorem otherAct_keepsQueues (p : Port) (id : Byte) (params : List Byte) : ActKeepsQueues (otherAct p id params) := by
  unfold otherAct
  refine .ite ?ackPrompt (.ite ?readPrompts (.ite ?takeHold (.ite ?releaseHold (.ite ?drainGen (.ite ?genReset
    (.ite ?readGen (.ite ?startDescale (.ite ?abortDescale (.ite ?startRinse (.ite ?readDescale (.ite ?readWater
    (.ite ?readLoads (.ite ?readSensors (.ite ?clearLimit (.ite ?readCause (.ite ?setCauseMask (.ite ?portReset
    (.deny _))))))))))))))))))
  case ackPrompt =>
    split
    · exact .withHold (fun _ => .then_ackPrompt)
    · exact .deny _
  case readPrompts => exact .noParams (.withHold (.of_within readPrompts_within rfl))
  case takeHold => exact .oneByte (fun b => .withHold (.of_within (takeHold_within p b) rfl))
  case releaseHold => exact .oneByte (fun b => .withHold (.of_within (releaseHold_within p b) rfl))
  case drainGen => exact .noParams (.withHold (.of_within drainGen_within rfl))
  case genReset => exact .noParams (.withHold (.of_within genReset_within rfl))
  case readGen => exact .noParams (.withHold (.of_within readGen_within rfl))
  case startDescale => exact .noParams (.withHold (.of_within startDescale_within rfl))
  case abortDescale => exact .noParams (.withHold (.of_within abortDescale_within rfl))
  case startRinse => exact .noParams (.withHold (.of_within startRinse_within rfl))
  case readDescale => exact .noParams (.withHold (.of_within readDescale_within rfl))
  case readWater => exact .noParams (.withHold (.of_within readWater_within rfl))
  case readLoads => exact .noParams (.withHold (.of_within readLoads_within rfl))
  case readSensors => exact .noParams (.withHold (.of_within readSensors_within rfl))
  case clearLimit => exact .oneCavity .then_clearLimit
  case readCause => exact .noParams (.withHold (.of_within (readCause_within p) rfl))
  case setCauseMask =>
    split
    · exact .withHold (.of_within (setCauseMask_within p _) rfl)
    · exact .deny _
  case portReset => exact .noParams (.withHold (.of_within (portReset_within p) rfl))

/-- Every order keeps the queues within their slots. -/
theorem frameAct_keepsQueues (p : Port) (id : Byte) (params : List Byte) : ActKeepsQueues (frameAct p id params) :=
  .ite (runAct_keepsQueues p id params) (.ite (storeAct_keepsQueues p id params) (otherAct_keepsQueues p id params))

section
variable {s : State} {p : Port}

theorem QueuesOk.then_takeFrame {q id : Byte} {act : Act} (h : QueuesOk s) (k : ActKeepsQueues act) :
    QueuesOk (takeFrame p q id act s) := .ite h (.ite (.ite h h) (k s h))

theorem QueuesOk.then_frameEnd {n : Byte} {taken : List Byte} (h : QueuesOk s) : QueuesOk (frameEnd p n taken s) := by
  unfold frameEnd
  extract_lets body
  refine .ite ?_ h
  clear_value body
  split
  · exact h.then_takeFrame (frameAct_keepsQueues _ _ _)
  · exact h

theorem QueuesOk.then_receiveByte {b : Byte} (h : QueuesOk s) : QueuesOk (receiveByte p b s) := by
  unfold receiveByte
  extract_lets port put
  have puts {x : Receiver} : QueuesOk (put x s) := h
  refine .ite h ?_
  split
  · exact puts
  · exact .ite puts puts
  · exact .ite puts puts.then_frameEnd

theorem QueuesOk.then_receiveBytes {bs : List Byte} (h : QueuesOk s) : QueuesOk (receiveBytes p bs s) := by
  induction bs generalizing s with
  | nil => exact h
  | cons b bs ih => exact ih h.then_receiveByte

theorem QueuesOk.then_byteAfterGap {b : Byte} (h : QueuesOk s) : QueuesOk (byteAfterGap p b s) :=
  QueuesOk.then_receiveByte (s := modPort p _ s) h

end

/-! ## The end of a device reset -/

section
variable {s : State}

theorem queuesOk_poweredState (inputs : StartInputs) (s : State) : QueuesOk (poweredState inputs s) := by
  intro c
  cases c
  · exact .emptied StepQueue.reset
  · exact .emptied StepQueue.reset

theorem QueuesOk.then_examineSave {r : Option ProcRecord} (h : QueuesOk s) : QueuesOk (examineSave r s) := by
  unfold examineSave
  split
  · exact .ite (h.then_within (saveProcedure_within s) rfl) h
  · exact h

theorem QueuesOk.then_startGenerator (h : QueuesOk s) : QueuesOk (startGenerator s) := by
  unfold startGenerator
  extract_lets x drawn started
  have start : QueuesOk started := .ite h h
  exact start

theorem QueuesOk.then_startLimit {c : Cavity} {active : Bool} (h : QueuesOk s) : QueuesOk (startLimit c active s) :=
  .ite h.then_limitTrip h

theorem QueuesOk.then_startFault {x : Sensor} (h : QueuesOk s) : QueuesOk (startFault x s) :=
  .ite (QueuesOk.then_handFault (s := broadcast _ s) h) h

theorem QueuesOk.then_startEvents {inputs : StartInputs} (h : QueuesOk s) : QueuesOk (startEvents inputs s) := by
  unfold startEvents
  extract_lets limited powered
  have limits : QueuesOk limited := h.then_startLimit.then_startLimit
  have power : QueuesOk powered := .ite limits.then_mainsLow limits
  exact power.then_startFault.then_startFault.then_startFault.then_startFault.then_startFault

theorem queuesOk_deviceReset (inputs : StartInputs) (s : State) : QueuesOk (deviceReset inputs s) :=
  (queuesOk_poweredState inputs s).then_examineSave.then_startGenerator.then_startEvents

/-! ## The passing of a tenth of a second -/

theorem QueuesOk.then_whenDue {due : State → Bool} {f : State → State} (h : QueuesOk s)
    (k : ∀ {t}, QueuesOk t → QueuesOk (f t)) : QueuesOk (whenDue due f s) := .ite (k h) h

theorem QueuesOk.then_dueRun {c : Cavity} (h : QueuesOk s) : QueuesOk (dueRun c s) :=
  ((((h.then_whenDue .then_delayExpiry).then_whenDue .then_feederEnd).then_whenDue .then_doorTimeoutEnd).then_whenDue
    (CavityWork.then_stepTimeEnd (.refl c _)).queuesOk).then_whenDue
    (CavityWork.then_regulationUpdate (.refl c _)).queuesOk

theorem QueuesOk.then_duePrompt {o : Owner} (h : QueuesOk s) : QueuesOk (duePrompt o s) :=
  h.then_whenDue .then_promptTimeout

theorem QueuesOk.then_onExpiry {l : Load} (h : QueuesOk s) : QueuesOk (onExpiry l s) :=
  h.then_within (onExpiry_within l s) rfl

theorem QueuesOk.then_offExpiry {l : Load} (h : QueuesOk s) : QueuesOk (offExpiry l s) :=
  h.then_within (offExpiry_within l s) rfl

theorem QueuesOk.then_pairOffEnd {c : Cavity} (h : QueuesOk s) : QueuesOk (pairOffEnd c s) :=
  h.then_within (pairOffEnd_within c s) rfl

theorem QueuesOk.then_dueTimer {l : Load} (h : QueuesOk s) : QueuesOk (dueTimer l s) := by
  unfold dueTimer
  extract_lets zero onEnded offEnded
  have ended : QueuesOk offEnded := (h.then_whenDue .then_onExpiry).then_whenDue .then_offExpiry
  split
  · exact ended.then_whenDue .then_pairOffEnd
  all_goals exact ended

theorem QueuesOk.then_dueTimers {ls : List Load} (h : QueuesOk s) : QueuesOk (dueTimers ls s) := by
  induction ls generalizing s with
  | nil => exact h
  | cons l ls ih => exact ih h.then_dueTimer

theorem QueuesOk.then_dueHold {x : HoldObject} (h : QueuesOk s) : QueuesOk (dueHold x s) :=
  h.then_whenDue (fun k => k.then_within (holdExpiry_within x _) rfl)

theorem QueuesOk.then_dueGen (h : QueuesOk s) : QueuesOk (dueGen s) := by
  have keeps {g : Parts} {f : State → State} (w : ∀ t, Within g t (f t)) (k : g.queues = false) {t : State}
      (ok : QueuesOk t) : QueuesOk (f t) := ok.then_within (w t) k
  exact ((((((((h.then_whenDue (keeps soakUpdate_within rfl)).then_whenDue (keeps soakEnd_within rfl)).then_whenDue
    (keeps watchdogStall_within rfl)).then_whenDue (keeps drainComplete_within rfl)).then_whenDue
    (keeps drainFail_within rfl)).then_whenDue (keeps heatSlow_within rfl)).then_whenDue
    (keeps windowEnd_within rfl)).then_whenDue (keeps idleDrain_within rfl)).then_whenDue (keeps quietEnd_within rfl)

theorem QueuesOk.then_takeDue (h : QueuesOk s) : QueuesOk (takeDue s) :=
  (h.then_whenDue .then_mainsLowExpiry).then_dueRun.then_dueRun.then_duePrompt.then_duePrompt.then_dueTimers.then_dueGen
    |>.then_dueHold.then_dueHold.then_dueHold

theorem QueuesOk.then_tick (h : QueuesOk s) : QueuesOk (tick s) :=
  .ite h (QueuesOk.then_takeDue (s := advance s) h)

end

/-! ## Every step -/

/-- An event keeps the queues within their slots when its effect does. -/
theorem QueuesOk.of_event {f : State → State} {s t : State} (ok : QueuesOk s) (h : QueuesOk (f s))
    (e : event f s = .next t) : QueuesOk t := by
  unfold event at e
  split at e
  · obtain rfl := Host.Outcome.next.inj e; exact ok
  · obtain rfl := Host.Outcome.next.inj e; exact h

/-- An event that reaches no queue. -/
theorem QueuesOk.of_event_within {g : Parts} {f : State → State} {s t : State} (ok : QueuesOk s) (w : Within g s (f s))
    (k : g.queues = false) (e : event f s = .next t) : QueuesOk t := ok.of_event (f := f) (ok.then_within w k) e

/-- An order keeps the queues within their slots. -/
theorem exec_order_queuesOk {i : Instr} {p : Port} {q id : Byte} {s t : State} (hk : orderKey i = some (p, q, id))
    (ok : QueuesOk s) (e : exec i s = .next t) : QueuesOk t := by
  rw [exec_eq_takeFrame i p q id hk] at e
  exact ok.of_event (f := takeFrame p q id (frameAct p id (orderParams i)))
    (ok.then_takeFrame (frameAct_keepsQueues _ _ _)) e

/-- A command that is no order keeps the queues within their slots. -/
theorem exec_event_queuesOk {i : Instr} {s t : State} (hk : orderKey i = none) (ok : QueuesOk s)
    (e : exec i s = .next t) : QueuesOk t := by
  by_cases hc : ∃ c, commandCavity i = some c
  · obtain ⟨c, hc⟩ := hc
    exact (exec_cavityWork hc e).queuesOk ok
  cases i
  case frameReceived => exact ok.of_event ok.then_receiveBytes e
  case interByteGap => exact ok.of_event ok.then_byteAfterGap e
  case replySent => exact ok.of_event_within (replySent_within _ s) rfl e
  case lineBreak => exact ok.of_event_within (lineBreak_within _ s) rfl e
  case lineReturnToMark => exact ok.of_event_within (lineReturnToMark_within _ s) rfl e
  case deviceReset inputs => obtain rfl := Host.Outcome.next.inj e; exact queuesOk_deviceReset inputs s
  case resetHeld => obtain rfl := Host.Outcome.next.inj e; exact ok
  case delayExpiry => exact ok.of_event ok.then_delayExpiry e
  case offIntervalExpiry => exact ok.of_event ok.then_offExpiry e
  case onIntervalExpiry => exact ok.of_event ok.then_onExpiry e
  case soakUpdate => exact ok.of_event_within (soakUpdate_within s) rfl e
  case soakTimeExpiry => exact ok.of_event_within (soakEnd_within s) rfl e
  case sensorSample => exact ok.of_event ok.then_sensorSample e
  case promptTimeout => exact ok.of_event ok.then_promptTimeout e
  case tankRemoval => exact ok.of_event ok.then_tankRemoval e
  case tankInsertion => exact ok.of_event ok.then_tankInsertion e
  case mainsLow => exact ok.of_event ok.then_mainsLow e
  case mainsBack => exact ok.of_event ok.then_mainsBack e
  case mainsLowExpiry => exact ok.of_event ok.then_mainsLowExpiry e
  case holdExpiry => exact ok.of_event_within (holdExpiry_within _ s) rfl e
  case storeWriteComplete => exact ok.of_event_within (storeWriteComplete_within _ s) rfl e
  case levelHighWet => exact ok.of_event_within (highWet_within s) rfl e
  case levelLowDry => exact ok.of_event_within (levelLowDry_within _ s) rfl e
  case levelLowWet => exact ok.of_event_within (levelLowWets_within _ s) rfl e
  case fillWatchdogStall => exact ok.of_event_within (watchdogStall_within s) rfl e
  case windowEnd => exact ok.of_event_within (windowEnd_within s) rfl e
  case idleDrain => exact ok.of_event_within (idleDrain_within s) rfl e
  case drainComplete => exact ok.of_event_within (drainComplete_within s) rfl e
  case drainFail => exact ok.of_event_within (drainFail_within s) rfl e
  case heatSlow => exact ok.of_event_within (heatSlow_within s) rfl e
  case flowPulse => exact ok.of_event_within (flowPulse_within _ s) rfl e
  case quietTimeExpiry => exact ok.of_event_within (quietEnd_within s) rfl e
  case stepTimeExpiry c | feederTimeout c | doorTimeout c | regulationUpdate c | pairOffExpiry c | probeInsertion c
    | probeRemoval c | doorOpen c | doorClose c | limitTrip c | limitRelease c => exact absurd ⟨c, rfl⟩ hc
  all_goals exact absurd hk nofun

/-- Every command keeps the queues within their slots. -/
theorem exec_queuesOk {i : Instr} {s t : State} (ok : QueuesOk s) (e : exec i s = .next t) : QueuesOk t := by
  cases hk : orderKey i with
  | none => exact exec_event_queuesOk hk ok e
  | some key =>
    obtain ⟨p, q, id⟩ := key
    exact exec_order_queuesOk hk ok e

/-- Settles O9: the front command keeps the queues within their slots, and so does the passing of time. -/
theorem everyStepKeepsTheQueuesWithinTheirSlots : Obligations.EveryStepKeepsTheQueuesWithinTheirSlots := by
  unfold Obligations.EveryStepKeepsTheQueuesWithinTheirSlots
  intro s t ok e
  unfold step at e
  split at e
  · obtain rfl := Host.Outcome.next.inj e
    exact ok.then_tick
  · next c cs _ => exact exec_queuesOk (s := { s with pending := cs }) ok e

end Sys2Proof.Machine
end

section
/-! SUPPORT. The reader's copies and the walk (R9 to R15): copies lengthen a queue at its tail, so that a walk reaches the
ACTION record that the queue as it stands gives. -/

namespace Sys2Proof.Machine

/-- `q'` is `q` with records copied to its tail. -/
structure Lengthened (q q' : StepQueue) : Prop where
  pending : ∃ more, q'.pending = q.pending ++ more
  retained : q'.retained = q.retained
  mark : q'.mark = q.mark
  loop : q'.loop = q.loop

/-- The run record stays but for the reader's index and the source with its closed flag. -/
def SameButSource (r' r : Run) : Prop :=
  { r' with reader := none, opened := none } = { r with reader := none, opened := none }

/-- The reader of a cavity has copied into its queue (R9, R19). -/
structure Copied (c : Cavity) (s t : State) : Prop where
  queue : Lengthened (s.queues.get c) (t.queues.get c)
  run : SameButSource (t.runs.get c) (s.runs.get c)

theorem Lengthened.refl (q : StepQueue) : Lengthened q q := ⟨⟨[], (List.append_nil _).symm⟩, rfl, rfl, rfl⟩

theorem Lengthened.trans {q q' q'' : StepQueue} (h : Lengthened q q') (k : Lengthened q' q'') : Lengthened q q'' := by
  obtain ⟨more, e⟩ := h.pending
  obtain ⟨more', e'⟩ := k.pending
  exact ⟨⟨more ++ more', by rw [e', e, List.append_assoc]⟩, k.retained.trans h.retained, k.mark.trans h.mark,
    k.loop.trans h.loop⟩

theorem SameButSource.eq_with {r' r : Run} (h : SameButSource r' r) :
    r' = { r with reader := r'.reader, opened := r'.opened } :=
  congrArg (fun x : Run => { x with reader := r'.reader, opened := r'.opened }) h

theorem Copied.refl (c : Cavity) (s : State) : Copied c s s := ⟨.refl _, rfl⟩

section
variable {s t : State} {c : Cavity}

theorem Copied.ite {p : Prop} [Decidable p] {u : State} (ht : Copied c s t) (hu : Copied c s u) :
    Copied c s (if p then t else u) := by
  split
  · exact ht
  · exact hu

theorem Copied.then_modRun {f : Run → Run} (h : Copied c s t) (k : SameButSource (f (t.runs.get c)) (t.runs.get c)) :
    Copied c s (modRun c f t) := by
  refine ⟨h.queue, ?_⟩
  rw [modRun_runs, PerCavity.get_set_self]
  exact k.trans h.run

theorem Copied.then_append {r : Record} (h : Copied c s t) : Copied c s (append c r t) := by
  refine ⟨h.queue.trans ?_, h.run⟩
  rw [append, modQueue_queues, PerCavity.get_set_self]
  exact ⟨⟨_, rfl⟩, rfl, rfl, rfl⟩

theorem Copied.then_copyOne {i : Nat} (h : Copied c s t) : Copied c s (copyOne c i t) := by
  unfold copyOne
  extract_lets records copied
  have copies : Copied c s copied := by
    unfold copied
    split
    · exact h.then_append
    · exact h
  exact .ite (copies.then_modRun rfl) (Copied.then_modRun (copies.then_modRun rfl) rfl)

theorem Copied.then_copyWhile {k : Nat} {b : Bool} (h : Copied c s t) : Copied c s (copyWhile k b c t) := by
  induction k generalizing t with
  | zero => exact h
  | succ k ih =>
    unfold copyWhile
    split
    · exact h
    · exact .ite h (.ite h (ih h.then_copyOne))

theorem Copied.then_noteOutstanding (h : Copied c s t) : Copied c s (noteOutstanding c t) := by
  refine ⟨h.queue.trans ?_, h.run⟩
  rw [noteOutstanding, modQueue_queues, PerCavity.get_set_self]
  exact ⟨⟨[], (List.append_nil _).symm⟩, rfl, rfl, rfl⟩

theorem Copied.then_readerRefill (h : Copied c s t) : Copied c s (readerRefill c t) := h.then_copyWhile.then_noteOutstanding

theorem Copied.then_readerAgain (h : Copied c s t) : Copied c s (readerAgain c t) :=
  .ite h.then_copyWhile.then_noteOutstanding h

theorem Copied.then_requestRefill (h : Copied c s t) : Copied c s (requestRefill c t) := by
  unfold requestRefill
  split
  · exact ⟨h.queue, h.run⟩
  · exact h.then_readerRefill

theorem Copied.then_afterChange {n : Nat} (h : Copied c s t) : Copied c s (afterChange c n t) :=
  .ite h.then_requestRefill h.then_readerAgain

theorem Copied.then_startRefill (h : Copied c s t) : Copied c s (startRefill c t) := .ite h.then_requestRefill h

end

/-- A REPEAT record at the head, in the walk along the queue as it stands (R13, R14, R15). -/
theorem walked_repeat {n count : Nat} {q : StepQueue} {x : Loaded} {rest : List Loaded} (e : q.pending = x :: rest)
    (k : x.record = .rep count) : walked (n + 1) q = walked n (consumeRepeat count rest q) := by
  simp only [walked, e, k, consumeRepeat]
  cases m : q.mark
  · simp
  · rcases l : q.loop with _ | _ | _ <;> simp [returnBody, dropMark, e, m]

/-- A record left at the head of a longer queue. -/
theorem Lengthened.consumeRepeat {q q' : StepQueue} {rest more : List Loaded} {count : Nat} (h : Lengthened q q') :
    Lengthened (consumeRepeat count rest q) (consumeRepeat count (rest ++ more) q') := by
  obtain ⟨tail, pending⟩ := h.pending
  unfold Machine.consumeRepeat
  rw [h.mark, h.loop]
  split
  · split
    · exact ⟨⟨tail, by simp [returnBody, h.retained, pending]⟩, rfl, h.mark, rfl⟩
    · exact ⟨⟨tail, by simp [returnBody, h.retained, pending]⟩, rfl, h.mark, rfl⟩
    · exact ⟨⟨more, rfl⟩, rfl, rfl, rfl⟩
  · exact ⟨⟨more, rfl⟩, h.retained, rfl, rfl⟩

/-- A walk reaches the ACTION record that the queue as it stands gives, whatever the reader copies to the tail on the way,
and changes of the run only what the reader does (R10 to R15, R19). -/
theorem walk_reaches {n : Nat} {c : Cavity} {load : Nat} {a : Action} {q left : StepQueue} {s : State}
    (reaches : walked n q = some (some (load, a), left)) (longer : Lengthened q (s.queues.get c)) :
    (walk n c s).2 = some (load, a) ∧ SameButSource ((walk n c s).1.runs.get c) (s.runs.get c) := by
  induction n generalizing q s with
  | zero => exact absurd reaches nofun
  | succ n ih =>
    obtain ⟨more, pending⟩ := longer.pending
    have goesOn {f : StepQueue → StepQueue} {m : Nat} {t : State} {q' : StepQueue} (sameRuns : t.runs = s.runs)
        (r : walked n q' = some (some (load, a), left)) (k : Lengthened q' (f (t.queues.get c))) :
        (walk n c (afterChange c m (modQueue c f t))).2 = some (load, a)
          ∧ SameButSource ((walk n c (afterChange c m (modQueue c f t))).1.runs.get c) (s.runs.get c) := by
      have copied : Copied c (modQueue c f t) (afterChange c m (modQueue c f t)) := .then_afterChange (.refl _ _)
      have queue := copied.queue
      rw [modQueue_queues, PerCavity.get_set_self] at queue
      obtain ⟨found, run⟩ := ih r (k.trans queue)
      have runs : SameButSource ((modQueue c f t).runs.get c) (s.runs.get c) := by rw [modQueue_runs, sameRuns]; rfl
      exact ⟨found, (run.trans copied.run).trans runs⟩
    cases e : q.pending with
    | nil => simp [walked, e] at reaches
    | cons x rest =>
      rw [e, List.cons_append] at pending
      unfold walk
      extract_lets queue
      split
      · next h => exact absurd (pending.symm.trans h) nofun
      · next y rest' h =>
        obtain ⟨rfl, rfl⟩ := List.cons.inj (h.symm.trans pending)
        split
        · next b k =>
          have found : (y.load, b) = (load, a) := by simpa [walked, e, k] using congrArg (Option.map Prod.fst) reaches
          exact ⟨congrArg some found, (Copied.then_afterChange (.refl _ (modQueue c _ s))).run⟩
        · next k =>
          simp only [walked, e, k] at reaches
          exact goesOn rfl reaches ⟨⟨more, rfl⟩, rfl, rfl, rfl⟩
        · next count k =>
          rw [walked_repeat e k] at reaches
          extract_lets told
          have same : told.runs = s.runs ∧ told.queues = s.queues := by unfold told; split <;> exact ⟨rfl, rfl⟩
          refine goesOn same.1 reaches ?_
          rw [same.2]
          exact longer.consumeRepeat

end Sys2Proof.Machine
end

section
/-! SUPPORT. The run record at a step entry and after what a change hands over (R22, R28, R29). -/

namespace Sys2Proof.Machine

theorem Within.sensors_eq {f : Parts} {s t : State} (w : Within f s t) (k : f.sensors = false) :
    t.sensors = s.sensors := by
  obtain ⟨-, -, -, -, -, -, -, -, -, -, -, -, -, -, -, h, -⟩ := w
  exact h k

theorem Within.doorOpen_eq {f : Parts} {s t : State} (w : Within f s t) (k : f.doorOpen = false) :
    t.doorOpen = s.doorOpen := by
  obtain ⟨-, -, -, -, -, -, -, -, -, -, -, -, -, -, -, -, h, -⟩ := w
  exact h k

theorem Within.limitLatch_eq {f : Parts} {s t : State} (w : Within f s t) (k : f.limitLatch = false) :
    t.limitLatch = s.limitLatch := by
  obtain ⟨-, -, -, -, -, -, -, -, -, -, -, -, -, -, -, -, -, -, -, h, -⟩ := w
  exact h k

theorem Within.mains_eq {f : Parts} {s t : State} (w : Within f s t) (k : f.mains = false) : t.mains = s.mains := by
  obtain ⟨-, -, -, -, -, -, -, -, -, -, -, -, -, -, -, -, -, -, -, -, -, h, -⟩ := w
  exact h k

theorem Within.freeIndex_eq {f : Parts} {s t : State} (w : Within f s t) (k : f.freeIndex = false) :
    t.freeIndex = s.freeIndex := by
  obtain ⟨-, -, -, -, -, -, -, -, -, -, -, -, -, -, -, -, -, -, -, -, -, -, -, -, -, -, h, -⟩ := w
  exact h k

/-- The reading of R58 is made of the sensors and the free value's counter. -/
theorem Within.cavityReading_eq {f : Parts} {s t : State} (w : Within f s t) (c : Cavity)
    (k : f.sensors = false ∧ f.freeIndex = false) : cavityReading c t = cavityReading c s := by
  rw [cavityReading, cavityReading, w.sensors_eq k.1, w.freeIndex_eq k.2]

theorem SameRun.eq_with {r' r : Run} (h : SameRun r' r) : r' = { r with denial := r'.denial } :=
  congrArg (fun x : Run => { x with denial := r'.denial }) h

/-- The phase that a step entry gives (R28): ENTRY_PROMPT for a BEFORE prompt, else by the approach test (R29). -/
def entryPhase (step : CurrentStep) (reading : Nat) : Phase :=
  match entryPrompt step.action .before with
  | some _ => .entryPrompt
  | none => leftEntry step reading

theorem entryPhase_of_before {step : CurrentStep} {p : PromptSub} (reading : Nat)
    (h : entryPrompt step.action .before = some p) : entryPhase step reading = .entryPrompt := by
  rw [entryPhase, h]

theorem entryPhase_of_no_before {step : CurrentStep} (reading : Nat) (h : entryPrompt step.action .before = none) :
    entryPhase step reading = leftEntry step reading := by
  rw [entryPhase, h]

section
variable {c : Cavity} {s : State}

/-- The approach test writes the phase (R29). -/
theorem approachTest_runs {step : CurrentStep} (h : (s.runs.get c).current = some step) :
    (approachTest c s).runs
      = s.runs.set c { s.runs.get c with phase := some (leftEntry step (cavityReading c s)) } := by
  unfold approachTest leftEntry
  split
  · next e => exact absurd (h.symm.trans e) nofun
  · next step' e =>
    obtain rfl := Option.some.inj (h.symm.trans e)
    cases step.action.target with
    | none => rfl
    | some goal =>
      dsimp only
      split
      · rfl
      · rfl

theorem coreEntry_run (c : Cavity) (s : State) :
    ∃ core, (coreEntry c s).runs.get c = { s.runs.get c with coreCond := core } := by
  unfold coreEntry
  split
  · split
    · exact ⟨_, by rw [modRun_runs, PerCavity.get_set_self]⟩
    · exact ⟨_, by rw [(raiseDevice_within _ _ s).runs_eq rfl]⟩
  · exact ⟨_, rfl⟩

/-- A step entry writes the phase and the core condition of the run (R28). -/
theorem enterPhases_run {step : CurrentStep} (h : (s.runs.get c).current = some step) :
    ∃ core, (enterPhases c step.action s).runs.get c
      = { s.runs.get c with phase := some (entryPhase step (cavityReading c s)), coreCond := core } := by
  have tested := approachTest_runs h
  unfold enterPhases
  split
  · next before =>
    refine ⟨(s.runs.get c).coreCond, ?_⟩
    rw [(raiseRecipe_within _ _ _).runs_eq rfl, modRun_runs, PerCavity.get_set_self, entryPhase_of_before _ before]
  · next before =>
    rw [entryPhase_of_no_before _ before]
    split
    · obtain ⟨core, run⟩ := coreEntry_run c (raiseRecipe c _ (approachTest c s))
      refine ⟨core, run.trans ?_⟩
      rw [(raiseRecipe_within _ _ _).runs_eq rfl, tested, PerCavity.get_set_self]
    · obtain ⟨core, run⟩ := coreEntry_run c (approachTest c s)
      refine ⟨core, run.trans ?_⟩
      rw [tested, PerCavity.get_set_self]

/-- The run record after a step entry (R28). -/
theorem enterStep_run (c : Cavity) (load : Nat) (a : Action) (s : State) :
    ∃ core denial, (enterStep c load a s).runs.get c
      = { stepRecord load a s.settings.approachBand (s.runs.get c) with
          phase := some (entryPhase { load := load, action := a, band := a.band.getD s.settings.approachBand }
            (cavityReading c s))
          coreCond := core, denial := denial } := by
  unfold enterStep
  extract_lets recorded started formed computed
  have start : started.runs.get c = stepRecord load a s.settings.approachBand (s.runs.get c) :=
    PerCavity.get_set_self _ c _
  obtain ⟨core, phases⟩ := enterPhases_run (c := c) (s := started)
    (step := { load := load, action := a, band := a.band.getD s.settings.approachBand }) (by rw [start]; rfl)
  have compute : computed.runs = (enterPhases c a started).runs :=
    ((demandComputation_within c formed).runs_eq rfl).trans ((reformPair_within c _ _).runs_eq rfl)
  rw [start] at phases
  have run : computed.runs.get c = _ := (congrArg (·.get c) compute).trans phases
  split
  · have refused := ((SharedWork.then_refuse (c := c) (.refl computed)).runs c).eq_with
    exact ⟨core, _, refused.trans (by rw [run]; rfl)⟩
  · exact ⟨core, _, run⟩

/-- What a change hands over writes nothing in the run but the denial reason (R22, R96). -/
theorem settle_run (c : Cavity) (s : State) : SameRun ((settle c s).runs.get c) (s.runs.get c) := by
  have told := (SharedWork.then_syncDemand (c := c) (.refl (syncFreeze c (settleClimate c s)))).runs c
  rwa [(syncFreeze_within c _).runs_eq rfl, (settleClimate_within c s).runs_eq rfl] at told

end

end Sys2Proof.Machine
end

section
/-! SUPPORT. `FrozenWork c s t`: `t` comes of `s` by work on the cavity `c` that leaves its timers frozen (R64). A load other
than the generator's heater that was at rest still is: a frozen timer asks for no power. -/

namespace Sys2Proof.Machine

/-- A load at rest: its timer IDLE, neither waiting nor granted. -/
def AtRest (l : Load) (s : State) : Prop := (s.timers.get l).interval = .idle ∧ s.arbiter.get l = .none

/-- A load's timer is frozen or not as before, and at rest if it was. -/
structure RestKept (l : Load) (s t : State) : Prop where
  frozen : (t.timers.get l).frozen = (s.timers.get l).frozen
  rest : AtRest l s → AtRest l t

/-- What work on a cavity whose timers are frozen keeps. -/
structure FrozenWork (c : Cavity) (s t : State) : Prop where
  frozen : AllFrozen c t
  rest : ∀ l, l ≠ .genHeat → AtRest l s → AtRest l t

section
variable {l j : Load} {s t u : State}

theorem OnlyGranted.restKept (h : OnlyGranted l s t) : RestKept l s t := by
  refine ⟨h.frozen_eq, fun ⟨idle, status⟩ => ?_⟩
  rcases h with ⟨timer, kept⟩ | ⟨waits, -, -⟩
  · exact ⟨by rw [timer, idle], by rw [kept, status]⟩
  · exact absurd (status.symm.trans waits) (by decide)

theorem RestKept.refl (l : Load) (s : State) : RestKept l s s := (OnlyGranted.refl l s).restKept

theorem RestKept.trans (h : RestKept l s t) (k : RestKept l t u) : RestKept l s u :=
  ⟨k.frozen.trans h.frozen, fun r => k.rest (h.rest r)⟩

theorem RestKept.ite {p : Prop} [Decidable p] (ht : RestKept l s t) (hu : RestKept l s u) :
    RestKept l s (if p then t else u) := by
  split
  · exact ht
  · exact hu

/-- Writing a timer's holds, or making it IDLE. -/
theorem RestKept.then_modTimer {f : Timer → Timer} (h : RestKept l s t) (frozen : ∀ x, (f x).frozen = x.frozen)
    (idle : ∀ x, x.interval = .idle → (f x).interval = .idle) : RestKept l s (modTimer j f t) := by
  refine h.trans ?_
  by_cases e : l = j
  · subst e
    refine ⟨?_, fun ⟨rest, status⟩ => ⟨?_, status⟩⟩
    · rw [modTimer_timers, PerLoad.get_set_self, frozen]
    · rw [modTimer_timers, PerLoad.get_set_self]
      exact idle _ rest
  · exact (OnlyGranted.then_modTimer e (.refl l t)).restKept

theorem RestKept.then_setHolds {m n : Nat} (h : RestKept l s t) : RestKept l s (setHolds j m n t) :=
  h.then_modTimer (fun _ => rfl) (fun _ k => k)

theorem RestKept.then_idle {x : Option Nat} (h : RestKept l s t) : RestKept l s (setInterval j .idle x t) :=
  h.then_modTimer (fun _ => rfl) (fun _ _ => rfl)

theorem RestKept.then_leave (h : RestKept l s t) : RestKept l s (leave j t) := by
  have left : RestKept l t (setStatus j .none t) := by
    refine ⟨rfl, fun ⟨idle, status⟩ => ⟨idle, ?_⟩⟩
    rw [setStatus_arbiter, PerLoad.get_set]
    split
    · rfl
    · exact status
  exact .ite h ((h.trans left).trans (OnlyGranted.then_grantDecision (.refl l _)).restKept)

theorem RestKept.then_stopTimer (h : RestKept l s t) : RestKept l s (stopTimer j t) :=
  .then_leave (.then_idle (.then_setHolds h))

/-- A frozen timer keeps the holds written to it (R64). -/
theorem writeHolds_of_frozen {m n : Nat} (h : (s.timers.get j).frozen = true) : writeHolds j m n s = setHolds j m n s := by
  simp [writeHolds, setHolds, h]

end

theorem AllFrozen.top {c : Cavity} {s : State} (h : AllFrozen c s) : (s.timers.get (topOf c)).frozen = true := by
  obtain ⟨top, -, -⟩ := h
  exact top

theorem AllFrozen.bottom {c : Cavity} {s : State} (h : AllFrozen c s) : (s.timers.get (bottomOf c)).frozen = true := by
  obtain ⟨-, bottom, -⟩ := h
  exact bottom

theorem AllFrozen.ring {c : Cavity} {s : State} (h : AllFrozen c s) : (s.timers.get (ringOf c)).frozen = true := by
  obtain ⟨-, -, ring⟩ := h
  exact ring

theorem topOf_ne_genHeat (c : Cavity) : topOf c ≠ .genHeat := by cases c <;> decide
theorem bottomOf_ne_genHeat (c : Cavity) : bottomOf c ≠ .genHeat := by cases c <;> decide
theorem ringOf_ne_genHeat (c : Cavity) : ringOf c ≠ .genHeat := by cases c <;> decide

section
variable {s t u : State} {c : Cavity}

theorem FrozenWork.ite {p : Prop} [Decidable p] (ht : FrozenWork c s t) (hu : FrozenWork c s u) :
    FrozenWork c s (if p then t else u) := by
  split
  · exact ht
  · exact hu

theorem FrozenWork.then_kept (h : FrozenWork c s t) (k : ∀ l, l ≠ .genHeat → RestKept l t u) : FrozenWork c s u := by
  obtain ⟨⟨top, bottom, ring⟩, rest⟩ := h
  refine ⟨⟨?_, ?_, ?_⟩, fun l hl r => (k l hl).rest (rest l hl r)⟩
  · rw [(k _ (topOf_ne_genHeat c)).frozen, top]
  · rw [(k _ (bottomOf_ne_genHeat c)).frozen, bottom]
  · rw [(k _ (ringOf_ne_genHeat c)).frozen, ring]

/-- An operation that reaches no drive timer or status. -/
theorem FrozenWork.then_within {g : Parts} (h : FrozenWork c s t) (w : Within g t u)
    (k : { Parts.offDrive with runs := true }.covers g = true) : FrozenWork c s u := by
  have within := w.mono k
  refine h.then_kept (fun l _ => OnlyGranted.restKept (.inl ⟨?_, ?_⟩))
  · rw [within.timers_eq rfl]
  · rw [within.arbiter_eq rfl]

theorem FrozenWork.then_shared (h : FrozenWork c s t) (k : SharedWork t u) : FrozenWork c s u :=
  h.then_kept (fun l hl => (k.loads l hl).restKept)

theorem FrozenWork.then_modRun {f : Run → Run} (h : FrozenWork c s t) : FrozenWork c s (modRun c f t) := ⟨h.frozen, h.rest⟩

theorem FrozenWork.then_modClimate {f : Climate → Climate} (h : FrozenWork c s t) : FrozenWork c s (modClimate c f t) :=
  ⟨h.frozen, h.rest⟩

theorem FrozenWork.then_modPair {f : Pair → Pair} (h : FrozenWork c s t) : FrozenWork c s (modPair c f t) :=
  ⟨h.frozen, h.rest⟩

theorem FrozenWork.then_setHolds {j : Load} {m n : Nat} (h : FrozenWork c s t) : FrozenWork c s (setHolds j m n t) :=
  h.then_kept (fun l _ => .then_setHolds (.refl l t))

theorem FrozenWork.then_stopTimer {j : Load} (h : FrozenWork c s t) : FrozenWork c s (stopTimer j t) :=
  h.then_kept (fun l _ => .then_stopTimer (.refl l t))

theorem FrozenWork.then_stopPair (h : FrozenWork c s t) : FrozenWork c s (stopPair c t) :=
  .then_modPair (.then_stopTimer (.then_stopTimer h))

theorem FrozenWork.then_reformPair {b : Bool} (h : FrozenWork c s t) : FrozenWork c s (reformPair c b t) :=
  .ite h (.then_modPair (.then_stopPair h))

/-- A pair of frozen timers begins no turn (R66). -/
theorem FrozenWork.then_wakePair (h : FrozenWork c s t) : FrozenWork c s (wakePair c t) := by
  have top := h.frozen.top
  have asleep : ¬ ((t.pairs.get c).paired = true ∧ (t.pairs.get c).position = none
      ∧ (t.timers.get (topOf c)).frozen = false) := by simp [top]
  rw [wakePair, if_neg asleep]
  exact h

theorem FrozenWork.then_writePair {m n : Nat} (h : FrozenWork c s t) : FrozenWork c s (writePair c m n t) :=
  .then_wakePair (.then_modPair (.then_setHolds (.then_setHolds h)))

theorem FrozenWork.then_writeElement {j : Load} {b : Bool} {d : Nat} (h : FrozenWork c s t)
    (frozen : (t.timers.get j).frozen = true) : FrozenWork c s (writeElement j b d t) := by
  unfold writeElement
  rw [writeHolds_of_frozen frozen, writeHolds_of_frozen frozen]
  exact .ite h.then_setHolds h.then_setHolds

theorem FrozenWork.then_writeElements {x : HeatMode} {d : Nat} (h : FrozenWork c s t) :
    FrozenWork c s (writeElements c x d t) := by
  unfold writeElements
  extract_lets paired
  have top := h.then_writeElement (b := usesTop x) (d := d) h.frozen.top
  have pairs : FrozenWork c s paired := .ite h.then_writePair (top.then_writeElement top.frozen.bottom)
  exact pairs.then_writeElement pairs.frozen.ring

theorem FrozenWork.then_demandComputation (h : FrozenWork c s t) : FrozenWork c s (demandComputation c t) := by
  unfold demandComputation
  split
  · exact h
  · exact .then_writeElements (.then_modClimate h)

theorem FrozenWork.then_settleClimate (h : FrozenWork c s t) : FrozenWork c s (settleClimate c t) := by
  refine .ite ?_ h
  unfold climateRestart
  split
  · exact .then_modClimate h
  · exact .then_demandComputation (.then_modClimate h)

theorem FrozenWork.then_approachTest (h : FrozenWork c s t) : FrozenWork c s (approachTest c t) :=
  h.then_within (approachTest_within c t) rfl

theorem FrozenWork.then_coreEntry (h : FrozenWork c s t) : FrozenWork c s (coreEntry c t) :=
  .ite (.ite (.then_modRun h) (h.then_within (raiseDevice_within _ _ t) rfl)) h

theorem FrozenWork.then_raiseRecipe {p : PromptSub} (h : FrozenWork c s t) : FrozenWork c s (raiseRecipe c p t) :=
  h.then_within (raiseRecipe_within c p t) rfl

theorem FrozenWork.then_enterPhases {a : Action} (h : FrozenWork c s t) : FrozenWork c s (enterPhases c a t) := by
  unfold enterPhases
  split
  · exact .then_raiseRecipe (.then_modRun h)
  · split
    · exact .then_coreEntry (.then_raiseRecipe (.then_approachTest h))
    · exact .then_coreEntry (.then_approachTest h)

theorem FrozenWork.then_enterStep {load : Nat} {a : Action} (h : FrozenWork c s t) :
    FrozenWork c s (enterStep c load a t) := by
  unfold enterStep
  extract_lets recorded started formed computed
  have start : FrozenWork c s started := ⟨h.frozen, h.rest⟩
  have compute : FrozenWork c s computed := .then_demandComputation (.then_reformPair (.then_enterPhases start))
  exact .ite (compute.then_shared (.then_refuse (.refl _))) compute

/-! ## Freezing (R64) -/

theorem freezeTimer_self (l : Load) (s : State) : ((freezeTimer l s).timers.get l).frozen = true := by
  unfold freezeTimer
  split
  · next h => exact h
  · rw [(RestKept.then_leave (.refl l _)).frozen, modTimer_timers, PerLoad.get_set_self]

theorem freezeTimer_frozen {l : Load} (j : Load) (h : (s.timers.get l).frozen = true) :
    ((freezeTimer j s).timers.get l).frozen = true := by
  by_cases e : l = j
  · rw [e]
    exact freezeTimer_self j s
  · unfold freezeTimer
    split
    · exact h
    · rw [(OnlyGranted.then_leave e (.then_modTimer e (.refl l s))).frozen_eq, h]

theorem freezeTimer_atRest {l : Load} (j : Load) (h : AtRest l s) : AtRest l (freezeTimer j s) := by
  unfold freezeTimer
  split
  · exact h
  · have marked : AtRest l (modTimer j (fun t => { t with frozen := true }) s) := by
      refine ⟨?_, h.2⟩
      rw [modTimer_timers, PerLoad.get_set]
      split
      · next e => exact e ▸ h.1
      · exact h.1
    exact (RestKept.then_leave (.refl l _)).rest marked

/-- Freezing a cavity's timers leaves loads at rest there (R64). -/
theorem freezeCavity_frozenWork (c : Cavity) (s : State) : FrozenWork c s (freezeCavity c s) :=
  ⟨⟨freezeTimer_frozen _ (freezeTimer_frozen _ (freezeTimer_self _ _)), freezeTimer_frozen _ (freezeTimer_self _ _),
    freezeTimer_self _ _⟩, fun _ _ h => freezeTimer_atRest _ (freezeTimer_atRest _ (freezeTimer_atRest _ h))⟩

/-- While the condition of R64 stands, the timers are frozen. -/
theorem syncFreeze_frozenWork (h : freezeCondition c s = true) : FrozenWork c s (syncFreeze c s) := by
  rw [syncFreeze, if_pos h]
  exact freezeCavity_frozenWork c s

theorem FrozenWork.then_settle (h : FrozenWork c s t) (k : freezeCondition c t = true) : FrozenWork c s (settle c t) := by
  have settled := h.then_settleClimate
  have same : freezeCondition c (settleClimate c t) = freezeCondition c t := by
    have w := settleClimate_within c t
    rw [freezeCondition, freezeCondition, w.runs_eq rfl, w.limitLatch_eq rfl]
  have frozen := syncFreeze_frozenWork (same.trans k)
  have freeze : FrozenWork c s (syncFreeze c (settleClimate c t)) :=
    ⟨frozen.frozen, fun l hl r => frozen.rest l hl (settled.rest l hl r)⟩
  exact freeze.then_shared (.then_syncDemand (.refl _))

end

end Sys2Proof.Machine
end

section
/-! SUPPORT. A run enters RUNNING (R25, R27): the overlays, the freeze they bring, the first walk and the step entry. -/

namespace Sys2Proof.Machine

/-- The state in which a run is RUNNING with the overlays taken up, before its timers follow (R27). -/
def overlaid (c : Cavity) (s : State) : State :=
  takeOverlays c (modRun c (fun r => { r with state := .running, delay := none, linked := false }) s)

/-- The first walk of a run that enters RUNNING. -/
def firstWalk (c : Cavity) (s : State) : State × Option (Nat × Action) :=
  walk walkLimit c (syncFreeze c (overlaid c s))

/-- The run record with which the first walk begins. -/
def overlaidRun (c : Cavity) (s : State) : Run :=
  { s.runs.get c with
    state := .running, delay := none, linked := false
    doorSuspended := s.doorOpen.get c, doorTime := if s.doorOpen.get c then some 0 else none, mainsHeld := s.mains.low }

section
variable {c : Cavity} {s : State} {load : Nat} {a : Action}

theorem overlaid_run (c : Cavity) (s : State) : (overlaid c s).runs.get c = overlaidRun c s := by
  rw [overlaid, takeOverlays, modRun_runs, PerCavity.get_set_self, modRun_runs, PerCavity.get_set_self]
  rfl

theorem overlaid_within (c : Cavity) (s : State) : Within { runs := true } s (overlaid c s) := by
  simp (decide := true) [overlaid]

/-- On entering RUNNING, the step that the first walk reaches is entered (R25, R33). -/
theorem enterRunning_of_found (found : (firstWalk c s).2 = some (load, a)) :
    enterRunning c s = settle c (enterStep c load a (firstWalk c s).1) := by
  have after : afterWalk c (firstWalk c s) = enterStep c load a (firstWalk c s).1 := by rw [afterWalk, found]
  exact congrArg (settle c) after

theorem firstWalk_reaches {q : StepQueue} (reaches : WalkReaches load a q) (longer : Lengthened q (s.queues.get c)) :
    (firstWalk c s).2 = some (load, a) ∧ SameButSource ((firstWalk c s).1.runs.get c) (overlaidRun c s) := by
  obtain ⟨⟨found, left⟩, walks, rfl⟩ := Option.map_eq_some_iff.mp reaches
  have drive := syncFreeze_within c (overlaid c s)
  have queue : (syncFreeze c (overlaid c s)).queues = s.queues :=
    (drive.queues_eq rfl).trans ((overlaid_within c s).queues_eq rfl)
  have result := walk_reaches (s := syncFreeze c (overlaid c s)) walks (by rwa [queue])
  rwa [drive.runs_eq rfl, overlaid_run] at result

theorem firstWalk_within (c : Cavity) (s : State) : Within .run s (firstWalk c s).1 := by
  simp (decide := true) [firstWalk, overlaid]

/-- With the door open the first walk is made with frozen timers (R52, R64). -/
theorem firstWalk_frozenWork (door : s.doorOpen.get c = true) : FrozenWork c s (firstWalk c s).1 := by
  have condition : freezeCondition c (overlaid c s) = true := by
    rw [freezeCondition, overlaid_run]
    simp [overlaidRun, door]
  have frozen := syncFreeze_frozenWork condition
  exact FrozenWork.then_within ⟨frozen.frozen, frozen.rest⟩ (walk_within _ _ _) rfl

/-- The run record at the step entry that makes a run RUNNING. -/
theorem firstStep_run (run : SameButSource ((firstWalk c s).1.runs.get c) (overlaidRun c s)) :
    ∃ reader opened core denial, (enterStep c load a (firstWalk c s).1).runs.get c
      = { stepRecord load a s.settings.approachBand (overlaidRun c s) with
          reader := reader, opened := opened, coreCond := core, denial := denial
          phase := some (entryPhase { load := load, action := a, band := a.band.getD s.settings.approachBand }
            (cavityReading c s)) } := by
  obtain ⟨core, denial, entered⟩ := enterStep_run c load a (firstWalk c s).1
  have w := firstWalk_within c s
  rw [w.settings_eq rfl, w.cavityReading_eq c ⟨rfl, rfl⟩, run.eq_with] at entered
  exact ⟨_, _, core, denial, entered⟩

/-- The phase of a step entry, as `EnteredStep` gives it. -/
theorem enteredStep_of_phase {band reading : Nat} {r : Run} (running : r.state = .running)
    (current : r.current = some { load := load, action := a, band := a.band.getD band })
    (remaining : r.remaining = a.duration.map (· * 10))
    (phase : r.phase = some (entryPhase { load := load, action := a, band := a.band.getD band } reading)) :
    EnteredStep load a band reading r := by
  refine ⟨running, current, remaining, phase.trans ?_⟩
  unfold entryPhase leftEntry
  dsimp only
  cases entryPrompt a .before with
  | some p => rfl
  | none => cases a.target with
    | none => rfl
    | some goal => rfl

/-- A run that enters RUNNING is on its first step, its overlays those the inputs call for (R27 to R29). -/
theorem enterRunning_entered {q : StepQueue} (reaches : WalkReaches load a q) (longer : Lengthened q (s.queues.get c)) :
    EnteredStep load a s.settings.approachBand (cavityReading c s) ((enterRunning c s).runs.get c)
      ∧ ((enterRunning c s).runs.get c).delay = none
      ∧ ((enterRunning c s).runs.get c).doorSuspended = s.doorOpen.get c
      ∧ ((enterRunning c s).runs.get c).mainsHeld = s.mains.low := by
  obtain ⟨found, run⟩ := firstWalk_reaches reaches longer
  obtain ⟨reader, opened, core, denial, entered⟩ := firstStep_run (load := load) (a := a) run
  have settled := (settle_run c (enterStep c load a (firstWalk c s).1)).eq_with
  rw [← enterRunning_of_found found, entered] at settled
  rw [settled]
  exact ⟨enteredStep_of_phase rfl rfl rfl rfl, rfl, rfl, rfl⟩

/-- With the door open a run enters RUNNING with its timers frozen (R52, R64). -/
theorem enterRunning_frozenWork {q : StepQueue} (reaches : WalkReaches load a q)
    (longer : Lengthened q (s.queues.get c)) (door : s.doorOpen.get c = true) : FrozenWork c s (enterRunning c s) := by
  obtain ⟨found, run⟩ := firstWalk_reaches reaches longer
  obtain ⟨reader, opened, core, denial, entered⟩ := firstStep_run (load := load) (a := a) run
  have suspended : freezeCondition c (enterStep c load a (firstWalk c s).1) = true := by
    rw [freezeCondition, entered]
    simp [stepRecord, overlaidRun, door]
  rw [enterRunning_of_found found]
  exact .then_settle (.then_enterStep (firstWalk_frozenWork door)) suspended

/-- What O28 says of the state `u` in which a run of `s` has entered RUNNING. -/
def EntersRunning (c : Cavity) (load : Nat) (a : Action) (s u : State) : Prop :=
  EnteredStep load a s.settings.approachBand (cavityReading c s) (u.runs.get c)
    ∧ (u.runs.get c).delay = none ∧ (u.runs.get c).doorSuspended = s.doorOpen.get c
    ∧ (u.runs.get c).mainsHeld = s.mains.low
    ∧ (s.doorOpen.get c = true → AllFrozen c u
        ∧ (∀ l ∈ [topOf c, bottomOf c, ringOf c], (s.timers.get l).interval = .idle →
            s.arbiter.get l = .none → (s.pairs.get c).position = none →
            (u.timers.get l).interval = .idle ∧ u.arbiter.get l = .none))
    ∧ Within .run s u

theorem ne_genHeat_of_mem {l : Load} (h : l ∈ [topOf c, bottomOf c, ringOf c]) : l ≠ .genHeat := by
  simp only [List.mem_cons, List.not_mem_nil, or_false] at h
  rcases h with rfl | rfl | rfl
  · exact topOf_ne_genHeat c
  · exact bottomOf_ne_genHeat c
  · exact ringOf_ne_genHeat c

/-- A run enters RUNNING on its first step, also after a refill has lengthened its queue (R17, R25, R27). -/
theorem enterRunning_entersRunning {t : State} (reaches : WalkReaches load a (s.queues.get c)) (w : Within .queue s t)
    (copied : Copied c s t) : EntersRunning c load a s (enterRunning c t) := by
  obtain ⟨step, delay, door, mains⟩ := enterRunning_entered reaches copied.queue
  rw [w.settings_eq rfl, w.cavityReading_eq c ⟨rfl, rfl⟩] at step
  rw [w.doorOpen_eq rfl] at door
  rw [w.mains_eq rfl] at mains
  refine ⟨step, delay, door, mains, fun isOpen => ?_, (w.mono rfl).trans (enterRunning_within c t)⟩
  have work := enterRunning_frozenWork reaches copied.queue (by rwa [w.doorOpen_eq rfl])
  refine ⟨work.frozen, fun l hl idle none _ => work.rest l (ne_genHeat_of_mem hl) ⟨?_, ?_⟩⟩
  · rwa [w.timers_eq rfl]
  · rwa [w.arbiter_eq rfl]

/-! ## The commands -/

/-- Some pending record is an ACTION record. -/
theorem hasAction_iff : hasAction c s = true ↔ ∃ x ∈ (s.queues.get c).pending, isAction x.record = true := by
  simp [hasAction]

/-- START_RUN without a delay (R25). -/
theorem startRun_now (loading : (s.runs.get c).state = .loading) (action : hasAction c s = true) :
    startRun 0 c s = (enterRunning c (startRefill c s), .done, .none) := by
  rw [startRun, if_pos ⟨loading, action⟩]
  rfl

/-- DELAY_EXPIRY of a run that is not linked (R27). -/
theorem delayExpiry_unlinked (h : (s.runs.get c).linked = false) : delayExpiry c s = delayEnd c s := by
  simp [delayExpiry, h]

/-- DELAY_EXPIRY outside DELAYED (log 3). -/
theorem delayExpiry_of_not_delayed (h : (s.runs.get c).state ≠ .delayed) : delayExpiry c s = s := by
  simp [delayExpiry, delayEnd, h]

end

/-- Settles O28: both commands enter RUNNING on the step that the walk along the queue reaches. -/
theorem runEntersRunningOnItsFirstStep : Obligations.RunEntersRunningOnItsFirstStep := by
  unfold Obligations.RunEntersRunningOnItsFirstStep
  intro c load a s reaches entered
  refine ⟨fun p q b accepts cavity loading action => ?start, fun held delayed unlinked => ?expiry, fun held other => ?none⟩
  case start =>
    refine ⟨enterRunning c (startRefill c s), ?_,
      enterRunning_entersRunning reaches (startRefill_within c s) (.then_startRefill (.refl c s))⟩
    have answered := event_cavityOrder_of_accepts q 0x13 b noHold (startRun 0) accepts cavity
    rw [noHold, withHold_none, startRun_now loading (hasAction_iff.mpr action)] at answered
    exact answered
  case expiry =>
    refine ⟨enterRunning c s, ?_, enterRunning_entersRunning reaches (.refl _ s) (.refl c s)⟩
    have acts : delayExpiry c s = enterRunning c s := by
      rw [delayExpiry_unlinked unlinked, delayEnd, if_pos delayed]
    exact (event_of_not_held (delayExpiry c) held).trans (congrArg _ acts)
  case none =>
    exact (event_of_not_held (delayExpiry c) held).trans (congrArg _ (delayExpiry_of_not_delayed other))

end Sys2Proof.Machine
end

section
/-! SUPPORT. What a port that accepts answers to an order, from what the order's block answers (R177, R178). -/

namespace Sys2Proof.Machine

section
variable {p : Port} {b : Byte} {c : Cavity} {s t : State} {answer : Answer} {results : Results}

/-- An order without a selector and a hold. -/
theorem order_answered (q id : Byte) {act : Act} (accepts : Accepts p s) (acts : act s = (t, answer, results)) :
    event (order p q id none act) s = .next (replied p q id answer results t) := by
  rw [event_order_of_accepts q id none act accepts, withHold_none, acts]

/-- An order that names a cavity and needs no hold. -/
theorem cavityOrder_answered (q id : Byte) {act : Cavity → Act} (accepts : Accepts p s) (cavity : cavityOf? b = some c)
    (acts : act c s = (t, answer, results)) :
    event (cavityOrder p q id b noHold act) s = .next (replied p q id answer results t) := by
  rw [event_cavityOrder_of_accepts q id b noHold act accepts cavity, noHold, withHold_none, acts]

/-- The state in which a cavity's EDIT hold is the port's, its expiry restarted (R184). -/
def withEdit (p : Port) (c : Cavity) (s : State) : State :=
  { s with holds := s.holds.set (editHold c) (some { holder := p, expiry := s.settings.holdTimeout * 10 }) }

/-- An order of the holder that names a cavity and needs its EDIT hold. -/
theorem editOrder_answered (q id : Byte) {act : Cavity → Act} {k : Hold} (accepts : Accepts p s)
    (cavity : cavityOf? b = some c) (hold : s.holds.get (editHold c) = some k) (holder : k.holder = p)
    (acts : act c (withEdit p c s) = (t, answer, results)) :
    event (cavityOrder p q id b needEdit act) s = .next (replied p q id answer results t) := by
  rw [event_cavityOrder_of_accepts q id b needEdit act accepts cavity, needEdit, withHold_of_holder _ hold holder]
  rw [withEdit] at acts
  rw [acts]

end

/-! ## The reading orders -/

section
variable {s : State} {slot first : Byte}

theorem readProgram_slot (hs : slot.toNat < 40) (hf : first.toNat < 48) :
    readProgram slot first s = (s, .done, .program (slotPage slot.toNat first.toNat s)) := by
  have named : slot ≠ 255 := by
    rintro rfl
    exact absurd hs (by decide)
  rw [readProgram, if_neg named, if_pos ⟨hs, hf⟩]

theorem readProgram_directory (hf : first.toNat < 40) :
    readProgram 255 first s = (s, .done, .program (directoryPage first.toNat s)) := by
  rw [readProgram, if_pos rfl]
  exact if_pos hf

theorem readProgram_range
    (h : (40 ≤ slot.toNat ∧ slot ≠ 255) ∨ (slot.toNat < 40 ∧ 48 ≤ first.toNat) ∨ (slot = 255 ∧ 40 ≤ first.toNat)) :
    readProgram slot first s = (s, .range, .none) := by
  have slots : Config.programSlots = 40 := rfl
  have records : Config.programRecords = 48 := rfl
  rcases h with ⟨absent, named⟩ | ⟨installed, beyond⟩ | ⟨rfl, beyond⟩
  · rw [readProgram, if_neg named, if_neg (by omega)]
    rfl
  · have named : slot ≠ 255 := by
      rintro rfl
      exact absurd installed (by decide)
    rw [readProgram, if_neg named, if_neg (by omega)]
    rfl
  · rw [readProgram, if_pos rfl, if_neg (by omega)]
    rfl

theorem readParam_setting {x : SettingId} (h : settingOf? first = some x) :
    readParam first s = (s, .done, .paramReport (paramReport x s)) := by
  rw [readParam, h]

theorem readParam_range (h : settingOf? first = none) : readParam first s = (s, .range, .none) := by
  rw [readParam, h]
  rfl

end

/-- Settles O22, order by order: each answers its report on the state as it is. -/
theorem readingOrdersChangeNothing : Obligations.ReadingOrdersChangeNothing := by
  unfold Obligations.ReadingOrdersChangeNothing
  intro p q s accepts
  refine ⟨fun b c cavity => cavityOrder_answered q 0x1E accepts cavity rfl,
    fun b none => event_cavityOrder_of_no_cavity q 0x1E b noHold readRun accepts none,
    order_answered q 0x21 accepts rfl, order_answered q 0x32 accepts rfl, order_answered q 0x3B accepts rfl,
    order_answered q 0x40 accepts rfl,
    fun slot first hs hf => order_answered q 0x4E accepts (readProgram_slot hs hf),
    fun first hf => order_answered q 0x4E accepts (readProgram_directory hf),
    fun slot first wrong => order_answered q 0x4E accepts (readProgram_range wrong),
    fun b x setting => order_answered q 0x51 accepts (readParam_setting setting),
    fun b none => order_answered q 0x51 accepts (readParam_range none),
    order_answered q 0x58 accepts rfl, order_answered q 0x59 accepts rfl⟩

end Sys2Proof.Machine
end

section
/-! SUPPORT. OPEN_RUN (R23): its checks in order, and the reader's fill of an emptied queue (R9, R19, R146). -/

namespace Sys2Proof.Machine

/-! ## The checks -/

theorem inProgress_eq_true {r : Run} (h : r.state ∈ [.loading, .delayed, .running, .starved, .paused]) :
    inProgress r = true := by
  simp only [List.mem_cons, List.not_mem_nil, or_false] at h
  rcases h with e | e | e | e | e <;> simp [inProgress, underway, e]

theorem inProgress_eq_false {r : Run} (h : r.state ∈ [.idle, .finished, .aborted]) : inProgress r = false := by
  simp only [List.mem_cons, List.not_mem_nil, or_false] at h
  rcases h with e | e | e <;> simp [inProgress, underway, e]

/-- Checks 1 to 3 of R23 pass. -/
structure Openable (c : Cavity) (s : State) : Prop where
  unlocked : s.limitLatch.get c = false
  sensed : (s.sensors.get (cavitySensor c)).status ≠ .faulted
  ended : (s.runs.get c).state ∈ [.idle, .finished, .aborted]

/-- The source is a stored program whose slot is empty (R23 check 5). -/
def emptySource (o : Opened) (s : State) : Bool :=
  match o.source with
  | .program n => (installed n s).isNone
  | .stream _ => false

theorem emptySource_program {o : Opened} {n : Nat} {s : State} (h : o.source = .program n) :
    emptySource o s = (installed n s).isNone := by
  rw [emptySource, h]

section
variable {p : Port} {source slot wm : Byte} {c : Cavity} {o : Opened} {s : State}

theorem openRun_locked (h : s.limitLatch.get c = true) : openRun p source slot wm c s = (s, .locked, .none) := by
  rw [openRun, if_pos h]
  rfl

theorem openRun_faulted (unlocked : s.limitLatch.get c = false)
    (h : (s.sensors.get (cavitySensor c)).status = .faulted) : openRun p source slot wm c s = (s, .state, .none) := by
  simp [openRun, unlocked, sensorFaulted, h, deny]

theorem openRun_busy (unlocked : s.limitLatch.get c = false)
    (sensed : (s.sensors.get (cavitySensor c)).status ≠ .faulted) (h : inProgress (s.runs.get c) = true) :
    openRun p source slot wm c s = (s, .busy, .none) := by
  simp [openRun, unlocked, sensorFaulted, sensed, h, deny]

theorem openRun_range (h : Openable c s) (none : openSource p source slot wm = none) :
    openRun p source slot wm c s = (s, .range, .none) := by
  simp [openRun, h.unlocked, sensorFaulted, h.sensed, inProgress_eq_false h.ended, none, deny]

theorem openRun_of_source (h : Openable c s) (some : openSource p source slot wm = some o) :
    openRun p source slot wm c s
      = if emptySource o s then (s, .state, .none)
        else (openWith c o s, .done, .openRun ((openWith c o s).queues.get c).pending.length
          (isClosed ((openWith c o s).runs.get c))) := by
  simp only [openRun, h.unlocked, sensorFaulted, h.sensed, inProgress_eq_false h.ended, some, deny]
  rfl

/-! ## The source (R17, R182) -/

theorem openSource_eq_none
    (h : (source = 0 ∧ wm ≠ 255 ∧ 8 < wm.toNat) ∨ (source = 1 ∧ 39 < slot.toNat) ∨ 1 < source.toNat) :
    openSource p source slot wm = none := by
  rcases h with ⟨rfl, given, large⟩ | ⟨rfl, beyond⟩ | other
  · rw [openSource, if_pos rfl, if_neg given, if_neg (by omega)]
  · have slots : Config.programSlots = 40 := rfl
    rw [openSource, if_neg (by decide), if_pos rfl, if_neg (by omega)]
  · have streamed : source ≠ 0 := by
      rintro rfl
      exact absurd other (by decide)
    have stored : source ≠ 1 := by
      rintro rfl
      exact absurd other (by decide)
    rw [openSource, if_neg streamed, if_neg stored]

theorem openSource_stream (h : wm = 255 ∨ wm.toNat ≤ 8) :
    openSource p 0 slot wm
      = some { source := .stream p, closed := false, watermark := if wm = 255 then 2 else wm.toNat } := by
  rw [openSource, if_pos rfl]
  by_cases e : wm = 255
  · rw [if_pos e, if_pos e]
    rfl
  · rw [if_neg e, if_pos (h.resolve_left e), if_neg e]

theorem openSource_program (h : slot.toNat ≤ 39) :
    openSource p 1 slot wm = some { source := .program slot.toNat, closed := false, watermark := 4 } := by
  rw [openSource, if_neg (by decide), if_pos rfl]
  exact if_pos (Nat.lt_succ_of_le h)

end

/-- Settles O23, check by check. -/
theorem openRunChecksInOrder : Obligations.OpenRunChecksInOrder := by
  unfold Obligations.OpenRunChecksInOrder
  intro p q b source slot wm s accepts no
  refine ⟨fun none => event_cavityOrder_of_no_cavity q 0x10 b noHold _ accepts none, fun c cavity => ?_⟩
  have denied {a : Answer} (acts : openRun p source slot wm c s = (s, a, .none)) : no a :=
    cavityOrder_answered q 0x10 accepts cavity acts
  refine ⟨fun locked => denied (openRun_locked locked), fun unlocked =>
    ⟨fun faulted => denied (openRun_faulted unlocked faulted), fun sensed =>
      ⟨fun busy => denied (openRun_busy unlocked sensed (inProgress_eq_true busy)), fun ended =>
        ⟨fun wrong => denied (openRun_range ⟨unlocked, sensed, ended⟩ (openSource_eq_none wrong)), ?empty⟩⟩⟩⟩
  rintro rfl slots blank
  refine denied ((openRun_of_source ⟨unlocked, sensed, ended⟩ (openSource_program slots)).trans (if_pos ?_))
  rw [emptySource_program rfl, blank]
  rfl

/-! ## The reader's fill -/

/-- The queue that holds the first `k` records of a program, under load numbers from 1. -/
def filledQueue (records : List Record) (k : Nat) : StepQueue :=
  { StepQueue.reset with
    pending := (records.take k).mapIdx (fun i r => { load := i + 1, record := r })
    nextLoad := 1 + min k records.length }

/-- The record of a run that has just been opened, its reader at an index. -/
def loadingRun (o : Opened) (reader : Option Nat) : Run :=
  { Run.idle with state := .loading, opened := some o, reader := reader }

/-- The state in which the reader of an opened run has copied the first `k` records. -/
def filledTo (c : Cavity) (o : Opened) (reader : Option Nat) (records : List Record) (k : Nat) (s : State) : State :=
  { s with runs := s.runs.set c (loadingRun o reader), queues := s.queues.set c (filledQueue records k) }

section
variable {records : List Record} {k : Nat} {c : Cavity} {o : Opened} {prog : Program} {slot : Nat} {s : State}

theorem filledQueue_of_length_le (h : records.length ≤ k) (k' : Nat) (h' : records.length ≤ k') :
    filledQueue records k = filledQueue records k' := by
  rw [filledQueue, filledQueue, List.take_of_length_le h, List.take_of_length_le h', min_eq_right h, min_eq_right h']

theorem occupied_filledQueue : occupied (filledQueue records k) = min k records.length := by
  simp [occupied, filledQueue, StepQueue.reset]

theorem filledTo_run {x : Option Nat} : (filledTo c o x records k s).runs.get c = loadingRun o x :=
  PerCavity.get_set_self _ _ _

theorem filledTo_queue {x : Option Nat} : (filledTo c o x records k s).queues.get c = filledQueue records k :=
  PerCavity.get_set_self _ _ _

/-- The next record of the program joins the tail. -/
theorem append_filledTo {x : Option Nat} (more : k < records.length) (small : k < 16) :
    append c records[k] (filledTo c o x records k s) = filledTo c o x records (k + 1) s := by
  have queue : filledQueue records (k + 1) = { filledQueue records k with
      pending := (filledQueue records k).pending ++ [{ load := (filledQueue records k).nextLoad, record := records[k] }]
      nextLoad := nextLoadNumber (filledQueue records k).nextLoad } := by
    have next : nextLoadNumber (1 + k) = 1 + (k + 1) := by
      rw [nextLoadNumber, if_neg (by omega)]
      rfl
    simp only [filledQueue, List.take_succ_eq_append_getElem more, List.mapIdx_append, List.length_take]
    rw [min_eq_left more.le, min_eq_left (Nat.succ_le_of_lt more), next]
    simp [Nat.add_comm]
  simp only [append, filledTo, modQueue, PerCavity.set_set, PerCavity.get_set_self, queue]

/-- One copy of the reader (R146): the next record, and at the program's end the run closes and the slot is released. -/
theorem copyOne_filledTo (source : o.source = .program slot) (stored : installed slot s = some prog) (small : k < 16)
    (within : k ≤ prog.records.length) :
    copyOne c k (filledTo c o (some k) prog.records k s)
      = if k + 1 < prog.records.length then filledTo c o (some (k + 1)) prog.records (k + 1) s
        else filledTo c { o with closed := true } none prog.records (k + 1) s := by
  have program : programOf (loadingRun o (some k)) = some slot := by simp [programOf, loadingRun, source]
  have content : installed slot (filledTo c o (some k) prog.records k s) = some prog := stored
  unfold copyOne
  extract_lets records copied
  have all : records = prog.records := by simp [records, filledTo_run, program, content]
  have copies : copied = filledTo c o (some k) prog.records (k + 1) s := by
    unfold copied
    rw [all]
    rcases within.lt_or_eq with more | ended
    · rw [List.getElem?_eq_getElem more]
      exact append_filledTo more small
    · rw [List.getElem?_eq_none ended.ge, filledTo, filledTo, filledQueue_of_length_le ended.ge (k + 1) (by omega)]
  rw [copies, all]
  split
  · simp [filledTo, modRun, loadingRun]
  · simp [filledTo, modRun, close, loadingRun]

/-- The reader fills an emptied queue: it stops at the program's end, or with 16 records copied (R9, R19). -/
theorem copyWhile_filledTo {n : Nat} (source : o.source = .program slot) (stored : installed slot s = some prog)
    (room : k + n = 16) (more : k < prog.records.length ∨ k = 0) :
    copyWhile n false c (filledTo c o (some k) prog.records k s)
      = if prog.records.length ≤ 16 then filledTo c { o with closed := true } none prog.records 16 s
        else filledTo c o (some 16) prog.records 16 s := by
  induction n generalizing k with
  | zero =>
    obtain rfl : k = 16 := room
    rw [if_neg (by omega)]
    rfl
  | succ n ih =>
    have free : ¬ Config.queueSlots ≤ occupied (filledQueue prog.records k) := by
      rw [occupied_filledQueue]
      have slots : Config.queueSlots = 16 := rfl
      omega
    have copies : copyWhile (n + 1) false c (filledTo c o (some k) prog.records k s)
        = copyWhile n false c (copyOne c k (filledTo c o (some k) prog.records k s)) := by
      rw [copyWhile, filledTo_run, filledTo_queue]
      simp [loadingRun, free]
    rw [copies, copyOne_filledTo source stored (by omega) (by omega)]
    split
    · next goesOn => exact ih (by omega) (.inl goesOn)
    · next ended =>
      have done (m : Nat) : copyWhile m false c (filledTo c { o with closed := true } none prog.records (k + 1) s)
          = filledTo c { o with closed := true } none prog.records (k + 1) s := by
        cases m with
        | zero => rfl
        | succ m =>
          rw [copyWhile, filledTo_run]
          rfl
      rw [done, if_pos (by omega), filledTo, filledTo, filledQueue_of_length_le (by omega) 16 (by omega)]

/-- Nothing is outstanding once the queue is filled (R19). -/
theorem noteOutstanding_filledTo {x : Option Nat} (h : x = none ∨ o.watermark < min k records.length) :
    noteOutstanding c (filledTo c o x records k s) = filledTo c o x records k s := by
  have settled : (x.isSome && runsLow c (filledTo c o x records k s)) = false := by
    rcases h with rfl | high
    · rfl
    · rw [runsLow, filledTo_run, filledTo_queue, Bool.and_eq_false_iff]
      refine .inr (decide_eq_false ?_)
      simp only [filledQueue, List.length_mapIdx, List.length_take, watermarkOf, loadingRun, Option.map_some,
        Option.getD_some]
      omega
  rw [noteOutstanding, filledTo_run]
  simp only [loadingRun]
  rw [settled]
  simp [modQueue, filledTo, filledQueue, StepQueue.reset]

/-- The reader's answer to the request of an OPEN_RUN (R19). -/
theorem readerRefill_filledTo (source : o.source = .program slot) (low : o.watermark < 16)
    (stored : installed slot s = some prog) :
    readerRefill c (filledTo c o (some 0) prog.records 0 s)
      = if prog.records.length ≤ 16 then filledTo c { o with closed := true } none prog.records 16 s
        else filledTo c o (some 16) prog.records 16 s := by
  rw [readerRefill]
  refine (congrArg _ (copyWhile_filledTo (n := 16) source stored rfl (.inr rfl))).trans ?_
  split
  · exact noteOutstanding_filledTo (.inl rfl)
  · exact noteOutstanding_filledTo (.inr (by omega))

theorem openWith_stream {p : Port} (source : o.source = .stream p) :
    openWith c o s
      = { s with runs := s.runs.set c (loadingRun o none), queues := s.queues.set c StepQueue.reset } := by
  rw [openWith, source]
  rfl

theorem openWith_program (source : o.source = .program slot) (low : o.watermark < 16)
    (stored : installed slot s = some prog) :
    openWith c o s
      = if prog.records.length ≤ 16 then filledTo c { o with closed := true } none prog.records 16 s
        else filledTo c o (some 16) prog.records 16 s := by
  have refills : openWith c o s = readerRefill c (filledTo c o (some 0) prog.records 0 s) := by
    rw [openWith, source]
    simp [filledTo, filledQueue, loadingRun, modRun, modQueue, StepQueue.reset]
  rw [refills, readerRefill_filledTo source low stored]

end

/-- Settles O24: a stream opens on an empty queue, a program on the reader's fill. -/
theorem openRunOpensAStreamOrAProgram : Obligations.OpenRunOpensAStreamOrAProgram := by
  unfold Obligations.OpenRunOpensAStreamOrAProgram
  refine ⟨fun p q b slot wm c s accepts cavity unlocked sensed ended given => ?stream,
    fun p q b slot wm c prog s accepts cavity unlocked sensed ended slots stored => ?program⟩
  case stream =>
    have opens := openRun_of_source ⟨unlocked, sensed, ended⟩ (openSource_stream (p := p) (slot := slot) given)
    rw [openWith_stream rfl, PerCavity.get_set_self, PerCavity.get_set_self] at opens
    exact cavityOrder_answered q 0x10 accepts cavity opens
  case program =>
    have opens := openRun_of_source ⟨unlocked, sensed, ended⟩ (openSource_program (p := p) (wm := wm) slots)
    have full : emptySource { source := .program slot.toNat, closed := false, watermark := 4 } s = false := by
      rw [emptySource_program rfl, stored]
      rfl
    rw [full, openWith_program rfl (show 4 < 16 by decide) stored] at opens
    refine cavityOrder_answered q 0x10 accepts cavity (opens.trans ?_)
    by_cases short : prog.records.length ≤ 16
    · simp [short, filledTo, filledQueue, loadingRun, isClosed]
    · have long := Nat.le_of_not_le short
      simp [short, long, filledTo, filledQueue, loadingRun, isClosed]

end Sys2Proof.Machine
end

section
/-! SUPPORT. The orders on the feeder and the start of a run (R17, R18, R25, R36). -/

namespace Sys2Proof.Machine

section
variable {r : Run} {f : Port} {o : Opened}

theorem feederOf_stream (opened : r.opened = some o) (source : o.source = .stream f) : feederOf r = some f := by
  rw [feederOf, opened]
  simp [source]

/-- A run with a feeder port is a streamed one. -/
theorem stream_of_feeder (h : feederOf r = some f) : ∃ o, r.opened = some o ∧ o.source = .stream f := by
  unfold feederOf at h
  split at h
  · next o opened =>
    split at h
    · next source => exact ⟨o, opened, by rw [source, Option.some.inj h]⟩
    · exact absurd h nofun
  · exact absurd h nofun

theorem isClosed_of_opened (opened : r.opened = some o) : isClosed r = o.closed := by simp [isClosed, opened]

theorem isOpen_of_feeder (h : feederOf r = some f) : isOpen r = !isClosed r := by
  obtain ⟨o, opened, -⟩ := stream_of_feeder h
  simp [isOpen, opened]

theorem programOf_of_feeder (h : feederOf r = some f) : programOf r = none := by
  obtain ⟨o, opened, source⟩ := stream_of_feeder h
  simp [programOf, opened, source]

end

section
variable {p f old : Port} {delay : Half} {c : Cavity} {o : Opened} {s : State}

theorem requestRefill_of_feeder (h : feederOf (s.runs.get c) = some f) :
    requestRefill c s = post f (.refill c (s.queues.get c).pending.length) s := by
  rw [requestRefill, h]

/-- The refill request of the start of a streamed run goes to its feeder (R17). -/
theorem startRefill_of_feeder (h : feederOf (s.runs.get c) = some f) :
    startRefill c s
      = if isClosed (s.runs.get c) = false ∧ (s.queues.get c).pending.length ≤ watermarkOf (s.runs.get c)
        then post f (.refill c (s.queues.get c).pending.length) s else s := by
  simp only [startRefill, isOpen_of_feeder h, runsLow, requestRefill_of_feeder h, Bool.not_eq_true', decide_eq_true_eq]

/-! ## START_RUN -/

theorem startRun_denied
    (h : (s.runs.get c).state ≠ .loading ∨ ∀ x ∈ (s.queues.get c).pending, isAction x.record = false) :
    startRun delay c s = (s, .state, .none) := by
  have unable : ¬ ((s.runs.get c).state = .loading ∧ hasAction c s = true) := by
    rintro ⟨loading, action⟩
    obtain ⟨x, mem, isStep⟩ := hasAction_iff.mp action
    rcases h with other | none
    · exact other loading
    · exact absurd ((none x mem).symm.trans isStep) (by decide)
  rw [startRun, if_neg unable]
  rfl

/-- START_RUN with a delay (R25). -/
theorem startRun_later (loading : (s.runs.get c).state = .loading)
    (action : ∃ x ∈ (s.queues.get c).pending, isAction x.record = true) (later : delay ≠ 0) :
    startRun delay c s = (enterDelayed c delay.toNat false (startRefill c s), .done, .none) := by
  rw [startRun, if_pos ⟨loading, hasAction_iff.mpr action⟩, doneAfter, if_neg later]

/-- The record of a run that enters DELAYED (R25, R26). -/
theorem enterDelayed_run (c : Cavity) (n : Nat) (b : Bool) (s : State) :
    (enterDelayed c n b s).runs.get c = { s.runs.get c with state := .delayed, delay := some (n * 10), linked := b } :=
  PerCavity.get_set_self _ _ _

end

/-- Settles O27: what START_RUN refuses, and the entry to DELAYED. -/
theorem startRunDelaysOrRefuses : Obligations.StartRunDelaysOrRefuses := by
  unfold Obligations.StartRunDelaysOrRefuses
  intro p q b delay c s accepts cavity r k i
  refine ⟨fun unable => cavityOrder_answered q 0x13 accepts cavity (startRun_denied unable),
    fun f loading action later feeder => ?stream, fun loading action later noFeeder => ?program⟩
  case stream =>
    refine cavityOrder_answered q 0x13 accepts cavity ((startRun_later loading action later).trans ?_)
    rw [startRefill_of_feeder feeder]
    by_cases low : isClosed (s.runs.get c) = false ∧ (s.queues.get c).pending.length ≤ watermarkOf (s.runs.get c)
    · rw [if_pos low, if_pos low]
      rfl
    · rw [if_neg low, if_neg low]
      rfl
  case program =>
    have run := enterDelayed_run c delay.toNat false (startRefill c s)
    refine ⟨_, cavityOrder_answered q 0x13 accepts cavity (startRun_later loading action later), ?_, ?_, ?_,
      (startRefill_within c s).trans ((enterDelayed_within c delay.toNat false _).mono rfl)⟩
    · rw [run]
    · rw [run]
    · rw [run]

/-! ## ADOPT_RUN -/

section
variable {p old : Port} {c : Cavity} {o : Opened} {s : State}

theorem adoptRun_denied (h : feederOf (s.runs.get c) = none ∨ (s.runs.get c).state ≠ .starved) :
    adoptRun p c s = (s, .state, .none) := by
  unfold adoptRun
  extract_lets r
  split
  · rfl
  · next feeder =>
    have other : r.state ≠ .starved := h.resolve_left (by rw [show feederOf (s.runs.get c) = _ from feeder]; nofun)
    rw [if_pos other]
    rfl

theorem adoptRun_of_starved (feeder : feederOf (s.runs.get c) = some old) (starved : (s.runs.get c).state = .starved) :
    adoptRun p c s = if old = p then (s, .done, .none) else (adopt p old c s, .done, .none) := by
  simp only [adoptRun, feeder, starved]
  rfl

/-- The feeder role moves (R36), and the new feeder is asked for more as R18 gives. -/
theorem adopt_eq (opened : (s.runs.get c).opened = some o) :
    let moved := post old (.feedMoved c p) { s with
      runs := s.runs.set c
        { s.runs.get c with opened := some { o with source := .stream p }, starveTime := some 0 } }
    adopt p old c s
      = if o.closed = false ∧ (s.queues.get c).pending.length ≤ o.watermark
        then post p (.refill c (s.queues.get c).pending.length) moved else moved := by
  intro moved
  have run : moved.runs.get c
      = { s.runs.get c with opened := some { o with source := .stream p }, starveTime := some 0 } :=
    PerCavity.get_set_self _ _ _
  have feeder : feederOf (moved.runs.get c) = some p := by
    rw [run]
    rfl
  have adopted : adopt p old c s
      = if isOpen (moved.runs.get c) ∧ runsLow c moved = true then requestRefill c moved else moved := by
    rw [adopt, modRun, opened]
    rfl
  rw [adopted, requestRefill_of_feeder feeder, isOpen_of_feeder feeder, isClosed_of_opened (by rw [run]), runsLow, run]
  simp only [Bool.not_eq_true', decide_eq_true_eq]
  rfl

end

/-- Settles O33: only a STARVED streamed run is adopted, and from another port the feeder role moves. -/
theorem adoptRunMovesTheFeeder : Obligations.AdoptRunMovesTheFeeder := by
  unfold Obligations.AdoptRunMovesTheFeeder
  intro p q b c s accepts cavity r n
  refine ⟨fun unfit => cavityOrder_answered q 0x19 accepts cavity (adoptRun_denied unfit),
    fun feeder starved => ?same, fun old o opened source other starved => ?moves⟩
  case same =>
    exact cavityOrder_answered q 0x19 accepts cavity ((adoptRun_of_starved feeder starved).trans (if_pos rfl))
  case moves =>
    have adopts := (adoptRun_of_starved (feederOf_stream opened source) starved).trans (if_neg other)
    rw [adopt_eq opened] at adopts
    exact cavityOrder_answered q 0x19 accepts cavity adopts

end Sys2Proof.Machine
end

section
/-! SUPPORT. `SteamWork s t`: `t` comes of `s` by work of the shared generator, as the prompt table and the cause sets see
it. The other owners' entries stay, and so do the causes of every code but those the generator, its meter and its scale
account post (R193). -/

namespace Sys2Proof.Machine

theorem Within.prompts_eq {f : Parts} {s t : State} (w : Within f s t) (k : f.prompts = false) :
    t.prompts = s.prompts := by
  obtain ⟨-, -, -, -, -, -, -, -, -, -, -, -, -, h, -⟩ := w
  exact h k

theorem Within.attention_eq {f : Parts} {s t : State} (w : Within f s t) (k : f.attention = false) :
    t.attention = s.attention := by
  obtain ⟨-, -, -, -, -, -, -, -, -, -, -, -, -, -, -, -, -, -, -, -, -, -, -, -, h, -⟩ := w
  exact h k

/-! ## Entries of a cause set (R189) -/

/-- A posted cause stands in the set, under some count. -/
theorem exists_mem_addCause (e : CauseEntry) (l : List CauseEntry) :
    ∃ x ∈ addCause e l, { x with count := e.count } = e := by
  induction l with
  | nil => exact ⟨e, List.mem_singleton_self e, rfl⟩
  | cons y ys ih =>
    unfold addCause
    split
    · exact ⟨_, List.mem_cons_self, rfl⟩
    · split
      · exact ⟨e, List.mem_cons_self, rfl⟩
      · obtain ⟨x, mem, same⟩ := ih
        exact ⟨x, List.mem_cons_of_mem _ mem, same⟩

/-- A posting leaves the entries of other codes. -/
theorem mem_addCause_of_mem {e x : CauseEntry} {l : List CauseEntry} (mem : x ∈ l) (ne : e.code ≠ x.code) :
    x ∈ addCause e l := by
  induction l with
  | nil => exact absurd mem List.not_mem_nil
  | cons y ys ih =>
    unfold addCause
    split
    · next same =>
      rcases List.mem_cons.mp mem with rfl | later
      · exact absurd same ne
      · exact List.mem_cons_of_mem _ later
    · split
      · exact List.mem_cons_of_mem _ mem
      · rcases List.mem_cons.mp mem with rfl | later
        · exact List.mem_cons_self
        · exact List.mem_cons_of_mem _ (ih later)

/-- Every entry of a code stays in every port's set, and the masks stay. -/
def CodeKept (n : Nat) (s t : State) : Prop :=
  ∀ p, (t.attention.get p).mask = (s.attention.get p).mask
    ∧ ∀ e ∈ (s.attention.get p).causes, e.code = n → e ∈ (t.attention.get p).causes

section
variable {n : Nat} {s t u : State} {x : Cause} {p : Port}

theorem CodeKept.refl (n : Nat) (s : State) : CodeKept n s s := fun _ => ⟨rfl, fun _ mem _ => mem⟩

theorem CodeKept.trans (h : CodeKept n s t) (k : CodeKept n t u) : CodeKept n s u := by
  intro p
  obtain ⟨mask, kept⟩ := h p
  obtain ⟨mask', kept'⟩ := k p
  exact ⟨mask'.trans mask, fun e mem code => kept' e (kept e mem code) code⟩

theorem CodeKept.then_same (h : CodeKept n s t) (e : u.attention = t.attention) : CodeKept n s u :=
  h.trans (fun p => by rw [e]; exact ⟨rfl, fun _ mem _ => mem⟩)

theorem broadcast_attention_get (x : Cause) (s : State) (p : Port) :
    (broadcast x s).attention.get p = offer (causeEntry x) (s.attention.get p) := by
  cases p <;> rfl

theorem mem_offer_of_mem {e y : CauseEntry} {a : Attention} (mem : y ∈ a.causes) (ne : e.code ≠ y.code) :
    y ∈ (offer e a).causes := by
  unfold offer
  split
  · exact mem_addCause_of_mem mem ne
  · exact mem

theorem CodeKept.then_broadcast (h : CodeKept n s t) (ne : (causeEntry x).code ≠ n) : CodeKept n s (broadcast x t) := by
  refine h.trans (fun p => ?_)
  rw [broadcast_attention_get]
  exact ⟨offer_mask _ _, fun e mem code => mem_offer_of_mem mem (code ▸ ne)⟩

theorem CodeKept.then_post (h : CodeKept n s t) (ne : (causeEntry x).code ≠ n) : CodeKept n s (post p x t) := by
  refine h.trans (fun j => ?_)
  rw [post_attention, PerPort.get_set]
  split
  · next e =>
    subst e
    exact ⟨offer_mask _ _, fun e mem code => mem_offer_of_mem mem (code ▸ ne)⟩
  · exact ⟨rfl, fun _ mem _ => mem⟩

/-- An offered cause stands in the set, unless its code is masked. -/
theorem exists_mem_offer {a : Attention} (enabled : a.mask.getLsbD (causeEntry x).code = true) :
    ∃ e ∈ (offer (causeEntry x) a).causes, { e with count := 1 } = causeEntry x := by
  obtain ⟨-, -, one⟩ := causeEntry_ok x
  have added := exists_mem_addCause (causeEntry x) a.causes
  rw [one] at added
  rwa [offer_of_enabled enabled]

theorem posted_broadcast (x : Cause) (p : Port) (s : State) : Posted x p (broadcast x s) := by
  intro enabled
  rw [broadcast_attention_get, offer_mask] at enabled
  rw [broadcast_attention_get]
  exact exists_mem_offer enabled

theorem posted_post (x : Cause) (p : Port) (s : State) : Posted x p (post p x s) := by
  intro enabled
  rw [post_attention, PerPort.get_set_self, offer_mask] at enabled
  rw [post_attention, PerPort.get_set_self]
  exact exists_mem_offer enabled

/-- A cause stays posted while the entries of its code stay. -/
theorem Posted.of_codeKept (h : Posted x p s) (k : CodeKept (causeEntry x).code s t) : Posted x p t := by
  intro enabled
  obtain ⟨mask, kept⟩ := k p
  obtain ⟨e, mem, same⟩ := h (by rwa [← mask])
  exact ⟨e, kept e mem (by rw [← same]), same⟩

end

/-! ## Causes that follow a change -/

/-- The codes of the causes that work on prompts, on the approach and on the generator posts: GEN_STATE, TARGET_REACHED,
SCALE_WARN, SCALE_LOCK, STEAM_DENIED, PROMPT_CLEARED and PROMPT_RAISED. -/
def followCodes : List Nat := [4, 10, 17, 18, 19, 25, 26]

/-- The causes of every code but those stay. -/
def CodesKept (s t : State) : Prop := ∀ n, n ∉ followCodes → CodeKept n s t

/-- The parts of State other than the prompt table and the cause sets. -/
def Parts.offTable : Parts :=
  { Parts.elsewhere with
    prompts := false, attention := false, runs := true, queues := true, climates := true, pairs := true }

section
variable {s t u : State} {x : Cause} {o : Owner} {c : Cavity}

theorem CodesKept.refl (s : State) : CodesKept s s := fun n _ => .refl n s

theorem CodesKept.trans (h : CodesKept s t) (k : CodesKept t u) : CodesKept s u := fun n other =>
  (h n other).trans (k n other)

theorem CodesKept.ite {p : Prop} [Decidable p] (ht : CodesKept s t) (hu : CodesKept s u) :
    CodesKept s (if p then t else u) := by
  split
  · exact ht
  · exact hu

theorem CodesKept.then_within {g : Parts} (h : CodesKept s t) (w : Within g t u)
    (k : { Parts.offTable with prompts := true }.covers g = true) : CodesKept s u := fun n other =>
  (h n other).then_same ((w.mono k).attention_eq rfl)

theorem CodesKept.then_modRun {f : Run → Run} (h : CodesKept s t) : CodesKept s (modRun c f t) := h

theorem CodesKept.then_broadcast (h : CodesKept s t) (k : (causeEntry x).code ∈ followCodes) :
    CodesKept s (broadcast x t) := fun n other =>
  (h n other).then_broadcast (fun e => other (e ▸ k))

theorem CodesKept.then_removePrompt {r : ClearReason} (h : CodesKept s t) : CodesKept s (removePrompt o r t) := by
  unfold removePrompt
  split
  · exact CodesKept.then_broadcast (t := setPrompt o none t) h (by simp [causeEntry, detail, followCodes])
  · exact h

theorem CodesKept.then_cancelPrompt (h : CodesKept s t) : CodesKept s (cancelPrompt o t) := h.then_removePrompt

theorem CodesKept.then_raisePrompt {code n : Nat} {pl : Placement} {d : Bool} {on : Option OnTimeout} (h : CodesKept s t) :
    CodesKept s (raisePrompt o code pl d n on t) := by
  unfold raisePrompt
  extract_lets removed id entered counted
  have counts : CodesKept s counted := h.then_removePrompt (o := o) (r := .replaced)
  exact counts.then_broadcast (by simp [causeEntry, detail, followCodes])

theorem CodesKept.then_raiseDevice {code : Nat} (h : CodesKept s t) : CodesKept s (raiseDevice o code t) :=
  h.then_raisePrompt

theorem CodesKept.then_raiseRecipe {p : PromptSub} (h : CodesKept s t) : CodesKept s (raiseRecipe c p t) :=
  h.then_raisePrompt

theorem CodesKept.then_refuse (h : CodesKept s t) : CodesKept s (refuse c t) := by
  unfold refuse
  split
  · exact h
  · next reason _ =>
    have denied : CodesKept s (modRun c (fun r => { r with denial := some reason }) t) := h.then_modRun
    exact .ite h (.ite denied (denied.then_broadcast (by simp [causeEntry, detail, followCodes])))

end

/-- What work of the shared generator leaves of the prompt table and the cause sets. -/
structure SteamWork (s t : State) : Prop where
  prompts : ∀ o, o ≠ .generator → t.prompts.get o = s.prompts.get o
  codes : CodesKept s t

section
variable {s t u : State} {c : Cavity}

theorem SteamWork.refl (s : State) : SteamWork s s := ⟨fun _ _ => rfl, .refl s⟩

theorem SteamWork.ite {p : Prop} [Decidable p] (ht : SteamWork s t) (hu : SteamWork s u) :
    SteamWork s (if p then t else u) := by
  split
  · exact ht
  · exact hu

/-- An operation that reaches neither the prompt table nor the cause sets. -/
theorem SteamWork.then_within {g : Parts} (h : SteamWork s t) (w : Within g t u) (k : Parts.offTable.covers g = true) :
    SteamWork s u := by
  have within := w.mono k
  refine ⟨fun o other => ?_, h.codes.then_within within rfl⟩
  rw [within.prompts_eq rfl]
  exact h.prompts o other

theorem SteamWork.then_broadcast {x : Cause} (h : SteamWork s t) (k : (causeEntry x).code ∈ followCodes) :
    SteamWork s (broadcast x t) := ⟨h.prompts, h.codes.then_broadcast k⟩

theorem SteamWork.then_modGen {f : Gen → Gen} (h : SteamWork s t) : SteamWork s (modGen f t) := ⟨h.prompts, h.codes⟩

theorem SteamWork.then_modScale {f : Scale → Scale} (h : SteamWork s t) : SteamWork s (modScale f t) :=
  ⟨h.prompts, h.codes⟩

theorem SteamWork.then_cancelPrompt (h : SteamWork s t) : SteamWork s (cancelPrompt .generator t) := by
  refine ⟨fun o other => ?_, h.codes.then_cancelPrompt⟩
  rw [← h.prompts o other]
  unfold cancelPrompt removePrompt
  split
  · exact PerOwner.get_set_of_ne _ _ other
  · rfl

theorem raisePrompt_prompts_of_ne {o j : Owner} (ne : j ≠ o) (code n : Nat) (pl : Placement) (d : Bool)
    (on : Option OnTimeout) (s : State) : (raisePrompt o code pl d n on s).prompts.get j = s.prompts.get j := by
  have removed : (removePrompt o .replaced s).prompts.get j = s.prompts.get j := by
    unfold removePrompt
    split
    · exact PerOwner.get_set_of_ne _ _ ne
    · rfl
  exact (PerOwner.get_set_of_ne _ _ ne).trans removed

theorem SteamWork.then_raiseDevice {code : Nat} (h : SteamWork s t) : SteamWork s (raiseDevice .generator code t) :=
  ⟨fun o other => (raisePrompt_prompts_of_ne other _ _ _ _ _ _).trans (h.prompts o other), h.codes.then_raiseDevice⟩

theorem SteamWork.then_refuse (h : SteamWork s t) : SteamWork s (refuse c t) := by
  refine ⟨fun o other => ?_, h.codes.then_refuse⟩
  rw [(refuse_within c t).prompts_eq rfl]
  exact h.prompts o other

theorem SteamWork.then_refuseBoth (h : SteamWork s t) : SteamWork s (refuseBoth t) := h.then_refuse.then_refuse

theorem SteamWork.then_thresholdTest {r : ScaleReason} (h : SteamWork s t) : SteamWork s (thresholdTest r t) := by
  unfold thresholdTest
  extract_lets warned locked
  have warn : SteamWork s warned :=
    .ite (.then_broadcast (.then_modScale h) (by simp [causeEntry, detail, followCodes])) h
  have lock : SteamWork s locked := .then_broadcast (.then_modScale warn) (by simp [causeEntry, detail, followCodes])
  exact .ite (.ite lock.then_refuseBoth lock) warn

theorem SteamWork.then_setPoints {m n : Nat} {r : ScaleReason} (h : SteamWork s t) : SteamWork s (setPoints m n r t) := by
  unfold setPoints
  extract_lets old tested
  have test : SteamWork s tested := .then_thresholdTest (.then_modScale h)
  exact .ite test (test.then_within (saveScale_within tested) rfl)

theorem SteamWork.then_meterComplete (h : SteamWork s t) : SteamWork s (meterComplete t) := by
  unfold meterComplete
  split
  · exact h
  · exact .ite (.then_setPoints (t := { t with meter := _ }) ⟨h.prompts, h.codes⟩) ⟨h.prompts, h.codes⟩

theorem SteamWork.then_enterGen {g : GenState} {prep : Gen → Gen} (h : SteamWork s t) : SteamWork s (enterGen g prep t) := by
  unfold enterGen
  extract_lets left before instructed posted
  have instructs : SteamWork s instructed := h.then_modGen.then_within (heatInstruction_within g _) rfl
  have entry : SteamWork s posted := instructs.then_broadcast (by simp [causeEntry, detail, followCodes])
  exact .ite entry entry.then_refuseBoth

theorem SteamWork.then_abandonFill (h : SteamWork s t) : SteamWork s (abandonFill t) :=
  .ite (.then_modGen (.then_cancelPrompt (h.then_within (meterIncomplete_within t) rfl))) h

theorem SteamWork.then_startDrain {x : AfterDrain} (h : SteamWork s t) : SteamWork s (startDrain x t) :=
  .then_enterGen (.then_abandonFill h)

theorem SteamWork.then_dropWait (h : SteamWork s t) : SteamWork s (dropWait t) := .ite (.then_startDrain h) h

theorem SteamWork.then_enterWaterWait (h : SteamWork s t) : SteamWork s (enterWaterWait t) :=
  .then_dropWait (.then_modGen (.then_raiseDevice (.then_enterGen h)))

theorem SteamWork.then_completeSteamFill (h : SteamWork s t) : SteamWork s (completeSteamFill t) :=
  .then_enterGen (.then_cancelPrompt (.then_meterComplete h))

theorem SteamWork.then_waitIfAbsent (h : SteamWork s t) : SteamWork s (waitIfAbsent t) := .ite (.then_enterWaterWait h) h

theorem SteamWork.then_startSteamFill (h : SteamWork s t) : SteamWork s (startSteamFill t) := by
  unfold startSteamFill
  extract_lets src entered begun
  have begins : SteamWork s begun := h.then_enterGen.then_within (meterBegin_within _ _ _) rfl
  exact .ite begins.then_completeSteamFill begins.then_waitIfAbsent

theorem SteamWork.then_fillIfWanted (h : SteamWork s t) : SteamWork s (fillIfWanted t) := .ite (.then_startSteamFill h) h

theorem SteamWork.then_cutWindow (h : SteamWork s t) : SteamWork s (cutWindow c t) := .ite (.then_enterGen h) h

theorem SteamWork.then_demandPresent (h : SteamWork s t) : SteamWork s (demandPresent c t) :=
  .then_fillIfWanted (.then_refuse h)

theorem SteamWork.then_demandAbsent (h : SteamWork s t) : SteamWork s (demandAbsent c t) :=
  .then_dropWait (.then_cutWindow (.then_modGen h))

theorem SteamWork.then_syncDemand (h : SteamWork s t) : SteamWork s (syncDemand c t) := by
  unfold syncDemand
  extract_lets old new told
  have tells : SteamWork s told := .then_modGen h
  refine .ite (.then_modGen ?_) ?_
  all_goals
    split
    · exact .ite tells tells.then_demandAbsent
    · exact tells.then_cutWindow
    · exact .ite tells tells.then_demandPresent

/-- What a change hands over is work of the generator, as the prompt table and the cause sets see it (R22, R94). -/
theorem SteamWork.then_settle (h : SteamWork s t) : SteamWork s (settle c t) := by
  have climate := h.then_within (settleClimate_within c t) rfl
  exact .then_syncDemand (climate.then_within (syncFreeze_within c _) rfl)

end

end Sys2Proof.Machine
end

section
/-! SUPPORT. A run that asks for no steam, or whose demand is suspended, keeps its whole record in what a change hands over
(R22, R96): no denial reason is set for it. Pauses and run ends follow. -/

namespace Sys2Proof.Machine

section
variable {c : Cavity} {s t : State}

/-! ## No denial without a present demand -/

/-- A refusal writes nothing in a run without a demand (R96). -/
theorem refuse_run_of_absent (absent : demandOf (s.runs.get c) = .absent) (j : Cavity) :
    (refuse j s).runs.get c = s.runs.get c := by
  unfold refuse
  split
  · rfl
  · extract_lets r denied
    split
    · rfl
    · next wants =>
      have ne : c ≠ j := by
        rintro rfl
        exact wants absent
      have kept : denied.runs.get c = s.runs.get c := PerCavity.get_set_of_ne _ _ ne
      split
      · exact kept
      · exact kept

theorem refuseBoth_run_of_absent (absent : demandOf (s.runs.get c) = .absent) :
    (refuseBoth s).runs.get c = s.runs.get c := by
  have first := refuse_run_of_absent absent .A
  exact (refuse_run_of_absent (by rwa [first]) .B).trans first

theorem enterGen_run_of_absent {g : GenState} {prep : Gen → Gen} (absent : demandOf (s.runs.get c) = .absent) :
    (enterGen g prep s).runs.get c = s.runs.get c := by
  unfold enterGen
  extract_lets left before instructed posted
  have same : posted.runs = s.runs := (heatInstruction_within g _).runs_eq rfl
  split
  · rw [same]
  · rw [refuseBoth_run_of_absent (by rwa [same]), same]

theorem abandonFill_runs (s : State) : (abandonFill s).runs = s.runs := by
  unfold abandonFill
  split
  · exact (cancelPrompt_within _ _).runs_eq rfl
  · rfl

theorem dropWait_run_of_absent (absent : demandOf (s.runs.get c) = .absent) :
    (dropWait s).runs.get c = s.runs.get c := by
  unfold dropWait
  split
  · have abandoned := congrArg (·.get c) (abandonFill_runs s)
    exact (enterGen_run_of_absent (by rwa [abandoned])).trans abandoned
  · rfl

/-- A window cut short brings no condition of R96: the generator passes from DELIVERING to READY. -/
theorem cutWindow_runs (j : Cavity) (s : State) : (cutWindow j s).runs = s.runs := by
  unfold cutWindow
  split
  · next serving =>
    obtain ⟨delivering, -⟩ := serving
    unfold enterGen
    extract_lets left before instructed posted
    have same : posted.runs = s.runs := (heatInstruction_within .ready _).runs_eq rfl
    have calm : denialReason posted = before := by
      have gen : posted.gen = instructed.gen := rfl
      have ready : instructed.gen.state = .ready := by
        have w : Within .power (modGen (fun g => id (genFields .ready g)) s) instructed := heatInstruction_within .ready _
        obtain ⟨-, -, -, -, -, -, -, kept, -⟩ := w
        rw [kept rfl]
        rfl
      rw [denialReason, gen, ready]
      simp only [before, denialReason, delivering]
    rw [if_pos calm, same]
  · rfl

/-- Telling the generator of a demand that is not present leaves the run record (R94, R96). -/
theorem syncDemand_run_of_not_present (h : demandOf (s.runs.get c) ≠ .present) :
    (syncDemand c s).runs.get c = s.runs.get c := by
  unfold syncDemand
  extract_lets old new told
  have idle (u : State) : (holdIdle u).runs = u.runs := by
    unfold holdIdle
    split
    · rfl
    · rfl
  rw [idle]
  split
  · next status =>
    split
    · rfl
    · have absent : demandOf (s.runs.get c) = .absent := by
        by_contra wants
        rw [show new.status = demandOf (s.runs.get c) by simp [new, reportOf, wants]] at status
        exact wants status
      have cut : (cutWindow c (setCredit c 0 told)).runs = s.runs := cutWindow_runs c _
      exact (dropWait_run_of_absent (by rwa [cut])).trans (by rw [cut])
  · rw [cutWindow_runs]
    rfl
  · next status =>
    refine absurd ?_ h
    by_cases wants : demandOf (s.runs.get c) = .absent
    · rw [show new = DemandReport.none by simp [new, reportOf, wants]] at status
      exact absurd status (by decide)
    · rwa [show new.status = demandOf (s.runs.get c) by simp [new, reportOf, wants]] at status

theorem demandOf_of_not_underway {r : Run} (h : underway r = false) : demandOf r = .absent := by simp [demandOf, h]

theorem demandOf_of_not_counting {r : Run} (h : counting r = false) : demandOf r ≠ .present := by
  unfold demandOf
  split
  · simp [h]
  · decide

/-- What a change hands over leaves the record of a run whose demand is not present. -/
theorem settle_run_of_not_present (h : demandOf (s.runs.get c) ≠ .present) : (settle c s).runs.get c = s.runs.get c := by
  have same : (syncFreeze c (settleClimate c s)).runs = s.runs :=
    ((syncFreeze_within c _).runs_eq rfl).trans ((settleClimate_within c s).runs_eq rfl)
  exact (syncDemand_run_of_not_present (by rwa [same])).trans (by rw [same])

/-! ## The other parts after what a change hands over -/

theorem settle_queues (c : Cavity) (s : State) : (settle c s).queues = s.queues :=
  ((syncDemand_within c _).queues_eq rfl).trans
    (((syncFreeze_within c _).queues_eq rfl).trans ((settleClimate_within c s).queues_eq rfl))

theorem settle_climates (c : Cavity) (s : State) : (settle c s).climates = (settleClimate c s).climates :=
  ((syncDemand_within c _).climates_eq rfl).trans ((syncFreeze_within c _).climates_eq rfl)

theorem settleClimate_of_not_owed (h : (s.climates.get c).restartOwed = false) : settleClimate c s = s := by
  simp [settleClimate, h]

theorem cavityOwner_ne_generator (c : Cavity) : cavityOwner c ≠ .generator := by cases c <;> decide

theorem settle_prompt (c : Cavity) (s : State) :
    (settle c s).prompts.get (cavityOwner c) = s.prompts.get (cavityOwner c) :=
  (SteamWork.then_settle (.refl s)).prompts _ (cavityOwner_ne_generator c)

/-- While the condition of R64 stands after a change, the timers are frozen. -/
theorem settle_allFrozen (h : freezeCondition c s = true) : AllFrozen c (settle c s) := by
  have w := settleClimate_within c s
  have same : freezeCondition c (settleClimate c s) = freezeCondition c s := by
    rw [freezeCondition, freezeCondition, w.runs_eq rfl, w.limitLatch_eq rfl]
  exact ((syncFreeze_frozenWork (same.trans h)).then_shared (.then_syncDemand (.refl _))).frozen

/-! ## Run ends (R33, R40, R41) -/

theorem endRun_run (c : Cavity) (x : RunState) (reason : Option AbortReason) (s : State) :
    (endRun c x reason s).runs.get c = endedRecord x reason (s.runs.get c) := by
  have same : (endRun c x reason s).runs = (modRun c (endedRecord x reason) s).runs :=
    (stopCavity_within c _).runs_eq rfl
  rw [same, modRun_runs, PerCavity.get_set_self]

theorem endRun_queue (c : Cavity) (x : RunState) (reason : Option AbortReason) (s : State) :
    (endRun c x reason s).queues.get c = emptied (s.queues.get c) := by
  have same : (climateEnd c (stopCavity c (modRun c (endedRecord x reason) s))).queues = s.queues :=
    ((climateEnd_within c _).queues_eq rfl).trans ((stopCavity_within c _).queues_eq rfl)
  rw [endRun, emptyQueue, modQueue_queues, PerCavity.get_set_self, same]
  rfl

theorem endRun_climate (c : Cavity) (x : RunState) (reason : Option AbortReason) (s : State) :
    ((endRun c x reason s).climates.get c).demand = 0 ∧ ((endRun c x reason s).climates.get c).loop = none
      ∧ ((endRun c x reason s).climates.get c).restartOwed = false := by
  have ended : (endRun c x reason s).climates.get c
      = { (stopCavity c (modRun c (endedRecord x reason) s)).climates.get c with
          loop := none, updateTime := none, demand := 0, restartOwed := false } := PerCavity.get_set_self _ _ _
  rw [ended]
  exact ⟨rfl, rfl, rfl⟩

theorem endRun_prompts (c : Cavity) (x : RunState) (reason : Option AbortReason) (s : State) :
    (endRun c x reason s).prompts = s.prompts := (stopCavity_within c _).prompts_eq rfl

/-- What a run end leaves of a cavity, on the record and the queue it had. -/
structure RunEnded (c : Cavity) (record : Run) (q : StepQueue) (u : State) : Prop where
  run : u.runs.get c = record
  queue : u.queues.get c = emptied q
  demand : (u.climates.get c).demand = 0
  loop : (u.climates.get c).loop = none
  settled : (u.climates.get c).restartOwed = false

theorem endRun_ended (c : Cavity) (x : RunState) (reason : Option AbortReason) (s : State) :
    RunEnded c (endedRecord x reason (s.runs.get c)) (s.queues.get c) (endRun c x reason s) := by
  obtain ⟨demand, loop, settled⟩ := endRun_climate c x reason s
  exact ⟨endRun_run c x reason s, endRun_queue c x reason s, demand, loop, settled⟩

/-- What a run end hands over leaves the ended record as it is. -/
theorem RunEnded.then_settle {r : Run} {q : StepQueue} (h : RunEnded c r q t) (ended : underway r = false) :
    RunEnded c r q (settle c t) := by
  have absent : demandOf (t.runs.get c) ≠ .present := by
    rw [h.run, demandOf_of_not_underway ended]
    decide
  have climates : (settle c t).climates = t.climates := by
    rw [settle_climates, settleClimate_of_not_owed h.settled]
  refine ⟨(settle_run_of_not_present absent).trans h.run, ?_, ?_, ?_, ?_⟩
  · rw [settle_queues, h.queue]
  · rw [climates, h.demand]
  · rw [climates, h.loop]
  · rw [climates, h.settled]

theorem cancelPrompt_get (o : Owner) (s : State) : (cancelPrompt o s).prompts.get o = none := by
  unfold cancelPrompt removePrompt
  split
  · exact PerOwner.get_set_self _ _ _
  · assumption

/-- An abort, with what it hands over (R41). -/
theorem settle_abortRun (c : Cavity) (reason : AbortReason) (s : State) :
    RunEnded c (abortedRun (s.runs.get c) reason) (s.queues.get c) (settle c (abortRun c reason s))
      ∧ (settle c (abortRun c reason s)).prompts.get (cavityOwner c) = none := by
  have w := cancelPrompt_within (cavityOwner c) s
  have ended := endRun_ended c .aborted (some reason) (cancelPrompt (cavityOwner c) s)
  rw [w.runs_eq rfl, w.queues_eq rfl] at ended
  have aborted : RunEnded c (abortedRun (s.runs.get c) reason) (s.queues.get c) (abortRun c reason s) :=
    ⟨ended.run, ended.queue, ended.demand, ended.loop, ended.settled⟩
  refine ⟨aborted.then_settle rfl, (settle_prompt c _).trans ?_⟩
  exact (congrArg (·.get (cavityOwner c)) (endRun_prompts c .aborted (some reason) _)).trans (cancelPrompt_get _ s)

theorem settle_abortRun_within (c : Cavity) (reason : AbortReason) (s : State) :
    Within .run s (settle c (abortRun c reason s)) :=
  (abortRun_within c reason s).trans (settle_within c _)

/-! ## Pauses (R38) -/

theorem pause_run {reason : PauseReason} (h : (s.runs.get c).state = .running ∨ (s.runs.get c).state = .starved) :
    (pause c reason s).runs.get c = pausedRun (s.runs.get c) reason := by
  unfold pause
  extract_lets r paused
  have run (x : PausedFrom) : (paused x).runs.get c
      = { r with
          state := .paused, pausedFrom := some x, pauseReason := some reason, deferred := false
          doorSuspended := false, mainsHeld := false, doorTime := none } := PerCavity.get_set_self _ _ _
  rcases h with running | starved
  · simp only [show r.state = _ from running, run]
    simp [pausedRun, r, running]
  · simp only [show r.state = _ from starved, run]
    simp [pausedRun, r, starved]

/-- What a pause leaves, with what it hands over (R38, R64). -/
structure RunPaused (c : Cavity) (reason : PauseReason) (s u : State) : Prop where
  run : u.runs.get c = pausedRun (s.runs.get c) reason
  queues : u.queues = s.queues
  frozen : AllFrozen c u
  within : Within .run s u

theorem settle_pause {reason : PauseReason}
    (h : (s.runs.get c).state = .running ∨ (s.runs.get c).state = .starved) :
    RunPaused c reason s (settle c (pause c reason s)) := by
  have run := pause_run (reason := reason) h
  have w := pause_within c reason s
  have suspended : demandOf ((pause c reason s).runs.get c) ≠ .present := by
    rw [run]
    exact demandOf_of_not_counting rfl
  have freezes : freezeCondition c (pause c reason s) = true := by
    rw [freezeCondition, run]
    simp [pausedRun]
  exact ⟨(settle_run_of_not_present suspended).trans run, (settle_queues c _).trans (w.queues_eq rfl),
    settle_allFrozen freezes, (w.mono rfl).trans (settle_within c _)⟩

theorem loadOutput_of_frozen {l : Load} (h : (s.timers.get l).frozen = true) : loadOutput l s = false := by
  simp [loadOutput, h]

theorem fanLevel_of_not_counting (h : counting (s.runs.get c) = false) : fanLevel c s = .off := by
  simp [fanLevel, h]

/-! ## The orders -/

theorem stopRun_loading (h : (s.runs.get c).state = .loading) :
    stopRun c s = (settle c (toIdle c (endRun c .idle none s)), .done, .none) := by
  simp only [stopRun, h]
  rfl

theorem stopRun_aborts (h : (s.runs.get c).state ∈ [.delayed, .running, .starved, .paused]) :
    stopRun c s = (settle c (abortRun c .stop s), .done, .none) := by
  simp only [List.mem_cons, List.not_mem_nil, or_false] at h
  rcases h with e | e | e | e
  all_goals
    simp only [stopRun, e]
    rfl

theorem stopRun_denied (h : (s.runs.get c).state ∈ [.idle, .finished, .aborted]) : stopRun c s = (s, .state, .none) := by
  simp only [List.mem_cons, List.not_mem_nil, or_false] at h
  rcases h with e | e | e
  all_goals
    simp only [stopRun, e]
    rfl

theorem clearRun_clears (h : (s.runs.get c).state ∈ [.finished, .aborted]) :
    clearRun c s = (toIdle c s, .done, .none) := by
  simp only [List.mem_cons, List.not_mem_nil, or_false] at h
  rcases h with e | e
  all_goals
    simp only [clearRun, e]
    rfl

theorem clearRun_denied (h : (s.runs.get c).state ∉ [.finished, .aborted]) : clearRun c s = (s, .state, .none) := by
  simp only [List.mem_cons, List.not_mem_nil, or_false] at h
  unfold clearRun
  split
  · next e => exact absurd (.inl e) h
  · next e => exact absurd (.inr e) h
  all_goals rfl

theorem pauseRun_pauses (h : (s.runs.get c).state = .running ∨ (s.runs.get c).state = .starved) :
    pauseRun c s = (settle c (pause c .order s), .done, .none) := by
  rcases h with e | e
  all_goals
    simp only [pauseRun, e]
    rfl

theorem pauseRun_paused (h : (s.runs.get c).state = .paused) : pauseRun c s = (s, .done, .none) := by
  simp only [pauseRun, h]
  rfl

theorem pauseRun_denied (h : (s.runs.get c).state ∈ [.idle, .loading, .delayed, .finished, .aborted]) :
    pauseRun c s = (s, .state, .none) := by
  simp only [List.mem_cons, List.not_mem_nil, or_false] at h
  rcases h with e | e | e | e | e
  all_goals
    simp only [pauseRun, e]
    rfl

/-- The stop of a run that has not started (R40). -/
theorem settle_toIdle (c : Cavity) (s : State) :
    RunEnded c { Run.idle with denial := (s.runs.get c).denial } (s.queues.get c)
      (settle c (toIdle c (endRun c .idle none s))) := by
  have ended := endRun_ended c .idle none s
  refine RunEnded.then_settle ⟨?_, ended.queue, ended.demand, ended.loop, ended.settled⟩ rfl
  rw [toIdle, modRun_runs, PerCavity.get_set_self, ended.run]
  rfl

end

/-- Settles O37: the waits for the feeder and the door end in an abort and a pause. -/
theorem feederAndDoorTimeoutsEndTheWait : Obligations.FeederAndDoorTimeoutsEndTheWait := by
  unfold Obligations.FeederAndDoorTimeoutsEndTheWait
  intro c s held r
  have feeder := event_of_not_held (feederEnd c) held
  have door := event_of_not_held (doorTimeoutEnd c) held
  refine ⟨fun other => ?fed, fun starved => ?starved, fun shut => ?shut, fun suspended carries => ?suspended⟩
  case fed => exact feeder.trans (congrArg _ (if_neg other))
  case starved =>
    obtain ⟨ended, prompt⟩ := settle_abortRun c .feedLost s
    exact ⟨_, feeder.trans (congrArg _ (if_pos starved)), ended.run, ended.queue, prompt,
      settle_abortRun_within c .feedLost s⟩
  case shut => exact door.trans (congrArg _ (if_neg (by rw [show (s.runs.get c).doorSuspended = _ from shut]; decide)))
  case suspended =>
    have paused := settle_pause (reason := .door) carries
    exact ⟨_, door.trans (congrArg _ (if_pos suspended)), paused.run, paused.queues, paused.frozen, paused.within⟩

/-- Settles O30: the pause freezes the timers and stops the count that the fan runs with. -/
theorem pauseRunPauses : Obligations.PauseRunPauses := by
  unfold Obligations.PauseRunPauses
  intro p q b c s accepts cavity r
  refine ⟨fun carries => ?pauses, fun paused => cavityOrder_answered q 0x15 accepts cavity (pauseRun_paused paused),
    fun other => cavityOrder_answered q 0x15 accepts cavity (pauseRun_denied other)⟩
  have paused := settle_pause (reason := .order) carries
  have still : counting ((settle c (pause c .order s)).runs.get c) = false := by
    rw [paused.run]
    rfl
  exact ⟨_, cavityOrder_answered q 0x15 accepts cavity (pauseRun_pauses carries), paused.run, paused.queues,
    paused.frozen, loadOutput_of_frozen paused.frozen.top, loadOutput_of_frozen paused.frozen.bottom,
    loadOutput_of_frozen paused.frozen.ring, fanLevel_of_not_counting still, paused.within⟩

/-- Settles O32: both orders end in the record that R40 and R41 give. -/
theorem stopAndClearEndTheRecord : Obligations.StopAndClearEndTheRecord := by
  unfold Obligations.StopAndClearEndTheRecord
  intro p q b c s accepts cavity r
  refine ⟨fun loading => ?loading, fun under => ?aborts,
    fun ended => cavityOrder_answered q 0x17 accepts cavity (stopRun_denied ended),
    fun ended => cavityOrder_answered q 0x18 accepts cavity (clearRun_clears ended),
    fun other => cavityOrder_answered q 0x18 accepts cavity (clearRun_denied other)⟩
  case loading =>
    have idle := settle_toIdle c s
    have within : Within .run (endRun c .idle none s) (toIdle c (endRun c .idle none s)) :=
      (within_modRun c _ rfl).mpr (.refl _ _)
    exact ⟨_, cavityOrder_answered q 0x17 accepts cavity (stopRun_loading loading), idle.run, idle.queue,
      ((endRun_within c .idle none s).trans within).trans (settle_within c _)⟩
  case aborts =>
    obtain ⟨ended, prompt⟩ := settle_abortRun c .stop s
    exact ⟨_, cavityOrder_answered q 0x17 accepts cavity (stopRun_aborts under), ended.run, ended.queue, prompt,
      ended.demand, ended.loop, settle_abortRun_within c .stop s⟩

/-! ## CLOSE_RUN -/

section
variable {p : Port} {c : Cavity} {o : Opened} {s : State}

theorem closeRun_notFeeder (h : feederOf (s.runs.get c) ≠ some p) : closeRun p c s = (s, .notFeeder, .none) := by
  rw [closeRun, if_pos h]
  rfl

theorem closeRun_denied (feeder : feederOf (s.runs.get c) = some p)
    (h : (s.runs.get c).state ∈ [.paused, .finished, .aborted]) : closeRun p c s = (s, .state, .none) := by
  simp only [List.mem_cons, List.not_mem_nil, or_false] at h
  rw [closeRun, if_neg (not_not_intro feeder), if_pos h]
  rfl

/-- CLOSE_RUN of the feeder in a state that takes it (R24, R35). -/
theorem closeRun_taken (feeder : feederOf (s.runs.get c) = some p)
    (h : (s.runs.get c).state ∉ [.paused, .finished, .aborted]) :
    closeRun p c s
      = (if isClosed (s.runs.get c) then s
        else if (s.runs.get c).state = .starved then settle c (finish c (clearStepPrompts c (close c s)))
        else close c s, .done, .none) := by
  simp only [List.mem_cons, List.not_mem_nil, or_false] at h
  rw [closeRun, if_neg (not_not_intro feeder), if_neg h]
  split
  · rfl
  · split
    · rfl
    · rfl

theorem close_eq (opened : (s.runs.get c).opened = some o) :
    close c s = { s with runs := s.runs.set c { s.runs.get c with opened := some { o with closed := true } } } := by
  rw [close, modRun, opened]
  rfl

/-- A finish, with what it hands over (R33). -/
theorem settle_finish (c : Cavity) (s : State) :
    RunEnded c { Run.idle with
      state := .finished, opened := (s.runs.get c).opened, denial := (s.runs.get c).denial } (s.queues.get c)
      (settle c (finish c s)) := by
  have ended := endRun_ended c .finished none s
  exact RunEnded.then_settle ⟨ended.run, ended.queue, ended.demand, ended.loop, ended.settled⟩ rfl

end

/-- Settles O26: the closed flag is set, and a STARVED run finishes on it. -/
theorem closeRunClosesOrFinishes : Obligations.CloseRunClosesOrFinishes := by
  unfold Obligations.CloseRunClosesOrFinishes
  intro p q b c o s accepts cavity r i
  refine ⟨fun other => cavityOrder_answered q 0x12 accepts cavity (closeRun_notFeeder other), fun feeder opened => ?_⟩
  have flag : isClosed (s.runs.get c) = o.closed := isClosed_of_opened opened
  refine ⟨fun refused => cavityOrder_answered q 0x12 accepts cavity (closeRun_denied feeder refused),
    fun taken closed => ?closed, fun under isOpen => ?closes, fun starved isOpen => ?finishes⟩
  case closed =>
    have done := closeRun_taken feeder taken
    rw [flag, if_pos closed] at done
    exact cavityOrder_answered q 0x12 accepts cavity done
  case closes =>
    simp only [List.mem_cons, List.not_mem_nil, or_false] at under
    have taken : (s.runs.get c).state ∉ [.paused, .finished, .aborted] := by
      rcases under with e | e | e <;> rw [show (s.runs.get c).state = _ from e] <;> decide
    have fed : (s.runs.get c).state ≠ .starved := by
      rcases under with e | e | e <;> rw [show (s.runs.get c).state = _ from e] <;> decide
    have done := closeRun_taken feeder taken
    rw [flag, isOpen, if_neg (by decide), if_neg fed, close_eq opened] at done
    exact cavityOrder_answered q 0x12 accepts cavity done
  case finishes =>
    have taken : (s.runs.get c).state ∉ [.paused, .finished, .aborted] := by
      rw [show (s.runs.get c).state = _ from starved]
      decide
    have done := closeRun_taken feeder taken
    rw [flag, isOpen, if_neg (by decide), if_pos starved] at done
    have w := clearStepPrompts_within c (close c s)
    have finished := settle_finish c (clearStepPrompts c (close c s))
    rw [w.runs_eq rfl, w.queues_eq rfl, close_eq opened, PerCavity.get_set_self] at finished
    rw [close_eq opened] at done
    have marked := (close_within c s).mono (f := .run) rfl
    rw [close_eq opened] at marked
    exact ⟨_, cavityOrder_answered q 0x12 accepts cavity done, finished.run, finished.queue,
      ((marked.trans ((clearStepPrompts_within c _).mono rfl)).trans (finish_within c _)).trans (settle_within c _)⟩

end Sys2Proof.Machine
end

section
/-! SUPPORT. The walk where no reader copies (R9, R10 to R16): it takes the queue as it stands, and changes nothing of the
run. -/

namespace Sys2Proof.Machine

/-- Two queues agree but for the flag of an outstanding request (R19). -/
def SameQueue (q q' : StepQueue) : Prop := { q with outstanding := false } = { q' with outstanding := false }

theorem SameQueue.eq_with {q q' : StepQueue} (h : SameQueue q q') : q = { q' with outstanding := q.outstanding } :=
  congrArg (fun x : StepQueue => { x with outstanding := q.outstanding }) h

theorem SameQueue.nextLoad_eq {q q' : StepQueue} (h : SameQueue q q') : q.nextLoad = q'.nextLoad := by
  rw [h.eq_with]

/-- Only a feeder may have been told, and the flag of an outstanding request written. -/
structure QueueTold (c : Cavity) (s t : State) : Prop where
  runs : t.runs = s.runs
  queue : SameQueue (t.queues.get c) (s.queues.get c)

/-- What a walk that gave `out` left: the queue `left`, and behind it a mark overrun where a program run's walk found no
record (R16). -/
structure WalkedTo (c : Cavity) (out : Option (Nat × Action)) (left : StepQueue) (s : State)
    (x : State × Option (Nat × Action)) : Prop where
  found : x.2 = out
  runs : x.1.runs = s.runs
  queue : SameQueue (x.1.queues.get c) left
    ∨ out = none ∧ (programOf (s.runs.get c)).isSome = true ∧ SameQueue (x.1.queues.get c) (dropMark left)

section
variable {c : Cavity} {s t : State} {n : Nat}

theorem QueueTold.refl (c : Cavity) (s : State) : QueueTold c s s := ⟨rfl, rfl⟩

theorem copyWhile_of_idle (idle : (s.runs.get c).reader = none) (k : Nat) (b : Bool) : copyWhile k b c s = s := by
  cases k with
  | zero => rfl
  | succ k => rw [copyWhile, idle]

theorem noteOutstanding_told (c : Cavity) (s : State) : QueueTold c s (noteOutstanding c s) := by
  refine ⟨rfl, ?_⟩
  rw [noteOutstanding, modQueue_queues, PerCavity.get_set_self]
  rfl

/-- Without a reader a change of the pending count at most tells the feeder (R17, R19). -/
theorem afterChange_told (idle : (s.runs.get c).reader = none) (n : Nat) : QueueTold c s (afterChange c n s) := by
  unfold afterChange
  split
  · unfold requestRefill
    split
    · exact ⟨rfl, rfl⟩
    · rw [readerRefill, copyWhile_of_idle idle]
      exact noteOutstanding_told c s
  · unfold readerAgain
    split
    · rw [copyWhile_of_idle idle]
      exact noteOutstanding_told c s
    · exact .refl c s

/-- A record handled by a walk, and what follows the fall of the pending count. -/
theorem handled_told {f : StepQueue → StepQueue} (idle : (s.runs.get c).reader = none) (n : Nat) :
    (afterChange c n (modQueue c f s)).runs = s.runs
      ∧ SameQueue ((afterChange c n (modQueue c f s)).queues.get c) (f (s.queues.get c)) := by
  have told := afterChange_told (c := c) (s := modQueue c f s) idle n
  have queue := told.queue
  rw [modQueue_queues, PerCavity.get_set_self] at queue
  exact ⟨told.runs, queue⟩

/-- A walk ends at an empty queue without an overrun. -/
theorem walk_of_empty (empty : (s.queues.get c).pending = []) (under : overrun (s.queues.get c) = false) :
    walk n c s = (s, none) := by
  cases n with
  | zero => rfl
  | succ n => simp [walk, empty, under]

/-- What `consumeRepeat` makes of a queue does not turn on the outstanding flag. -/
theorem SameQueue.consumeRepeat {q q' : StepQueue} (h : SameQueue q q') (count : Nat) (rest : List Loaded) :
    SameQueue (consumeRepeat count rest q) (consumeRepeat count rest q') := by
  rw [h.eq_with]
  rcases q' with ⟨pending, retained, mark, loop, nextLoad, outstanding⟩
  cases mark
  · rfl
  · rcases loop with _ | _ | _
    all_goals rfl

/-- Without a reader a walk is the walk along the queue as it stands (R10 to R16). -/
theorem walk_of_walked {out : Option (Nat × Action)} {q left : StepQueue} (walks : walked n q = some (out, left))
    (same : SameQueue (s.queues.get c) q) (idle : (s.runs.get c).reader = none) :
    WalkedTo c out left s (walk n c s) := by
  induction n generalizing q s with
  | zero => exact absurd walks nofun
  | succ n ih =>
    have goesOn {f : StepQueue → StepQueue} {m : Nat} {t : State} {q' : StepQueue} (runs : t.runs = s.runs)
        (w : walked n q' = some (out, left)) (k : SameQueue (f (t.queues.get c)) q') :
        WalkedTo c out left s (walk n c (afterChange c m (modQueue c f t))) := by
      obtain ⟨told, queue⟩ := handled_told (c := c) (s := t) (f := f) (by rwa [runs]) m
      have all := told.trans runs
      obtain ⟨found, kept, leaves⟩ := ih w (queue.trans k) (by rwa [all])
      rw [all] at kept leaves
      exact ⟨found, kept, leaves⟩
    have pending : (s.queues.get c).pending = q.pending := by rw [same.eq_with]
    cases e : q.pending with
    | nil =>
      obtain ⟨rfl, rfl⟩ : none = out ∧ q = left := by simpa [walked, e] using walks
      rw [e] at pending
      unfold walk
      extract_lets queue
      rw [show queue.pending = [] from pending]
      dsimp only
      split
      · next lost =>
        obtain ⟨program, -⟩ := lost
        have dropped : (loseMark c s).queues.get c = dropMark (s.queues.get c) := PerCavity.get_set_self _ _ _
        have told := noteOutstanding_told c (loseMark c s)
        have left := told.queue
        rw [dropped] at left
        have empty : ((noteOutstanding c (loseMark c s)).queues.get c).pending = [] := by
          rw [left.eq_with]
          exact pending
        rw [copyWhile_of_idle (s := loseMark c s) idle, walk_of_empty empty (by rw [left.eq_with]; rfl)]
        refine ⟨rfl, told.runs, .inr ⟨rfl, program, left.trans ?_⟩⟩
        rw [same.eq_with]
        rfl
      · exact ⟨rfl, rfl, .inl same⟩
    | cons x rest =>
      rw [e] at pending
      unfold walk
      extract_lets queue
      rw [show queue.pending = x :: rest from pending]
      dsimp only
      split
      · next a k =>
        simp only [walked, e, k, Option.some.injEq, Prod.mk.injEq] at walks
        obtain ⟨rfl, rfl⟩ := walks
        obtain ⟨runs, leaves⟩ := handled_told (f := consumeAction x.load a rest) idle (x :: rest).length
        refine ⟨rfl, runs, .inl (leaves.trans ?_)⟩
        rw [same.eq_with]
        rfl
      · next k =>
        simp only [walked, e, k] at walks
        refine goesOn rfl walks ?_
        rw [same.eq_with]
        rfl
      · next count k =>
        rw [walked_repeat e k] at walks
        refine goesOn (by split <;> rfl) walks ?_
        rw [show (ite (queue.mark = true) s (broadcast (.loopError c x.load) s)).queues = s.queues by split <;> rfl]
        exact same.consumeRepeat count rest

theorem consumeRepeat_nextLoad (count : Nat) (rest : List Loaded) (q : StepQueue) :
    (consumeRepeat count rest q).nextLoad = q.nextLoad := by
  unfold consumeRepeat
  split
  · split
    all_goals rfl
  · rfl

/-- A walk leaves the load counter. -/
theorem walked_nextLoad {out : Option (Nat × Action)} {q left : StepQueue} (walks : walked n q = some (out, left)) :
    left.nextLoad = q.nextLoad := by
  induction n generalizing q with
  | zero => exact absurd walks nofun
  | succ n ih =>
    cases e : q.pending with
    | nil =>
      obtain ⟨-, rfl⟩ : none = out ∧ q = left := by simpa [walked, e] using walks
      rfl
    | cons x rest =>
      cases k : x.record with
      | action a =>
        simp only [walked, e, k, Option.some.injEq, Prod.mk.injEq] at walks
        obtain ⟨-, rfl⟩ := walks
        rfl
      | mark =>
        simp only [walked, e, k] at walks
        have kept := ih walks
        exact kept
      | rep count =>
        rw [walked_repeat e k] at walks
        exact (ih walks).trans (consumeRepeat_nextLoad count rest q)

theorem WalkedTo.nextLoad_eq {out : Option (Nat × Action)} {left : StepQueue} {x : State × Option (Nat × Action)}
    (h : WalkedTo c out left s x) : (x.1.queues.get c).nextLoad = left.nextLoad := by
  rcases h.queue with same | ⟨-, -, same⟩
  · exact same.nextLoad_eq
  · exact same.nextLoad_eq

/-- The walk of a streamed run meets no overrun of R16 at its end. -/
theorem WalkedTo.queue_of_feeder {out : Option (Nat × Action)} {left : StepQueue} {x : State × Option (Nat × Action)}
    {f : Port} (h : WalkedTo c out left s x) (feeder : feederOf (s.runs.get c) = some f) :
    SameQueue (x.1.queues.get c) left := by
  rcases h.queue with same | ⟨-, program, -⟩
  · exact same
  · rw [programOf_of_feeder feeder] at program
    exact absurd program (by decide)

/-- Nor does a walk that reaches an ACTION record. -/
theorem WalkedTo.queue_of_some {y : Nat × Action} {left : StepQueue} {x : State × Option (Nat × Action)}
    (h : WalkedTo c (some y) left s x) : SameQueue (x.1.queues.get c) left := by
  rcases h.queue with same | ⟨none, -⟩
  · exact same
  · exact absurd none nofun

end

end Sys2Proof.Machine
end

section
/-! SUPPORT. What the end of a walk makes of a run (R28, R33, R34): a step entry, FINISHED, or STARVED. -/

namespace Sys2Proof.Machine

/-! ## Step entries -/

/-- `r'` is the record `r` on the step entered (R28), but for the reader's index, the source with its closed flag, the core
condition and the denial reason. -/
def StepEntered (load : Nat) (a : Action) (band reading : Nat) (r r' : Run) : Prop :=
  ∃ reader opened core denial, r' = { stepRecord load a band r with
    reader := reader, opened := opened, coreCond := core, denial := denial
    phase := some (entryPhase { load := load, action := a, band := a.band.getD band } reading) }

section
variable {load band reading : Nat} {a : Action} {r r' r'' : Run} {c : Cavity} {s t : State}

theorem StepEntered.of_sameRun (h : StepEntered load a band reading r r') (k : SameRun r'' r') :
    StepEntered load a band reading r r'' := by
  obtain ⟨reader, opened, core, denial, rfl⟩ := h
  exact ⟨reader, opened, core, r''.denial, k.eq_with⟩

theorem StepEntered.enteredStep (h : StepEntered load a band reading r r') (running : r.state = .running) :
    EnteredStep load a band reading r' := by
  obtain ⟨reader, opened, core, denial, rfl⟩ := h
  exact enteredStep_of_phase running rfl rfl rfl

/-- A step entry after changes of other parts of the state, and of the reader's parts of the run. -/
theorem enterStep_entered {g : Parts} (w : Within g s t)
    (k : g.settings = false ∧ g.sensors = false ∧ g.freeIndex = false) (run : SameButSource (t.runs.get c) r) :
    StepEntered load a s.settings.approachBand (cavityReading c s) r ((enterStep c load a t).runs.get c) := by
  obtain ⟨settings, sensors, free⟩ := k
  obtain ⟨core, denial, entered⟩ := enterStep_run c load a t
  rw [w.settings_eq settings, w.cavityReading_eq c ⟨sensors, free⟩, run.eq_with] at entered
  exact ⟨_, _, core, denial, entered⟩

theorem coreEntry_queues (c : Cavity) (s : State) : (coreEntry c s).queues = s.queues := by
  unfold coreEntry
  split
  · split
    · rfl
    · exact (raiseDevice_within _ _ s).queues_eq rfl
  · rfl

theorem enterPhases_queues (c : Cavity) (a : Action) (s : State) : (enterPhases c a s).queues = s.queues := by
  have tested := (approachTest_within c s).queues_eq rfl
  unfold enterPhases
  split
  · exact (raiseRecipe_within _ _ _).queues_eq rfl
  · split
    · exact ((coreEntry_queues c _).trans ((raiseRecipe_within _ _ _).queues_eq rfl)).trans tested
    · exact (coreEntry_queues c _).trans tested

/-- A step entry takes nothing from the queue: the walk before it did. -/
theorem enterStep_queues (c : Cavity) (load : Nat) (a : Action) (s : State) : (enterStep c load a s).queues = s.queues := by
  unfold enterStep
  extract_lets recorded started formed computed
  have compute : computed.queues = s.queues :=
    ((demandComputation_within c formed).queues_eq rfl).trans
      (((reformPair_within c _ _).queues_eq rfl).trans (enterPhases_queues c a started))
  split
  · exact ((refuse_within c computed).queues_eq rfl).trans compute
  · exact compute

theorem CodesKept.then_approachTest (h : CodesKept s t) : CodesKept s (approachTest c t) := by
  unfold approachTest
  split
  · exact h
  · split
    · exact h
    · refine .ite ?_ h
      exact CodesKept.then_broadcast (t := modRun c _ (modClimate c _ t)) h (by simp [causeEntry, detail, followCodes])

theorem CodesKept.then_coreEntry (h : CodesKept s t) : CodesKept s (coreEntry c t) :=
  .ite (.ite h.then_modRun h.then_raiseDevice) h

theorem CodesKept.then_enterPhases (h : CodesKept s t) : CodesKept s (enterPhases c a t) := by
  unfold enterPhases
  split
  · exact .then_raiseRecipe h.then_modRun
  · split
    · exact .then_coreEntry (.then_raiseRecipe h.then_approachTest)
    · exact .then_coreEntry h.then_approachTest

/-- A step entry posts STEP_STARTED, and after it none but the causes that follow a change. -/
theorem enterStep_codesKept (c : Cavity) (load : Nat) (a : Action) (s : State) :
    ∃ t : State, t.attention = s.attention ∧ CodesKept (broadcast (.stepStarted c load) t) (enterStep c load a s) := by
  unfold enterStep
  extract_lets recorded started formed computed
  have start : CodesKept started started := .refl started
  have form : CodesKept started formed := start.then_enterPhases.then_within (reformPair_within c _ _) rfl
  have compute : CodesKept started computed := form.then_within (demandComputation_within c _) rfl
  exact ⟨climateTake c a recorded, rfl, .ite compute.then_refuse compute⟩

/-- STEP_STARTED stands after a step entry (R193). -/
theorem posted_enterStep (c : Cavity) (load : Nat) (a : Action) (s : State) (p : Port) :
    Posted (.stepStarted c load) p (enterStep c load a s) := by
  obtain ⟨t, -, kept⟩ := enterStep_codesKept c load a s
  exact (posted_broadcast _ p t).of_codeKept (kept _ (by simp [causeEntry, detail, followCodes]))

theorem enterStep_codeKept {n : Nat} (c : Cavity) (load : Nat) (a : Action) (s : State) (other : n ∉ followCodes)
    (ne : 11 ≠ n) : CodeKept n s (enterStep c load a s) := by
  obtain ⟨t, same, kept⟩ := enterStep_codesKept c load a s
  exact (CodeKept.then_broadcast (x := .stepStarted c load) (.then_same (.refl n s) same) ne).trans (kept n other)

/-- A cause stays posted through what a change hands over. -/
theorem Posted.then_settle {x : Cause} {p : Port} (h : Posted x p s) (other : (causeEntry x).code ∉ followCodes) :
    Posted x p (settle c s) :=
  h.of_codeKept ((SteamWork.then_settle (.refl s)).codes _ other)

end

/-! ## FINISHED -/

section
variable {c : Cavity} {q left : StepQueue} {s t u : State}

/-- A finish after a walk that found no record, with what it hands over (R33). -/
theorem finishedRun_of_walked {x : State × Option (Nat × Action)} {n : Nat} (w : WalkedTo c none left t x)
    (walks : walked n (s.queues.get c) = some (none, left)) (opened : (t.runs.get c).opened = (s.runs.get c).opened) :
    FinishedRun c s (settle c (finish c x.1)) := by
  have finished := settle_finish c x.1
  have counter : (x.1.queues.get c).nextLoad = (s.queues.get c).nextLoad :=
    w.nextLoad_eq.trans (walked_nextLoad walks)
  refine ⟨?_, finished.queue.trans ?_⟩
  · rw [finished.run, w.runs, opened]
    rfl
  · rw [emptied, emptied, counter]

/-! ## STARVED -/

theorem starveOverrun_eq {f : Port} (feeder : feederOf (s.runs.get c) = some f) :
    starveOverrun c s = if overrun (s.queues.get c) = true then post f (.refill c 0) (loseMark c s) else s := by
  have told : feederOf ((loseMark c s).runs.get c) = some f := feeder
  simp only [starveOverrun, told]

theorem starve_eq {f : Port} (feeder : feederOf (s.runs.get c) = some f) :
    starve c s = broadcast (.feedStarved c f (stepLoad (s.runs.get c)))
      (modClimate c (fun k => { k with loop := k.loop.map (fun l => { l with reached := true }) })
        (modRun c starvedRun (starveOverrun c s))) := by
  have runs : (starveOverrun c s).runs = s.runs := by
    rw [starveOverrun_eq feeder]
    split
    · rfl
    · rfl
  have entered : ((modRun c starvedRun (starveOverrun c s)).runs.get c) = starvedRun (s.runs.get c) := by
    rw [modRun_runs, PerCavity.get_set_self, runs]
  have told : feederOf ((modRun c starvedRun (starveOverrun c s)).runs.get c) = some f := by
    rw [entered]
    exact feeder
  have load : stepLoad ((modRun c starvedRun (starveOverrun c s)).runs.get c) = stepLoad (s.runs.get c) := by
    rw [entered]
    rfl
  rw [← load]
  unfold starve
  extract_lets overran moved held
  have fed : feederOf (held.runs.get c) = some f := told
  rw [fed]
  rfl

theorem starve_run {f : Port} (feeder : feederOf (s.runs.get c) = some f) :
    (starve c s).runs.get c = starvedRun (s.runs.get c) := by
  have runs : (starveOverrun c s).runs = s.runs := by
    rw [starveOverrun_eq feeder]
    split
    · rfl
    · rfl
  rw [starve_eq feeder, broadcast_runs, modClimate_runs, modRun_runs, PerCavity.get_set_self, runs]

/-- The condition of a mark overrun, as R16 gives it. -/
theorem overrun_iff {q : StepQueue} : overrun q = true ↔ q.mark = true ∧ q.retained.length = 16 := by
  rw [overrun, Bool.and_eq_true, decide_eq_true_iff]
  rfl

/-- The entry to STARVED of a streamed run at the end of a walk that found no record (R16, R34, R56). -/
theorem enteredStarved_of_walk {f : Port} {r : Run} (run : t.runs.get c = r) (feeder : feederOf r = some f)
    (queue : SameQueue (t.queues.get c) q) (climates : t.climates = s.climates) :
    EnteredStarved c f r q s (starve c t) := by
  subst run
  have holds : overrun (t.queues.get c) = true ↔ q.mark = true ∧ q.retained.length = 16 := by
    rw [overrun_iff, queue.eq_with]
  have overran := starveOverrun_eq feeder
  refine ⟨?_, ?_, fun p => ?_, fun full => ?_, fun room => ?_⟩
  · rw [starve_run feeder]
    rfl
  · have same : (starveOverrun c t).climates = s.climates := by
      rw [overran]
      split
      · exact climates
      · exact climates
    rw [starve_eq feeder, broadcast_climates, modClimate_climates, PerCavity.get_set_self, modRun_climates, same]
    simp [Option.map_map, Function.comp_def]
  · rw [starve_eq feeder]
    exact posted_broadcast _ p _
  · rw [if_pos (holds.mpr full)] at overran
    obtain ⟨mark, retained⟩ := full
    have lost : (t.queues.get c).retained.length = 16 := by
      rw [queue.eq_with]
      exact retained
    rw [starve_eq feeder, overran]
    refine ⟨?_, ?_, fun p => ?_⟩
    · have dropped : (loseMark c t).queues.get c = dropMark (t.queues.get c) := PerCavity.get_set_self _ _ _
      change SameQueue ((loseMark c t).queues.get c) (overrunQueue q)
      rw [dropped, queue.eq_with]
      rfl
    · exact (posted_post (.refill c 0) f (loseMark c t)).of_codeKept
        (CodeKept.then_broadcast (.then_same (.refl _ _) rfl) (by simp [causeEntry, detail]))
    · have told := posted_broadcast (.markLost c (t.queues.get c).retained.length) p (modQueue c dropMark t)
      rw [lost] at told
      refine Posted.of_codeKept (s := loseMark c t) ?_
        (CodeKept.then_broadcast (.then_same (.then_post (.refl _ _) ?_) rfl) ?_)
      · rw [loseMark, lost]
        exact told
      · simp [causeEntry, detail]
      · simp [causeEntry, detail]
  · rw [if_neg (fun full => room (holds.mp full))] at overran
    rw [starve_eq feeder, overran]
    exact queue

/-- What follows the entry to STARVED keeps it, on the run record as it then is. -/
theorem EnteredStarved.then_kept {f : Port} {r r' : Run} (h : EnteredStarved c f r q s t)
    (run : SameRun (u.runs.get c) (starvedRun r')) (load : stepLoad r' = stepLoad r)
    (reached : (u.climates.get c).loop.map (·.reached) = (t.climates.get c).loop.map (·.reached))
    (queue : u.queues = t.queues) (codes : CodesKept t u) : EnteredStarved c f r' q s u := by
  obtain ⟨-, climate, starved, full, room⟩ := h
  refine ⟨run, reached.trans climate, fun p => ?_, fun lost => ?_, ?_⟩
  · rw [load]
    exact (starved p).of_codeKept (codes _ (by simp [causeEntry, detail, followCodes]))
  · obtain ⟨leaves, refill, marks⟩ := full lost
    refine ⟨?_, refill.of_codeKept (codes _ ?_), fun p => (marks p).of_codeKept (codes _ ?_)⟩
    · rwa [queue]
    · simp [causeEntry, detail, followCodes]
    · simp [causeEntry, detail, followCodes]
  · rwa [queue]

theorem demandComputation_loop (c : Cavity) (s : State) :
    ((demandComputation c s).climates.get c).loop = (s.climates.get c).loop := by
  unfold demandComputation
  split
  · rfl
  · extract_lets d
    rw [(writeElements_within c _ d _).climates_eq rfl, modClimate_climates, PerCavity.get_set_self]

/-- A restart of the climate loop keeps whether the approach point is reached (R55). -/
theorem settleClimate_reached (c : Cavity) (s : State) :
    ((settleClimate c s).climates.get c).loop.map (·.reached) = (s.climates.get c).loop.map (·.reached) := by
  unfold settleClimate
  split
  · unfold climateRestart
    split
    · rw [modClimate_climates, PerCavity.get_set_self]
    · extract_lets reading
      rw [demandComputation_loop, modClimate_climates, PerCavity.get_set_self]
      split
      · simp [Option.map_map, Function.comp_def]
      · rfl
  · rfl

theorem settle_reached (c : Cavity) (s : State) :
    ((settle c s).climates.get c).loop.map (·.reached) = (s.climates.get c).loop.map (·.reached) := by
  rw [settle_climates, settleClimate_reached]

theorem EnteredStarved.then_settle {f : Port} {r : Run} (h : EnteredStarved c f r q s t) :
    EnteredStarved c f r q s (settle c t) := by
  have ⟨run, _⟩ := h
  exact h.then_kept ((settle_run c t).trans run) rfl (settle_reached c t) (settle_queues c t)
    (SteamWork.then_settle (.refl t)).codes

end

end Sys2Proof.Machine
end

section
/-! SUPPORT. The end of a step (R31, R33): its prompt, or the walk and what it gives. -/

namespace Sys2Proof.Machine

/-! ## A stray REPEAT (R15) -/

section
variable {c : Cavity} {s t : State} {n : Nat}

theorem copyOne_attention (c : Cavity) (i : Nat) (s : State) : (copyOne c i s).attention = s.attention := by
  unfold copyOne
  extract_lets records copied
  have same : copied.attention = s.attention := by
    unfold copied
    split
    · rfl
    · rfl
  split
  · exact same
  · exact same

theorem copyWhile_attention (k : Nat) (b : Bool) (c : Cavity) (s : State) :
    (copyWhile k b c s).attention = s.attention := by
  induction k generalizing s with
  | zero => rfl
  | succ k ih =>
    unfold copyWhile
    split
    · rfl
    · split
      · rfl
      · split
        · rfl
        · rw [ih, copyOne_attention]

/-- A change of the pending count posts REFILL at most (R17, R18). -/
theorem afterChange_codeKept (c : Cavity) (m : Nat) (s : State) (ne : 22 ≠ n) : CodeKept n s (afterChange c m s) := by
  have copies (b : Bool) : CodeKept n s (noteOutstanding c (copyWhile Config.queueSlots b c s)) :=
    .then_same (.refl n s) (copyWhile_attention _ b c s)
  unfold afterChange
  split
  · unfold requestRefill
    split
    · next p _ => exact .then_post (x := .refill c _) (.refl n s) ne
    · exact copies false
  · unfold readerAgain
    split
    · exact copies true
    · exact .refl n s

/-- The state in which a walk has handled a stray REPEAT at the head (R15). -/
def strayHandled (c : Cavity) (m count : Nat) (rest : List Loaded) (s : State) : State :=
  afterChange c (s.queues.get c).pending.length (modQueue c (consumeRepeat count rest) (broadcast (.loopError c m) s))

theorem walk_of_stray {k m count : Nat} {rest : List Loaded} (unmarked : (s.queues.get c).mark = false)
    (pending : (s.queues.get c).pending = { load := m, record := .rep count } :: rest) :
    walk (k + 1) c s = walk k c (strayHandled c m count rest s) := by
  rw [walk]
  simp only [pending, unmarked, strayHandled]
  rfl

theorem strayHandled_pending {m count : Nat} {rest : List Loaded} (unmarked : (s.queues.get c).mark = false) :
    ∃ more, ((strayHandled c m count rest s).queues.get c).pending = rest ++ more := by
  have copied := (Copied.then_afterChange (n := (s.queues.get c).pending.length) (.refl c
    (modQueue c (consumeRepeat count rest) (broadcast (.loopError c m) s)))).queue
  rw [modQueue_queues, PerCavity.get_set_self, broadcast_queues, consumeRepeat, if_neg (by simp [unmarked])] at copied
  exact copied.pending

theorem posted_strayHandled (c : Cavity) (m count : Nat) (rest : List Loaded) (s : State) (p : Port) :
    Posted (.loopError c m) p (strayHandled c m count rest s) :=
  Posted.of_codeKept (s := modQueue c (consumeRepeat count rest) (broadcast (.loopError c m) s)) (posted_broadcast _ p s)
    (afterChange_codeKept c _ _ (by simp [causeEntry, detail]))

/-- A stray REPEAT before an ACTION record posts LOOP_ERROR, which the rest of the walk keeps (R10, R15). -/
theorem posted_loopError {k m load count : Nat} {a : Action} {rest : List Loaded}
    (unmarked : (s.queues.get c).mark = false)
    (pending : (s.queues.get c).pending
      = { load := m, record := .rep count } :: { load := load, record := .action a } :: rest) (p : Port) :
    Posted (.loopError c m) p (walk (k + 2) c s).1 := by
  have told := posted_strayHandled c m count ({ load := load, record := .action a } :: rest) s p
  obtain ⟨more, next⟩ := strayHandled_pending (m := m) (count := count)
    (rest := { load := load, record := .action a } :: rest) unmarked
  rw [walk_of_stray unmarked pending]
  generalize strayHandled c m count ({ load := load, record := .action a } :: rest) s = t at told next ⊢
  rw [List.cons_append] at next
  have ends : (walk (k + 1) c t).1 = afterChange c (t.queues.get c).pending.length
      (modQueue c (consumeAction load a (rest ++ more)) t) := by
    rw [walk]
    simp only [next]
  rw [ends]
  exact Posted.of_codeKept (s := modQueue c _ t) told
    (afterChange_codeKept c _ _ (by simp [causeEntry, detail]))

end

/-! ## The walk at the end of a step (R33) -/

/-- `t` is `s` at the end of a step of the cavity `c`: the run record is `r`, and the queues and climate loops stay. -/
structure EndsStep (c : Cavity) (r : Run) (s t : State) : Prop where
  run : t.runs.get c = r
  queues : t.queues = s.queues
  climates : t.climates = s.climates
  within : Within .run s t

/-- The walk at the end of a step. -/
def stepWalk (c : Cavity) (s : State) : State × Option (Nat × Action) := walk walkLimit c (clearStepPrompts c s)

section
variable {c : Cavity} {r : Run} {s t : State} {load : Nat} {a : Action} {q' : StepQueue}

theorem stepWalk_within (c : Cavity) (s : State) : Within .run s (stepWalk c s).1 :=
  ((clearStepPrompts_within c s).mono rfl).trans ((walk_within _ c _).mono rfl)

theorem stepEnd_of_found (found : (stepWalk c s).2 = some (load, a)) :
    stepEnd c s = enterStep c load a (stepWalk c s).1 := by
  have after : afterWalk c (stepWalk c s) = enterStep c load a (stepWalk c s).1 := by rw [afterWalk, found]
  exact after

theorem stepEnd_of_none (none : (stepWalk c s).2 = none) :
    stepEnd c s = if isClosed ((stepWalk c s).1.runs.get c) then finish c (stepWalk c s).1
      else starve c (stepWalk c s).1 := by
  have after : afterWalk c (stepWalk c s) = if isClosed ((stepWalk c s).1.runs.get c) then finish c (stepWalk c s).1
      else starve c (stepWalk c s).1 := by rw [afterWalk, none]
  exact after

/-- The queue at the walk of a step's end is the queue as it stands. -/
theorem EndsStep.queue (h : EndsStep c r s t) : (clearStepPrompts c t).queues.get c = s.queues.get c := by
  rw [(clearStepPrompts_within c t).queues_eq rfl, h.queues]

theorem EndsStep.cleared_run (h : EndsStep c r s t) : (clearStepPrompts c t).runs.get c = r := by
  rw [(clearStepPrompts_within c t).runs_eq rfl, h.run]

theorem EndsStep.stepWalk_reaches (h : EndsStep c r s t)
    (walks : walked walkLimit (s.queues.get c) = some (some (load, a), q')) :
    (stepWalk c t).2 = some (load, a) ∧ SameButSource ((stepWalk c t).1.runs.get c) r := by
  have reached := walk_reaches (s := clearStepPrompts c t) walks (by rw [h.queue]; exact .refl _)
  rwa [h.cleared_run] at reached

theorem EndsStep.stepWalk_walkedTo {out : Option (Nat × Action)} (h : EndsStep c r s t) (idle : r.reader = none)
    (walks : walked walkLimit (s.queues.get c) = some (out, q')) :
    WalkedTo c out q' (clearStepPrompts c t) (stepWalk c t) :=
  walk_of_walked walks (by rw [h.queue]; rfl) (by rw [h.cleared_run, idle])

/-- The walk at the end of a step changes no run where no reader copies. -/
theorem EndsStep.stepWalk_run {out : Option (Nat × Action)} (h : EndsStep c r s t)
    (w : WalkedTo c out q' (clearStepPrompts c t) (stepWalk c t)) : (stepWalk c t).1.runs.get c = r := by
  rw [w.runs, h.cleared_run]

/-- The ACTION record that the walk reaches is entered (R28, R33). -/
theorem EndsStep.entered (h : EndsStep c r s t)
    (walks : walked walkLimit (s.queues.get c) = some (some (load, a), q')) :
    StepEntered load a s.settings.approachBand (cavityReading c s) r ((stepEnd c t).runs.get c) := by
  obtain ⟨found, run⟩ := h.stepWalk_reaches walks
  rw [stepEnd_of_found found]
  exact enterStep_entered (h.within.trans (stepWalk_within c t)) ⟨rfl, rfl, rfl⟩ run

/-- A closed run without a further ACTION record is FINISHED (R33). -/
theorem EndsStep.finished (h : EndsStep c r s t) (idle : r.reader = none) (closed : isClosed r = true)
    (opened : r.opened = (s.runs.get c).opened) (walks : walked walkLimit (s.queues.get c) = some (none, q')) :
    FinishedRun c s (settle c (stepEnd c t)) := by
  have w := h.stepWalk_walkedTo idle walks
  have flag : isClosed ((stepWalk c t).1.runs.get c) = true := by rw [h.stepWalk_run w, closed]
  rw [stepEnd_of_none w.found, if_pos flag]
  exact finishedRun_of_walked w walks (by rw [h.cleared_run, opened])

/-- An open streamed run without a further ACTION record is STARVED (R34). -/
theorem EndsStep.starved {f : Port} (h : EndsStep c r s t) (idle : r.reader = none) (unclosed : isClosed r = false)
    (feeder : feederOf r = some f) (walks : walked walkLimit (s.queues.get c) = some (none, q')) :
    EnteredStarved c f r q' s (stepEnd c t) := by
  have w := h.stepWalk_walkedTo idle walks
  have run := h.stepWalk_run w
  have flag : ¬ isClosed ((stepWalk c t).1.runs.get c) = true := by
    rw [run, unclosed]
    decide
  rw [stepEnd_of_none w.found, if_neg flag]
  refine enteredStarved_of_walk run feeder (w.queue_of_feeder (by rw [h.cleared_run, feeder])) ?_
  have climates : (stepWalk c t).1.climates = (clearStepPrompts c t).climates := (walk_within _ c _).climates_eq rfl
  exact (climates.trans ((clearStepPrompts_within c t).climates_eq rfl)).trans h.climates

/-! ## What O34 says of the end of a step -/

/-- The run of `s` has passed to EXIT_PROMPT, its AFTER prompt raised (R31). -/
def ExitPrompted (c : Cavity) (e : PromptSub) (s u : State) : Prop :=
  (u.runs.get c).phase = some .exitPrompt ∧ (u.runs.get c).state = .running
    ∧ (u.runs.get c).current = (s.runs.get c).current ∧ (u.prompts.get (cavityOwner c)).map (·.code) = some e.code
    ∧ (u.prompts.get (cavityOwner c)).map (·.placement) = some .after ∧ Within .run s u

/-- The run of `s` has entered its next step, the walk's causes posted. -/
def NextEntered (c : Cavity) (load : Nat) (a : Action) (q' : StepQueue) (s u : State) : Prop :=
  EnteredStep load a s.settings.approachBand (cavityReading c s) (u.runs.get c)
    ∧ (∀ p, Posted (.stepStarted c load) p u)
    ∧ (∀ m n x rest, (s.queues.get c).mark = false →
        (s.queues.get c).pending = { load := m, record := .rep n } :: { load := load, record := .action x } :: rest →
        ∀ p, Posted (.loopError c m) p u)
    ∧ ((s.runs.get c).reader = none → SameQueue (u.queues.get c) q') ∧ Within .run s u

/-- The step ends in the entry of the next one (R28, R33), with what it hands over. -/
theorem EndsStep.nextEntered (h : EndsStep c r s t) (running : r.state = .running)
    (reader : r.reader = (s.runs.get c).reader)
    (walks : walked walkLimit (s.queues.get c) = some (some (load, a), q')) :
    NextEntered c load a q' s (settle c (stepEnd c t)) := by
  have entered := (h.entered walks).of_sameRun (settle_run c (stepEnd c t))
  obtain ⟨found, -⟩ := h.stepWalk_reaches walks
  have ends := stepEnd_of_found found
  refine ⟨entered.enteredStep running, fun p => ?started, fun m n x rest unmarked pending p => ?stray, fun idle => ?queue,
    (h.within.trans ?_).trans (settle_within c _)⟩
  case started =>
    rw [ends]
    exact (posted_enterStep c load a _ p).then_settle (by simp [causeEntry, detail, followCodes])
  case stray =>
    have told : Posted (.loopError c m) p (stepWalk c t).1 :=
      posted_loopError (k := 1198) (by rw [h.queue, unmarked]) (by rw [h.queue, pending]) p
    rw [ends]
    refine Posted.then_settle (told.of_codeKept (enterStep_codeKept c load a _ ?_ ?_)) ?_
    all_goals simp [causeEntry, detail, followCodes]
  case queue =>
    have w := h.stepWalk_walkedTo (reader.trans idle) walks
    rw [settle_queues, ends, enterStep_queues]
    exact w.queue_of_some
  exact stepEnd_within c t

/-! ## The end condition (R31) -/

theorem raisePrompt_get (o : Owner) (code : Nat) (pl : Placement) (d : Bool) (n : Nat) (on : Option OnTimeout) (s : State) :
    ((raisePrompt o code pl d n on s).prompts.get o).map (·.code) = some code
      ∧ ((raisePrompt o code pl d n on s).prompts.get o).map (·.placement) = some pl := by
  unfold raisePrompt
  extract_lets removed id entered counted
  have raised : (broadcast (.promptRaised o code id n pl) counted).prompts.get o = some _ :=
    PerOwner.get_set_self removed.prompts o _
  rw [raised]
  exact ⟨rfl, rfl⟩

/-- The end condition of a step with an AFTER prompt raises it in EXIT_PROMPT (R31). -/
theorem endCondition_exitPrompted {step : CurrentStep} {e : PromptSub} (w : Within .run s t)
    (running : (t.runs.get c).state = .running) (same : (t.runs.get c).current = (s.runs.get c).current)
    (current : (s.runs.get c).current = some step) (prompt : step.action.prompt = some e) (after : e.placement = .after) :
    ExitPrompted c e s (settle c (endCondition c t)) := by
  have asks : (t.runs.get c).current.bind (fun step => entryPrompt step.action .after) = some e := by
    rw [same, current, Option.bind_some, entryPrompt, prompt]
    exact if_pos after
  have ends : endCondition c t
      = raiseRecipe c e (cancelProbePrompt c (modRun c (fun r => { r with phase := some .exitPrompt }) t)) := by
    rw [endCondition, asks]
  have left : (endCondition c t).runs.get c = { t.runs.get c with phase := some .exitPrompt } := by
    rw [ends, (raiseRecipe_within c e _).runs_eq rfl, (cancelProbePrompt_within c _).runs_eq rfl, modRun_runs,
      PerCavity.get_set_self]
  have settled := (settle_run c (endCondition c t)).eq_with
  rw [left] at settled
  obtain ⟨code, placement⟩ := raisePrompt_get (cavityOwner c) e.code e.placement e.doorAck e.timeout (some e.onTimeout)
    (cancelProbePrompt c (modRun c (fun r => { r with phase := some .exitPrompt }) t))
  refine ⟨by rw [settled], by rw [settled]; exact running, by rw [settled]; exact same, ?_, ?_,
    (w.trans (endCondition_within c t)).trans (settle_within c _)⟩
  · rw [settle_prompt, ends]
    exact code
  · rw [settle_prompt, ends, ← after]
    exact placement

/-- The end condition of a step without an AFTER prompt ends it (R31). -/
theorem endCondition_of_no_after {step : CurrentStep} (current : (t.runs.get c).current = some step)
    (noAfter : ∀ e, step.action.prompt = some e → e.placement ≠ .after) : endCondition c t = stepEnd c t := by
  have none : (t.runs.get c).current.bind (fun step => entryPrompt step.action .after) = none := by
    rw [current, Option.bind_some]
    unfold entryPrompt
    split
    · next e prompt => exact if_neg (noAfter e prompt)
    · rfl
  rw [endCondition, none]

end

end Sys2Proof.Machine
end

section
/-! SUPPORT. SKIP_STEP and STEP_TIME_EXPIRY (R30, R42): both meet the end condition of a step. -/

namespace Sys2Proof.Machine

/-! ## An order under the EDIT hold -/

section
variable {p : Port} {c : Cavity} {s v : State}

/-- Work of a run on the state in which the hold's expiry is restarted leaves that hold. -/
theorem withEdit_of_within (w : Within .run (withEdit p c s) v) : withEdit p c { v with holds := s.holds } = v := by
  have settings : v.settings = s.settings := w.settings_eq rfl
  have holds : v.holds = (withEdit p c s).holds := by
    obtain ⟨-, -, -, -, -, -, -, -, -, -, -, -, -, -, -, -, -, -, -, -, -, -, -, h, -⟩ := w
    exact h rfl
  have kept : s.holds.set (editHold c) (some { holder := p, expiry := v.settings.holdTimeout * 10 }) = v.holds := by
    rw [holds, settings]
    rfl
  rw [withEdit]
  dsimp only
  rw [kept]

/-- Setting the same holds in both states keeps what lies between them. -/
theorem Within.set_holds {f : Parts} {t : State} (w : Within f s t) (x : PerHold (Option Hold)) :
    Within f { s with holds := x } { t with holds := x } := by
  simp_all [Within]

theorem within_of_withEdit (w : Within .run (withEdit p c s) v) : Within .run s { v with holds := s.holds } :=
  w.set_holds s.holds

theorem finishedRun_of_withEdit (h : FinishedRun c (withEdit p c s) v) : FinishedRun c s { v with holds := s.holds } := h

theorem enteredStarved_of_withEdit {f : Port} {r : Run} {q : StepQueue}
    (h : EnteredStarved c f r q (withEdit p c s) v) : EnteredStarved c f r q s { v with holds := s.holds } := h

theorem nextEntered_of_withEdit {load : Nat} {a : Action} {q : StepQueue}
    (h : NextEntered c load a q (withEdit p c s) v) : NextEntered c load a q s { v with holds := s.holds } := by
  obtain ⟨entered, started, strays, left, w⟩ := h
  exact ⟨entered, started, strays, left, within_of_withEdit w⟩

theorem exitPrompted_of_withEdit {e : PromptSub} (h : ExitPrompted c e (withEdit p c s) v) :
    ExitPrompted c e s { v with holds := s.holds } := by
  obtain ⟨exit, state, same, code, placement, w⟩ := h
  exact ⟨exit, state, same, code, placement, within_of_withEdit w⟩

end

/-! ## The orders -/

section
variable {c : Cavity} {s t : State}

theorem skipStep_running (running : (s.runs.get c).state = .running) :
    skipStep c s = (settle c (skipEffect c s), .done, .skipStep (stepLoad (s.runs.get c))) := by
  rw [skipStep, if_pos running]

theorem skipStep_denied (other : (s.runs.get c).state ≠ .running) : skipStep c s = (s, .state, .none) := by
  rw [skipStep, if_neg other]
  rfl

theorem skipEffect_of_heatOrHold (phase : (s.runs.get c).phase = some .heatup ∨ (s.runs.get c).phase = some .hold) :
    skipEffect c s = endCondition c s := by
  rcases phase with e | e
  all_goals rw [skipEffect, e]

theorem endsStep_cancelPrompt (c : Cavity) (s : State) :
    EndsStep c (s.runs.get c) s (cancelPrompt (cavityOwner c) s) := by
  have w := cancelPrompt_within (cavityOwner c) s
  exact ⟨by rw [w.runs_eq rfl], w.queues_eq rfl, w.climates_eq rfl, w.mono rfl⟩

/-- A skip ends a step in EXIT_PROMPT, and one without an AFTER prompt in every phase (R42). -/
theorem skipEffect_ends {step : CurrentStep} (current : (s.runs.get c).current = some step)
    (h : (s.runs.get c).phase = some .exitPrompt
      ∨ (s.runs.get c).phase ≠ none ∧ ∀ e, step.action.prompt = some e → e.placement ≠ .after) :
    ∃ t, skipEffect c s = stepEnd c t ∧ EndsStep c (s.runs.get c) s t := by
  have cancelled := endsStep_cancelPrompt c s
  have here : EndsStep c (s.runs.get c) s s := ⟨rfl, rfl, rfl, .refl _ s⟩
  rcases h with exit | ⟨phased, noAfter⟩
  · exact ⟨_, by rw [skipEffect, exit], cancelled⟩
  · cases phase : (s.runs.get c).phase with
    | none => exact absurd phase phased
    | some x =>
      cases x with
      | exitPrompt => exact ⟨_, by rw [skipEffect, phase], cancelled⟩
      | entryPrompt =>
        refine ⟨_, ?_, cancelled⟩
        rw [skipEffect, phase]
        exact endCondition_of_no_after (by rw [cancelled.run, current]) noAfter
      | heatup =>
        exact ⟨s, (skipEffect_of_heatOrHold (.inl phase)).trans (endCondition_of_no_after current noAfter), here⟩
      | hold =>
        exact ⟨s, (skipEffect_of_heatOrHold (.inr phase)).trans (endCondition_of_no_after current noAfter), here⟩

theorem skipped_within (c : Cavity) (s : State) : Within .run s (settle c (skipEffect c s)) :=
  (skipEffect_within c s).trans (settle_within c _)

/-- The state in which the remaining time of the step has run out (R30). -/
def timeRunOut (c : Cavity) (s : State) : State := modRun c (fun r => { r with remaining := some 0 }) s

theorem timeRunOut_run (c : Cavity) (s : State) :
    (timeRunOut c s).runs.get c = { s.runs.get c with remaining := some 0 } := PerCavity.get_set_self _ _ _

theorem endsStep_timeRunOut (c : Cavity) (s : State) :
    EndsStep c { s.runs.get c with remaining := some 0 } s (timeRunOut c s) :=
  ⟨timeRunOut_run c s, rfl, rfl, (within_modRun c _ rfl).mpr (.refl _ s)⟩

/-- A run whose step counts is RUNNING in HEATUP or HOLD (R30). -/
theorem running_of_stepCounts {r : Run} (counts : stepCounts r = true) :
    r.state = .running ∧ inHeatOrHold r = true := by
  simp only [stepCounts, Bool.and_eq_true, Bool.or_eq_true, decide_eq_true_eq] at counts
  obtain ⟨⟨⟨⟨running, -⟩, -⟩, -⟩, phase⟩ := counts
  refine ⟨running, ?_⟩
  rcases phase with hold | ⟨heatup, -⟩
  · simp [inHeatOrHold, hold]
  · simp [inHeatOrHold, heatup]

theorem stepTimeEnd_of_counts (counts : stepCounts (s.runs.get c) = true) :
    stepTimeEnd c s = settle c (endCondition c (timeRunOut c s)) := by
  obtain ⟨running, phase⟩ := running_of_stepCounts counts
  have tries : tryEnd c (timeRunOut c s) = endCondition c (timeRunOut c s) := by
    rw [tryEnd, timeRunOut_run]
    exact if_pos ⟨running, phase⟩
  rw [stepTimeEnd, if_pos counts]
  exact congrArg (settle c) tries

theorem stepTimeEnd_of_not_counts (idle : stepCounts (s.runs.get c) = false) : stepTimeEnd c s = s := by
  simp [stepTimeEnd, idle]

/-- A step without an AFTER prompt ends where its time runs out (R31). -/
theorem stepTimeEnd_ends {step : CurrentStep} (counts : stepCounts (s.runs.get c) = true)
    (current : (s.runs.get c).current = some step)
    (noAfter : ∀ e, step.action.prompt = some e → e.placement ≠ .after) :
    stepTimeEnd c s = settle c (stepEnd c (timeRunOut c s)) := by
  rw [stepTimeEnd_of_counts counts, endCondition_of_no_after (by rw [timeRunOut_run, current]) noAfter]

theorem timedEnd_within (c : Cavity) (s : State) : Within .run s (settle c (stepEnd c (timeRunOut c s))) :=
  ((endsStep_timeRunOut c s).within.trans (stepEnd_within c _)).trans (settle_within c _)

end

/-- Settles O34: both commands meet the end condition, on the run record and on its copy whose time has run out. -/
theorem stepEndsAtItsEndCondition : Obligations.StepEndsAtItsEndCondition := by
  unfold Obligations.StepEndsAtItsEndCondition
  intro c s r queue noAfter toExit leaves toNext toFinished toStarved
  refine ⟨fun p q b k accepts cavity hold holder => ?skip, fun unheld => ?expiry⟩
  case skip =>
    intro held skipped ends
    have denied (other : r.state ≠ .running) :
        exec (.skipStep p q b) s = .next (replied p q 0x1A .state .none (held s)) :=
      editOrder_answered q 0x1A accepts cavity hold holder (skipStep_denied (s := withEdit p c s) other)
    have takes {step : CurrentStep} {post : State → Prop} (running : r.state = .running)
        (current : r.current = some step)
        (h : post { settle c (skipEffect c (withEdit p c s)) with holds := s.holds }) : skipped step post := by
      refine ⟨_, ?_, h⟩
      have load : stepLoad ((withEdit p c s).runs.get c) = step.load := by
        rw [stepLoad, show ((withEdit p c s).runs.get c).current = some step from current]
        rfl
      have answered := editOrder_answered q 0x1A accepts cavity hold holder (skipStep_running (s := withEdit p c s) running)
      rw [load, ← withEdit_of_within (skipped_within c (withEdit p c s))] at answered
      exact answered
    refine ⟨denied, fun step e running phase current prompt after => takes running current ?_,
      fun step load a q' ⟨running, current, how⟩ walks => takes running current ?_,
      fun step q' ⟨running, current, how⟩ idle closed walks => takes running current ?_,
      fun step q' f ⟨running, current, how⟩ idle unclosed feeder walks => takes running current ?_⟩
    · rw [skipEffect_of_heatOrHold (s := withEdit p c s) phase]
      exact exitPrompted_of_withEdit (endCondition_exitPrompted (.refl _ _) running rfl current prompt after)
    · obtain ⟨t, ends, endsStep⟩ := skipEffect_ends (s := withEdit p c s) current how
      rw [ends]
      exact nextEntered_of_withEdit (endsStep.nextEntered running rfl walks)
    · obtain ⟨t, ends, endsStep⟩ := skipEffect_ends (s := withEdit p c s) current how
      have w := skipped_within c (withEdit p c s)
      rw [ends] at w ⊢
      exact ⟨finishedRun_of_withEdit (endsStep.finished idle closed rfl walks), within_of_withEdit w⟩
    · obtain ⟨t, ends, endsStep⟩ := skipEffect_ends (s := withEdit p c s) current how
      have w := skipped_within c (withEdit p c s)
      rw [ends] at w ⊢
      have starved := enteredStarved_of_withEdit (endsStep.starved idle unclosed feeder walks).then_settle
      exact ⟨starved, within_of_withEdit w⟩
  case expiry =>
    intro ends
    have answered := event_of_not_held (stepTimeEnd c) unheld
    have timed := endsStep_timeRunOut c s
    refine ⟨fun idle => answered.trans (congrArg _ (stepTimeEnd_of_not_counts idle)),
      fun step e counts current prompt after => ?_, fun step load a q' ⟨counts, current, how⟩ walks => ?_,
      fun step q' ⟨counts, current, how⟩ idle closed walks => ?_,
      fun step q' f ⟨counts, current, how⟩ idle unclosed feeder walks => ?_⟩
    · have acts := answered.trans (congrArg _ (stepTimeEnd_of_counts counts))
      obtain ⟨running, -⟩ := running_of_stepCounts counts
      refine ⟨_, acts, endCondition_exitPrompted timed.within ?_ ?_ current prompt after⟩
      · rw [timed.run]
        exact running
      · rw [timed.run]
    · have acts := answered.trans (congrArg _ (stepTimeEnd_ends counts current how))
      obtain ⟨running, -⟩ := running_of_stepCounts counts
      exact ⟨_, acts, timed.nextEntered running rfl walks⟩
    · have acts := answered.trans (congrArg _ (stepTimeEnd_ends counts current how))
      exact ⟨_, acts, timed.finished idle closed rfl walks, timedEnd_within c s⟩
    · have acts := answered.trans (congrArg _ (stepTimeEnd_ends counts current how))
      exact ⟨_, acts, (timed.starved idle unclosed feeder walks).then_settle, timedEnd_within c s⟩

end Sys2Proof.Machine
end

section
/-! SUPPORT. LOAD_STEP (R8, R24, R35): its checks in order, the record at the tail, and the walk of a STARVED run. -/

namespace Sys2Proof.Machine

/-- A queue with one more record at its tail, under the next load number (R7, R8). -/
def appendedQueue (q : StepQueue) (x : Record) : StepQueue :=
  { q with
    pending := q.pending ++ [{ load := q.nextLoad, record := x }]
    nextLoad := if 65535 ≤ q.nextLoad then 1 else q.nextLoad + 1 }

/-- The record of a STARVED run on whose queue a walk has reached an ACTION record (R35). -/
def fedRun (r : Run) : Run := { r with state := .running, starveTime := none }

section
variable {p : Port} {record : List Byte} {x : Record} {c : Cavity} {s : State}

theorem append_queue (c : Cavity) (x : Record) (s : State) :
    (append c x s).queues.get c = appendedQueue (s.queues.get c) x := PerCavity.get_set_self _ _ _

theorem freeSlots_appendedQueue (q : StepQueue) (x : Record) : freeSlots (appendedQueue q x) = 15 - occupied q := by
  have slots : Config.queueSlots = 16 := rfl
  simp only [freeSlots, occupied, appendedQueue, List.length_append, List.length_singleton]
  omega

/-! ## The checks -/

theorem loadStep_notFeeder (h : feederOf (s.runs.get c) ≠ some p) :
    loadStep p record c s = (s, .notFeeder, .none) := by
  rw [loadStep, if_pos h]
  rfl

theorem loadStep_denied (feeder : feederOf (s.runs.get c) = some p)
    (h : (s.runs.get c).state ∈ [.paused, .finished, .aborted] ∨ isClosed (s.runs.get c) = true) :
    loadStep p record c s = (s, .state, .none) := by
  simp only [List.mem_cons, List.not_mem_nil, or_false, or_assoc] at h
  rw [loadStep, if_neg (not_not_intro feeder), if_pos h]
  rfl

/-- The feeder may load: the run is open, in a state that takes a record (R24). -/
structure Loadable (p : Port) (c : Cavity) (s : State) : Prop where
  feeder : feederOf (s.runs.get c) = some p
  taken : (s.runs.get c).state ∉ [.paused, .finished, .aborted]
  unclosed : isClosed (s.runs.get c) = false

theorem Loadable.passes (h : Loadable p c s) :
    ¬ ((s.runs.get c).state = .paused ∨ (s.runs.get c).state = .finished ∨ (s.runs.get c).state = .aborted
      ∨ isClosed (s.runs.get c) = true) := by
  have taken := h.taken
  simp only [List.mem_cons, List.not_mem_nil, or_false] at taken
  simp only [h.unclosed, Bool.false_eq_true, or_false]
  exact taken

theorem loadStep_range (h : Loadable p c s) (wrong : acceptRecord record = none) :
    loadStep p record c s = (s, .range, .none) := by
  rw [loadStep, if_neg (not_not_intro h.feeder), if_neg h.passes, wrong]
  rfl

theorem loadStep_full (h : Loadable p c s) (fits : acceptRecord record = some x) (full : 16 ≤ occupied (s.queues.get c)) :
    loadStep p record c s = (s, .full, .full 0) := by
  rw [loadStep, if_neg (not_not_intro h.feeder), if_neg h.passes, fits]
  exact if_pos full

/-- A record taken (R8): the answer carries its load number and the free slots behind it. -/
theorem loadStep_takes (h : Loadable p c s) (fits : acceptRecord record = some x)
    (room : occupied (s.queues.get c) < 16) :
    loadStep p record c s
      = (if (s.runs.get c).state = .starved then starvedWalk c (append c x s) else append c x s, .done,
        .loadStep (s.queues.get c).nextLoad (15 - occupied (s.queues.get c))) := by
  have free : freeSlots ((append c x s).queues.get c) = 15 - occupied (s.queues.get c) := by
    rw [append_queue, freeSlots_appendedQueue]
  rw [loadStep, if_neg (not_not_intro h.feeder), if_neg h.passes, fits, ← free]
  exact if_neg (Nat.not_le_of_lt room)

/-! ## The walk of a STARVED run (R35) -/

theorem starvedWalk_of_found {load : Nat} {a : Action} (found : (walk walkLimit c s).2 = some (load, a)) :
    starvedWalk c s = settle c (enterStep c load a (modRun c fedRun (walk walkLimit c s).1)) := by
  unfold starvedWalk
  extract_lets x
  rw [show x.2 = some (load, a) from found]
  rfl

theorem starvedWalk_of_none (none : (walk walkLimit c s).2 = none) : starvedWalk c s = (walk walkLimit c s).1 := by
  unfold starvedWalk
  extract_lets x
  rw [show x.2 = _ from none]

/-- The ACTION record that the walk reaches is entered, and the starve time ends (R35). -/
theorem starvedWalk_entered {load : Nat} {a : Action} {q' : StepQueue}
    (walks : walked walkLimit (s.queues.get c) = some (some (load, a), q')) :
    EnteredStep load a s.settings.approachBand (cavityReading c s) ((starvedWalk c s).runs.get c)
      ∧ ((starvedWalk c s).runs.get c).starveTime = none
      ∧ ((s.runs.get c).reader = none → SameQueue ((starvedWalk c s).queues.get c) q') := by
  obtain ⟨found, run⟩ := walk_reaches walks (.refl _)
  have fed : SameButSource ((modRun c fedRun (walk walkLimit c s).1).runs.get c) (fedRun (s.runs.get c)) := by
    rw [modRun_runs, PerCavity.get_set_self, run.eq_with]
    rfl
  have w : Within .queue s (modRun c fedRun (walk walkLimit c s).1) :=
    (walk_within walkLimit c s).trans ((within_modRun c _ rfl).mpr (.refl _ _))
  rw [starvedWalk_of_found found]
  have entered : StepEntered load a s.settings.approachBand (cavityReading c s) (fedRun (s.runs.get c))
      ((settle c (enterStep c load a (modRun c fedRun (walk walkLimit c s).1))).runs.get c) :=
    (enterStep_entered w ⟨rfl, rfl, rfl⟩ fed).of_sameRun (settle_run c _)
  refine ⟨entered.enteredStep rfl, ?_, fun idle => ?_⟩
  · obtain ⟨reader, opened, core, denial, record⟩ := entered
    rw [record]
    rfl
  · rw [settle_queues, enterStep_queues, modRun_queues]
    exact (walk_of_walked walks rfl idle).queue_of_some

end

/-- Settles O25: check by check, and for a STARVED run by what the walk along the longer queue gives. -/
theorem loadStepAppendsOrRefuses : Obligations.LoadStepAppendsOrRefuses := by
  unfold Obligations.LoadStepAppendsOrRefuses
  intro p q b record c s accepts cavity length r k i
  have answered {t : State} {answer : Answer} {results : Results} (acts : loadStep p record c s = (t, answer, results)) :
      exec i s = .next (replied p q 0x11 answer results t) := by
    have ⟨unheld, _⟩ := accepts
    refine (event_of_not_held _ unheld).trans (congrArg _ ?_)
    rw [takeFrame_of_accepts q 0x11 _ accepts, counted, if_pos (by rw [length]; rfl), cavityAct, cavity]
    simp only [noHold, withHold_none, acts]
  refine ⟨fun other => answered (loadStep_notFeeder other), fun feeder =>
    ⟨fun refused => answered (loadStep_denied feeder refused), fun taken unclosed => ?_⟩⟩
  have loadable : Loadable p c s := ⟨feeder, taken, unclosed⟩
  refine ⟨fun wrong => answered (loadStep_range loadable wrong),
    fun x fits full => answered (loadStep_full loadable fits full), fun x fits room fed => ?appends,
    fun x fits room starved => ?walks⟩
  case appends =>
    have takes := loadStep_takes loadable fits room
    rw [if_neg fed] at takes
    exact answered takes
  case walks =>
    intro k'
    have takes := loadStep_takes loadable fits room
    rw [if_pos starved] at takes
    have queue : (append c x s).queues.get c = k' := append_queue c x s
    refine ⟨fun load a q' walks => ?entered, fun q' idle walks => ?waits⟩
    case entered =>
      obtain ⟨entered, starve, left⟩ := starvedWalk_entered (s := append c x s) (by rw [queue]; exact walks)
      exact ⟨_, answered takes, entered, starve, left,
        ((append_within c x s).mono rfl).trans (starvedWalk_within c _)⟩
    case waits =>
      have w := walk_of_walked (s := append c x s) walks (by rw [queue]; rfl) idle
      rw [starvedWalk_of_none w.found] at takes
      exact ⟨_, answered takes, by rw [w.runs]; rfl, w.queue_of_feeder (s := append c x s) feeder,
        (append_within c x s).trans (walk_within _ c _)⟩

end Sys2Proof.Machine
end

section
/-! SUPPORT. START_LINKED and the shared delay (R26): cavity A is taken whole before cavity B, and what it does leaves B's
run and queue. -/

namespace Sys2Proof.Machine

section
variable {c : Cavity} {n : Nat} {delay : Half} {r r' : Run} {load band reading : Nat} {a : Action} {s t : State}

theorem EnteredStep.of_sameRun (h : EnteredStep load a band reading r) (k : SameRun r' r) :
    EnteredStep load a band reading r' := by
  rw [k.eq_with]
  exact h

/-- What work on one cavity leaves of the other one (R6, R96). -/
theorem CavityWork.other_run (h : CavityWork c s t) : SameRun (t.runs.get (otherCavity c)) (s.runs.get (otherCavity c)) := by
  obtain ⟨⟨-, -, -, run⟩, -⟩ := h
  exact run

theorem CavityWork.other_queue (h : CavityWork c s t) : t.queues.get (otherCavity c) = s.queues.get (otherCavity c) := by
  obtain ⟨⟨queue, -⟩, -⟩ := h
  exact queue

/-- Both runs enter RUNNING on their first steps, each after its own refill: `t` is `s` with A's run under way, and B's
queue lengthened by its reader. -/
theorem bothEntered {m : Nat} {b : Action} {u v : State} (reachesA : WalkReaches m a s.queues.a)
    (reachesB : WalkReaches n b s.queues.b) (refillA : Within .queue s u) (copiedA : Copied .A s u)
    (workA : CavityWork .A s u) (refillB : Within .queue (enterRunning .A u) v)
    (copiedB : Copied .B (enterRunning .A u) v) (workB : CavityWork .B (enterRunning .A u) v) :
    EnteredStep m a s.settings.approachBand (cavityReading .A s) (enterRunning .B v).runs.a
      ∧ EnteredStep n b s.settings.approachBand (cavityReading .B s) (enterRunning .B v).runs.b
      ∧ Within .run s (enterRunning .B v) := by
  obtain ⟨stepA, -⟩ := enterRunning_entered (c := .A) reachesA copiedA.queue
  rw [refillA.settings_eq rfl, refillA.cavityReading_eq .A ⟨rfl, rfl⟩] at stepA
  have w : Within .run s v := ((refillA.mono rfl).trans (enterRunning_within .A u)).trans (refillB.mono rfl)
  have queueB : (enterRunning .A u).queues.get .B = s.queues.get .B := workA.then_enterRunning.other_queue
  have longer := copiedB.queue
  rw [queueB] at longer
  obtain ⟨stepB, -⟩ := enterRunning_entered (c := .B) reachesB longer
  rw [w.settings_eq rfl, w.cavityReading_eq .B ⟨rfl, rfl⟩] at stepB
  exact ⟨stepA.of_sameRun workB.then_enterRunning.other_run, stepB, w.trans (enterRunning_within .B v)⟩

/-- A run that can be started: LOADING with a pending ACTION record (R25, R26). -/
def Startable (c : Cavity) (s : State) : Prop :=
  (s.runs.get c).state = .loading ∧ ∃ x ∈ (s.queues.get c).pending, isAction x.record = true

theorem startable_iff : Startable c s ↔ (s.runs.get c).state = .loading ∧ hasAction c s = true := by
  rw [Startable, hasAction_iff]

theorem startLinked_denied (h : ¬ (Startable .A s ∧ Startable .B s)) : startLinked delay s = (s, .state, .none) := by
  rw [startable_iff, startable_iff] at h
  rw [startLinked]
  exact if_neg h

theorem startLinked_starts (ableA : Startable .A s) (ableB : Startable .B s) :
    startLinked delay s
      = (if delay = 0 then enterRunning .B (startRefill .B (enterRunning .A (startRefill .A s)))
        else enterDelayed .B delay.toNat true (startRefill .B (enterDelayed .A delay.toNat true (startRefill .A s))),
        .done, .none) := by
  rw [startLinked]
  exact if_pos ⟨startable_iff.mp ableA, startable_iff.mp ableB⟩

/-- Both runs are DELAYED on the shared timer (R26). -/
theorem bothDelayed (n : Nat) (s : State) (c : Cavity) :
    let u := enterDelayed .B n true (startRefill .B (enterDelayed .A n true (startRefill .A s)))
    (u.runs.get c).state = .delayed ∧ (u.runs.get c).delay = some (n * 10) ∧ (u.runs.get c).linked = true := by
  intro u
  cases c with
  | A =>
    have kept : SameRun (u.runs.get .A) ((enterDelayed .A n true (startRefill .A s)).runs.get .A) :=
      (CavityWork.refl .B _).then_startRefill.then_enterDelayed.other_run
    rw [kept.eq_with, enterDelayed_run]
    exact ⟨rfl, rfl, rfl⟩
  | B =>
    rw [show u.runs.get .B = _ from enterDelayed_run .B n true _]
    exact ⟨rfl, rfl, rfl⟩

theorem bothDelayed_within (n : Nat) (s : State) :
    Within .queue s (enterDelayed .B n true (startRefill .B (enterDelayed .A n true (startRefill .A s)))) :=
  (((startRefill_within .A s).trans ((enterDelayed_within .A n true _).mono rfl)).trans (startRefill_within .B _)).trans
    ((enterDelayed_within .B n true _).mono rfl)

/-- The shared delay's expiry is one event for both runs (R26). -/
theorem delayExpiry_linked (h : ∀ x, (s.runs.get x).state = .delayed ∧ (s.runs.get x).linked = true) (c : Cavity) :
    delayExpiry c s = enterRunning .B (enterRunning .A s) := by
  obtain ⟨delayed, linked⟩ := h c
  obtain ⟨delayed', linked'⟩ := h (otherCavity c)
  obtain ⟨delayedA, -⟩ := h .A
  obtain ⟨delayedB, -⟩ := h .B
  have first : delayEnd .A s = enterRunning .A s := if_pos delayedA
  have kept : SameRun ((enterRunning .A s).runs.get .B) (s.runs.get .B) :=
    (CavityWork.refl .A s).then_enterRunning.other_run
  have second : delayEnd .B (enterRunning .A s) = enterRunning .B (enterRunning .A s) :=
    if_pos (by rw [kept.eq_with]; exact delayedB)
  rw [delayExpiry]
  exact (if_pos ⟨delayed, linked, delayed', linked'⟩).trans (by rw [first, second])

end

/-- Settles O29: both runs start or neither, A's before B's. -/
theorem startLinkedStartsBothOrNeither : Obligations.StartLinkedStartsBothOrNeither := by
  unfold Obligations.StartLinkedStartsBothOrNeither
  intro p q delay s accepts able
  refine ⟨fun unable => order_answered q 0x14 accepts (startLinked_denied unable),
    fun ableA ableB later => ?delayed, fun m n a b ableA ableB now reachesA reachesB => ?starts,
    fun c m n a b linked reachesA reachesB => ?expires⟩
  case delayed =>
    have acts := startLinked_starts (delay := delay) ableA ableB
    rw [if_neg later] at acts
    exact ⟨_, order_answered q 0x14 accepts acts, bothDelayed delay.toNat s, bothDelayed_within delay.toNat s⟩
  case starts =>
    have acts := startLinked_starts (delay := delay) ableA ableB
    rw [if_pos now] at acts
    exact ⟨_, order_answered q 0x14 accepts acts,
      bothEntered reachesA reachesB (startRefill_within .A s) (.then_startRefill (.refl .A s))
        (.then_startRefill (.refl .A s)) (startRefill_within .B _) (.then_startRefill (.refl .B _))
        (.then_startRefill (.refl .B _))⟩
  case expires =>
    obtain ⟨unheld, -⟩ := accepts
    exact ⟨_, (event_of_not_held (delayExpiry c) unheld).trans (congrArg _ (delayExpiry_linked linked c)),
      bothEntered reachesA reachesB (.refl _ s) (.refl .A s) (.refl .A s) (.refl _ _) (.refl .B _) (.refl .B _)⟩

end Sys2Proof.Machine
end

section
/-! SUPPORT. ADJUST_STEP (R43, R182): its checks in order, and what it writes in the run record's copy of the step. -/

namespace Sys2Proof.Machine

/-- The parts that the presence byte gives (R182). -/
def givenParts (presence target : Byte) (n : Half) (steam : Byte) : Adjustment :=
  { target := if presence.getLsbD 0 then some target.toNat else none
    remaining := if presence.getLsbD 1 then some n.toNat else none
    steam := if presence.getLsbD 2 then some steam.toNat else none }

section
variable {presence target steam : Byte} {n : Half}

theorem adjustmentOf_of_wrong (h : presence.toNat = 0 ∨ 8 ≤ presence.toNat) :
    adjustmentOf presence target n steam = none := by
  rw [adjustmentOf, if_pos h]

theorem adjustmentOf_of_given (h : ¬ (presence.toNat = 0 ∨ 8 ≤ presence.toNat)) :
    adjustmentOf presence target n steam = some (givenParts presence target n steam) := by
  rw [adjustmentOf, if_neg h]
  rfl

theorem givenParts_remaining_isSome :
    (givenParts presence target n steam).remaining.isSome = presence.getLsbD 1 := by
  unfold givenParts
  cases presence.getLsbD 1
  · rfl
  · rfl

/-- The range checks of R43, part by part. -/
theorem adjustmentOk_givenParts (heat : HeatMode) :
    adjustmentOk heat (givenParts presence target n steam) = true ↔
      (presence.getLsbD 0 = true → 30 ≤ target.toNat ∧ target.toNat ≤ 250 ∧ heat ≠ .noHeat)
        ∧ (presence.getLsbD 1 = true → n.toNat ≠ 0)
        ∧ (presence.getLsbD 2 = true → steam.toNat % 10 = 0 ∧ steam.toNat ≤ 100) := by
  have small : n.toNat < 65536 := n.isLt
  have targets : (optIn 30 250 (if presence.getLsbD 0 then some target.toNat else none)
        && ((if presence.getLsbD 0 then some target.toNat else none).isNone || decide (heat ≠ .noHeat))) = true
      ↔ (presence.getLsbD 0 = true → 30 ≤ target.toNat ∧ target.toNat ≤ 250 ∧ heat ≠ .noHeat) := by
    cases presence.getLsbD 0
    · simp [optIn]
    · simp [optIn, and_assoc]
  have times : optIn 1 65535 (if presence.getLsbD 1 then some n.toNat else none) = true
      ↔ (presence.getLsbD 1 = true → n.toNat ≠ 0) := by
    cases presence.getLsbD 1
    · simp [optIn]
    · have bound : n.toNat < 65536 := small
      simp only [optIn, if_true, decide_eq_true_eq, forall_const]
      omega
  unfold adjustmentOk givenParts
  rw [Bool.and_eq_true, Bool.and_eq_true, targets, times, and_assoc]
  refine and_congr_right fun _ => and_congr_right fun _ => ?_
  cases presence.getLsbD 2
  · simp
  · simp [steamOk]

end

section
variable {presence target steam : Byte} {n : Half} {c : Cavity} {step : CurrentStep} {s : State}

/-! ## The checks -/

theorem underway_iff {r : Run} : underway r = true ↔ r.state ∈ [.running, .starved, .paused] := by
  simp only [underway, Bool.or_eq_true, decide_eq_true_eq, List.mem_cons, List.not_mem_nil, or_false, or_assoc]

theorem adjustStep_denied
    (h : (s.runs.get c).current = none ∨ (s.runs.get c).state ∉ [.running, .starved, .paused]) :
    adjustStep presence target n steam c s = (s, .state, .none) := by
  unfold adjustStep
  extract_lets r
  split
  · rfl
  · next step current =>
    have other : ¬ underway r = true := by
      rw [underway_iff]
      exact h.resolve_left (by rw [show (s.runs.get c).current = _ from current]; nofun)
    rw [if_neg other]
    rfl

theorem adjustStep_wrong_parts (current : (s.runs.get c).current = some step)
    (under : (s.runs.get c).state ∈ [.running, .starved, .paused]) (wrong : presence.toNat = 0 ∨ 8 ≤ presence.toNat) :
    adjustStep presence target n steam c s = (s, .range, .none) := by
  simp only [adjustStep, current, underway_iff.mpr under, adjustmentOf_of_wrong wrong]
  rfl

theorem adjustStep_of_given (current : (s.runs.get c).current = some step)
    (under : (s.runs.get c).state ∈ [.running, .starved, .paused])
    (given : ¬ (presence.toNat = 0 ∨ 8 ≤ presence.toNat)) :
    adjustStep presence target n steam c s
      = if adjustmentOk step.action.heat (givenParts presence target n steam) then
          if presence.getLsbD 1 = true ∧ ((s.runs.get c).state = .starved ∨ (s.runs.get c).phase = some .exitPrompt)
          then (s, .state, .none) else (adjust c (givenParts presence target n steam) s, .done, .none)
        else (s, .range, .none) := by
  simp only [adjustStep, current, underway_iff.mpr under, adjustmentOf_of_given given, givenParts_remaining_isSome]
  rfl

/-! ## The effect -/

theorem adjust_run (c : Cavity) (x : Adjustment) (s : State) :
    SameRun ((adjust c x s).runs.get c) (adjustRecord x (s.runs.get c)) := by
  unfold adjust
  extract_lets written
  have run : written.runs.get c = adjustRecord x (s.runs.get c) := PerCavity.get_set_self _ _ _
  rw [← run]
  refine (settle_run c _).trans ?_
  split
  · exact congrArg (fun x => { x.get c with denial := none }) ((climateAdjust_within c _ written).runs_eq rfl)
  · rfl

theorem adjust_queues (c : Cavity) (x : Adjustment) (s : State) : (adjust c x s).queues = s.queues := by
  unfold adjust
  extract_lets written
  rw [settle_queues]
  split
  · exact (climateAdjust_within c _ written).queues_eq rfl
  · rfl

/-- The step's copy after an adjustment (R43): a remaining time brings a step without a duration one, from the start. -/
def adjustedAction (presence target : Byte) (n : Half) (steam : Byte) (a : Action) : Action :=
  { a with
    target := if presence.getLsbD 0 = true then some target.toNat else a.target
    duration := if presence.getLsbD 1 = true ∧ a.duration = none then some n.toNat else a.duration
    basis := if presence.getLsbD 1 = true ∧ a.duration = none then some .fromStart else a.basis
    steam := if presence.getLsbD 2 = true then steam.toNat else a.steam }

theorem adjustRecord_givenParts {r : Run} (current : r.current = some step) :
    adjustRecord (givenParts presence target n steam) r
      = { r with
          current := some { step with action := adjustedAction presence target n steam step.action }
          remaining := if presence.getLsbD 1 = true then some (n.toNat * 10) else r.remaining } := by
  have timed : ((givenParts presence target n steam).remaining.isSome = true ∧ step.action.duration.isNone = true)
      ↔ presence.getLsbD 1 = true ∧ step.action.duration = none := by
    rw [givenParts_remaining_isSome, Option.isNone_iff_eq_none]
  unfold adjustRecord adjustedAction
  simp only [current, Option.map_some, timed]
  unfold givenParts
  cases presence.getLsbD 0
  all_goals
    cases presence.getLsbD 1
    all_goals
      cases presence.getLsbD 2
      all_goals rfl

end

/-- Settles O35: check by check, and what the adjustment writes in the record. -/
theorem adjustStepChangesTheCopy : Obligations.AdjustStepChangesTheCopy := by
  unfold Obligations.AdjustStepChangesTheCopy
  intro p q b presence target n steam c k s accepts cavity hold holder r i held hasTarget hasTime hasSteam
  have answered {t : State} {answer : Answer} {results : Results}
      (acts : adjustStep presence target n steam c (withEdit p c s) = (t, answer, results)) :
      exec i s = .next (replied p q 0x1B answer results t) :=
    editOrder_answered q 0x1B accepts cavity hold holder acts
  refine ⟨fun unfit => answered (adjustStep_denied (s := withEdit p c s) unfit), fun step current under => ?_⟩
  intro wrong untimely
  have given (h : ¬ (presence.toNat = 0 ∨ 8 ≤ presence.toNat)) :=
    adjustStep_of_given (s := withEdit p c s) (target := target) (n := n) (steam := steam) current under h
  have allowed (right : ¬ wrong) : ¬ (presence.toNat = 0 ∨ 8 ≤ presence.toNat)
      ∧ adjustmentOk step.action.heat (givenParts presence target n steam) = true := by
    simp only [wrong, not_or, not_and] at right
    obtain ⟨nonzero, bits, targets, times, steams⟩ := right
    refine ⟨not_or.mpr ⟨nonzero, bits⟩, (adjustmentOk_givenParts _).mpr ⟨fun has => ?_, times, fun has => ?_⟩⟩
    · obtain ⟨low, high, heat⟩ := targets has
      exact ⟨Nat.le_of_not_lt low, Nat.le_of_not_lt high, heat⟩
    · obtain ⟨tens, high⟩ := steams has
      exact ⟨Decidable.not_not.mp tens, Nat.le_of_not_lt high⟩
  refine ⟨fun bad => ?range, fun right late => ?late, fun right timely => ?adjusts⟩
  case range =>
    by_cases parts : presence.toNat = 0 ∨ 8 ≤ presence.toNat
    · exact answered (adjustStep_wrong_parts (s := withEdit p c s) current under parts)
    · have refused : ¬ adjustmentOk step.action.heat (givenParts presence target n steam) = true := by
        rw [adjustmentOk_givenParts]
        rintro ⟨targets, times, steams⟩
        rcases bad with zero | bits | ⟨has, low | high | heat⟩ | ⟨has, zero⟩ | ⟨has, tens | high⟩
        · exact parts (.inl zero)
        · exact parts (.inr bits)
        · obtain ⟨low', -⟩ := targets has
          omega
        · obtain ⟨-, high', -⟩ := targets has
          omega
        · obtain ⟨-, -, heats⟩ := targets has
          exact heats heat
        · exact times has zero
        · obtain ⟨tens', -⟩ := steams has
          exact tens tens'
        · obtain ⟨-, high'⟩ := steams has
          omega
      exact answered ((given parts).trans (if_neg refused))
  case late =>
    obtain ⟨parts, fits⟩ := allowed right
    exact answered ((given parts).trans ((if_pos fits).trans (if_pos late)))
  case adjusts =>
    intro timed copy
    obtain ⟨parts, fits⟩ := allowed right
    have w := adjust_within c (givenParts presence target n steam) (withEdit p c s)
    have acts := (given parts).trans ((if_pos fits).trans (if_neg timely))
    rw [← withEdit_of_within w] at acts
    refine ⟨_, answered acts, ?_, adjust_queues c _ (withEdit p c s), within_of_withEdit w⟩
    have run := adjust_run c (givenParts presence target n steam) (withEdit p c s)
    rw [adjustRecord_givenParts (r := (withEdit p c s).runs.get c) current] at run
    exact run

end Sys2Proof.Machine
end

section
/-! SUPPORT. Thawing (R64): outside the condition of R64 a change leaves a cavity's timers unfrozen. -/

namespace Sys2Proof.Machine

/-- A timer is frozen or not as before. -/
def FlagKept (l : Load) (s t : State) : Prop := (t.timers.get l).frozen = (s.timers.get l).frozen

section
variable {l j : Load} {c : Cavity} {b : Bool} {s t : State}

theorem FlagKept.refl (l : Load) (s : State) : FlagKept l s s := rfl

theorem FlagKept.ite {p : Prop} [Decidable p] {u : State} (ht : FlagKept l s t) (hu : FlagKept l s u) :
    FlagKept l s (if p then t else u) := by
  split
  · exact ht
  · exact hu

theorem FlagKept.then_modTimer {f : Timer → Timer} (h : FlagKept l s t) (kept : ∀ x, (f x).frozen = x.frozen) :
    FlagKept l s (modTimer j f t) := by
  refine Eq.trans ?_ h
  rw [modTimer_timers, PerLoad.get_set]
  split
  · next e => rw [kept, e]
  · rfl

theorem FlagKept.then_request (h : FlagKept l s t) : FlagKept l s (request j t) :=
  ((OnlyGranted.then_grantDecision (.refl l (setStatus j .waiting t))).frozen_eq).trans h

theorem FlagKept.then_setInterval {i : Interval} {x : Option Nat} (h : FlagKept l s t) :
    FlagKept l s (setInterval j i x t) := h.then_modTimer (fun _ => rfl)

theorem FlagKept.then_startOn {n : Nat} (h : FlagKept l s t) : FlagKept l s (startOn j n t) :=
  h.then_setInterval.then_request

theorem FlagKept.then_beginOn (h : FlagKept l s t) : FlagKept l s (beginOn j t) :=
  .ite h.then_startOn (.ite h.then_setInterval h.then_setInterval)

theorem FlagKept.then_modPair {f : Pair → Pair} (h : FlagKept l s t) : FlagKept l s (modPair c f t) := h

theorem FlagKept.then_beginPair {x : PairPosition} (h : FlagKept l s t) : FlagKept l s (beginPair c x t) := by
  unfold beginPair
  extract_lets top bottom off turn turned
  refine .ite h.then_setInterval.then_setInterval.then_modPair ?_
  have turns : FlagKept l s turned := h
  clear_value turned turn
  split
  · exact turns.then_setInterval.then_startOn
  · exact turns.then_setInterval.then_startOn
  · exact turns.then_setInterval.then_setInterval

theorem FlagKept.then_wakePair (h : FlagKept l s t) : FlagKept l s (wakePair c t) := .ite h.then_beginPair h

/-- A thaw is the clearing of the timer's flag and work that keeps every flag (R64). -/
theorem thawTimer_flag (frozen : (s.timers.get j).frozen = true) (l : Load) :
    FlagKept l (modTimer j (fun t => { t with frozen := false }) s) (thawTimer j b s) := by
  unfold thawTimer
  extract_lets timer thawed
  rw [if_pos frozen]
  have here : FlagKept l thawed thawed := .refl l thawed
  split
  · exact here.then_setInterval.then_request
  · exact here.then_setInterval.then_request
  · exact here
  · exact .ite here.then_beginOn here

theorem thawTimer_self (l : Load) (b : Bool) (s : State) : ((thawTimer l b s).timers.get l).frozen = false := by
  by_cases frozen : (s.timers.get l).frozen = true
  · exact (thawTimer_flag frozen l).trans (by rw [modTimer_timers, PerLoad.get_set_self])
  · rw [thawTimer, if_neg frozen]
    exact Bool.eq_false_of_not_eq_true frozen

theorem thawTimer_of_thawed (j : Load) (b : Bool) (h : (s.timers.get l).frozen = false) :
    ((thawTimer j b s).timers.get l).frozen = false := by
  by_cases same : l = j
  · rw [same]
    exact thawTimer_self j b s
  · by_cases frozen : (s.timers.get j).frozen = true
    · exact (thawTimer_flag frozen l).trans (by rw [modTimer_timers, PerLoad.get_set_of_ne _ _ same, h])
    · rw [thawTimer, if_neg frozen, h]

/-- Thawing a cavity leaves none of its timers frozen (R64). -/
theorem thawCavity_thawed (mem : l ∈ [topOf c, bottomOf c, ringOf c]) (s : State) :
    ((thawCavity c s).timers.get l).frozen = false := by
  unfold thawCavity
  extract_lets paired thawed
  have wakes : ((wakePair c thawed).timers.get l).frozen = (thawed.timers.get l).frozen :=
    FlagKept.then_wakePair (.refl l thawed)
  simp only [List.mem_cons, List.not_mem_nil, or_false] at mem
  rcases mem with rfl | rfl | rfl
  · exact thawTimer_of_thawed _ _ (wakes.trans (thawTimer_of_thawed _ _ (thawTimer_self _ _ _)))
  · exact thawTimer_of_thawed _ _ (wakes.trans (thawTimer_self _ _ _))
  · exact thawTimer_self _ _ _

theorem syncFreeze_thawed (free : freezeCondition c s = false) (mem : l ∈ [topOf c, bottomOf c, ringOf c]) :
    ((syncFreeze c s).timers.get l).frozen = false := by
  rw [syncFreeze, free, if_neg (by decide)]
  split
  · exact thawCavity_thawed mem s
  · next thawed =>
    simp only [Bool.or_eq_true, not_or, Bool.not_eq_true] at thawed
    obtain ⟨⟨top, bottom⟩, ring⟩ := thawed
    simp only [List.mem_cons, List.not_mem_nil, or_false] at mem
    rcases mem with rfl | rfl | rfl
    · exact top
    · exact bottom
    · exact ring

/-- Outside the condition of R64 a change leaves a cavity's timers unfrozen. -/
theorem settle_thawed (free : freezeCondition c s = false) (mem : l ∈ [topOf c, bottomOf c, ringOf c]) :
    ((settle c s).timers.get l).frozen = false := by
  have w := settleClimate_within c s
  have same : freezeCondition c (settleClimate c s) = false := by
    rw [← free, freezeCondition, freezeCondition, w.runs_eq rfl, w.limitLatch_eq rfl]
  have work : SharedWork (syncFreeze c (settleClimate c s)) (settle c s) := .then_syncDemand (.refl _)
  exact (work.loads l (ne_genHeat_of_mem mem)).frozen_eq.trans (syncFreeze_thawed same mem)

end

end Sys2Proof.Machine
end

section
/-! SUPPORT. RESUME_RUN (R39): the state it was paused from, the deferred change, the overlays, and what they hand over. -/

namespace Sys2Proof.Machine

/-- The record of a run that leaves PAUSED, before the overlays (R39). -/
def backRun (r : Run) : Run :=
  { r with
    state := if r.pausedFrom = some .starved then .starved else .running
    pausedFrom := none, pauseReason := none, deferred := false }

/-- A record with the overlays that the inputs call for (R27, R39). -/
def withOverlays (c : Cavity) (s : State) (r : Run) : Run :=
  { r with
    doorSuspended := s.doorOpen.get c
    doorTime := if s.doorOpen.get c then some 0 else none
    mainsHeld := s.mains.low }

/-- The restart of the climate loop is owed to a run that carries steps (R55). -/
def oweRestart (c : Cavity) (s : State) : State :=
  if underway (s.runs.get c) then modClimate c (fun k => { k with restartOwed := true }) s else s

/-- The end of a resumption from the state in which its deferred change is made (R39), but for the feeder timeout. -/
def handBack (c : Cavity) (s : State) : State := settle c (oweRestart c (takeOverlays c s))

/-- The state in which a run has left PAUSED. -/
def unpaused (c : Cavity) (s : State) : State := modRun c backRun s

section
variable {c : Cavity} {r : Run} {s t v : State}

theorem resume_eq (c : Cavity) (s : State) :
    resume c s = feedCheck c (handBack c
      (if (s.runs.get c).deferred = true then makeDeferred c (unpaused c s) else unpaused c s)) := rfl

theorem backRun_state (r : Run) : (backRun r).state = .running ∨ (backRun r).state = .starved := by
  by_cases waited : r.pausedFrom = some .starved
  · exact .inr (if_pos waited)
  · exact .inl (if_neg waited)

theorem unpaused_run (c : Cavity) (s : State) : (unpaused c s).runs.get c = backRun (s.runs.get c) :=
  PerCavity.get_set_self _ _ _

theorem unpaused_within (c : Cavity) (s : State) : Within .run s (unpaused c s) :=
  (within_modRun c _ rfl).mpr (.refl _ s)

theorem takeOverlays_run (carries : (s.runs.get c).state = .running ∨ (s.runs.get c).state = .starved) :
    (takeOverlays c s).runs.get c = withOverlays c s (s.runs.get c) := by
  rw [takeOverlays, modRun_runs, PerCavity.get_set_self, if_pos carries]
  rfl

theorem oweRestart_runs (c : Cavity) (s : State) : (oweRestart c s).runs = s.runs := by
  unfold oweRestart
  split
  · rfl
  · rfl

theorem oweRestart_within (c : Cavity) (s : State) : Within { climates := true } s (oweRestart c s) := by
  unfold oweRestart
  split
  · exact (within_modClimate c _ rfl).mpr (.refl _ s)
  · exact .refl _ s

theorem handBack_within (c : Cavity) (s : State) : Within .run s (handBack c s) :=
  (((takeOverlays_within c s).mono rfl).trans ((oweRestart_within c _).mono rfl)).trans (settle_within c _)

theorem handBack_queues (c : Cavity) (s : State) : (handBack c s).queues = s.queues :=
  (settle_queues c _).trans (((oweRestart_within c _).queues_eq rfl).trans ((takeOverlays_within c s).queues_eq rfl))

/-- A run that carries steps takes up the overlays (R39). -/
theorem handBack_run (carries : (s.runs.get c).state = .running ∨ (s.runs.get c).state = .starved) :
    SameRun ((handBack c s).runs.get c) (withOverlays c s (s.runs.get c)) := by
  have settled := settle_run c (oweRestart c (takeOverlays c s))
  rwa [oweRestart_runs, takeOverlays_run carries] at settled

/-- A run that has ended takes up nothing (R39). -/
theorem handBack_of_ended (ended : (s.runs.get c).state = .finished) : handBack c s = settle c s := by
  have same : takeOverlays c s = s := by
    simp [takeOverlays, modRun, ended]
  rw [handBack, same, oweRestart, if_neg (by simp [underway, ended])]

/-- The overlays and the restart owed keep the entry to STARVED (R34, R39). -/
theorem EnteredStarved.then_handBack {f : Port} {q : StepQueue} (h : EnteredStarved c f r q s t) :
    EnteredStarved c f (withOverlays c t r) q s (handBack c t) := by
  have ⟨run, _⟩ := h
  have starved : (t.runs.get c).state = .starved := by
    rw [run.eq_with]
    rfl
  have told : SteamWork t (handBack c t) :=
    .then_settle (SteamWork.then_within (.then_within (.refl t) (takeOverlays_within c t) rfl) (oweRestart_within c _) rfl)
  refine h.then_kept ((handBack_run (.inr starved)).trans ?_) rfl ?_ (handBack_queues c t) told.codes
  · rw [run.eq_with]
    rfl
  · rw [handBack, settle_reached]
    unfold oweRestart
    split
    · rw [modClimate_climates, PerCavity.get_set_self]
      rfl
    · rfl

theorem feedCheck_in_time (h : (s.runs.get c).state = .starved →
    (s.runs.get c).starveTime.getD 0 < s.settings.feedTimeout * 10) : feedCheck c s = s := by
  rw [feedCheck]
  refine if_neg ?_
  rintro ⟨starved, late⟩
  exact absurd (h starved) (Nat.not_lt_of_le late)

theorem feedCheck_late (starved : (s.runs.get c).state = .starved)
    (late : s.settings.feedTimeout * 10 ≤ (s.runs.get c).starveTime.getD 0) :
    feedCheck c s = settle c (abortRun c .feedLost s) := by
  rw [feedCheck]
  exact if_pos ⟨starved, late⟩

theorem resumeRun_resumes (paused : (s.runs.get c).state = .paused) : resumeRun c s = (resume c s, .done, .none) := by
  rw [resumeRun, if_pos paused]
  rfl

theorem resumeRun_denied (other : (s.runs.get c).state ≠ .paused) : resumeRun c s = (s, .state, .none) := by
  rw [resumeRun, if_neg other]
  rfl

/-! ## What O31 says of a resumption -/

/-- The run of `s` has left PAUSED with the overlays of the inputs. -/
def Resumed (c : Cavity) (s u : State) : Prop :=
  (u.runs.get c).pausedFrom = none ∧ (u.runs.get c).pauseReason = none ∧ (u.runs.get c).deferred = false
    ∧ (u.runs.get c).doorSuspended = s.doorOpen.get c ∧ (u.runs.get c).mainsHeld = s.mains.low ∧ Within .run s u

/-- A resumption from the state `t` with a record that carries steps and has left PAUSED. -/
theorem handBack_resumed (w : Within .run s t) (run : t.runs.get c = r) (carries : r.state = .running ∨ r.state = .starved)
    (left : r.pausedFrom = none ∧ r.pauseReason = none ∧ r.deferred = false) :
    SameRun ((handBack c t).runs.get c) (withOverlays c s r) ∧ Resumed c s (handBack c t) := by
  subst run
  obtain ⟨pausedFrom, reason, deferred⟩ := left
  have same : SameRun ((handBack c t).runs.get c) (withOverlays c s (t.runs.get c)) := by
    have kept := handBack_run carries
    rwa [withOverlays, w.doorOpen_eq rfl, w.mains_eq rfl] at kept
  refine ⟨same, ?_⟩
  rw [Resumed, same.eq_with]
  exact ⟨pausedFrom, reason, deferred, rfl, rfl, w.trans (handBack_within c t)⟩

/-! ### Without a deferred answer -/

theorem resume_of_undeferred (undeferred : (s.runs.get c).deferred = false) :
    resume c s = feedCheck c (handBack c (unpaused c s)) := by
  rw [resume_eq, undeferred]
  rfl

theorem handBack_unpaused (c : Cavity) (s : State) :
    SameRun ((handBack c (unpaused c s)).runs.get c) (resumedRun c (s.runs.get c) s)
      ∧ Resumed c s (handBack c (unpaused c s)) :=
  handBack_resumed (unpaused_within c s) (unpaused_run c s) (backRun_state _) ⟨rfl, rfl, rfl⟩

/-- With the door closed and the limit latch clear the timers are thawed (R64). -/
theorem handBack_unpaused_thawed {l : Load} (door : s.doorOpen.get c = false) (limit : s.limitLatch.get c = false)
    (mem : l ∈ [topOf c, bottomOf c, ringOf c]) :
    ((handBack c (unpaused c s)).timers.get l).frozen = false := by
  refine settle_thawed ?_ mem
  have carries : ((unpaused c s).runs.get c).state = .running ∨ ((unpaused c s).runs.get c).state = .starved := by
    rw [unpaused_run]
    exact backRun_state _
  have run := takeOverlays_run carries
  have w : Within { runs := true, climates := true } s (oweRestart c (takeOverlays c (unpaused c s))) :=
    (((within_modRun c _ rfl).mpr (.refl _ s)).trans ((takeOverlays_within c _).mono rfl)).trans
      ((oweRestart_within c _).mono rfl)
  have shut : (withOverlays c (unpaused c s) ((unpaused c s).runs.get c)).doorSuspended = false := door
  have moving : (withOverlays c (unpaused c s) ((unpaused c s).runs.get c)).state ≠ .paused := by
    rcases carries with e | e
    all_goals
      rw [show (withOverlays c (unpaused c s) ((unpaused c s).runs.get c)).state = _ from e]
      decide
  rw [freezeCondition, oweRestart_runs, run, w.limitLatch_eq rfl, limit, shut, decide_eq_false moving]
  rfl

/-! ### With a deferred answer -/

theorem resume_of_deferred (deferred : (s.runs.get c).deferred = true) :
    resume c s = feedCheck c (handBack c (makeDeferred c (unpaused c s))) := by
  rw [resume_eq, if_pos deferred]

theorem backRun_of_running (h : r.pausedFrom = some .running) : (backRun r).state = .running := by
  rw [backRun, h]
  rfl

theorem makeDeferred_entry (phase : (s.runs.get c).phase = some .entryPrompt) :
    makeDeferred c (unpaused c s) = coreEntry c (approachTest c (unpaused c s)) := by
  have same : ((unpaused c s).runs.get c).phase = some .entryPrompt := by
    rw [unpaused_run]
    exact phase
  rw [makeDeferred, same]
  exact if_pos same

theorem makeDeferred_exit (phase : (s.runs.get c).phase = some .exitPrompt) :
    makeDeferred c (unpaused c s) = stepEnd c (unpaused c s) := by
  have same : ((unpaused c s).runs.get c).phase = some .exitPrompt := by
    rw [unpaused_run]
    exact phase
  rw [makeDeferred, same]

/-- ENTRY_PROMPT is left by the approach test (R29, R32). -/
theorem entryLeft_run {step : CurrentStep} (current : (s.runs.get c).current = some step) :
    ∃ core, (coreEntry c (approachTest c (unpaused c s))).runs.get c
      = { backRun (s.runs.get c) with phase := some (leftEntry step (cavityReading c s)), coreCond := core } := by
  have same : ((unpaused c s).runs.get c).current = some step := by
    rw [unpaused_run]
    exact current
  obtain ⟨core, run⟩ := coreEntry_run c (approachTest c (unpaused c s))
  rw [approachTest_runs same, PerCavity.get_set_self, unpaused_run] at run
  exact ⟨core, run⟩

theorem endsStep_unpaused (c : Cavity) (s : State) : EndsStep c (backRun (s.runs.get c)) s (unpaused c s) :=
  ⟨unpaused_run c s, rfl, rfl, unpaused_within c s⟩

/-- A deferred change that leaves the run RUNNING meets no feeder timeout (R34). -/
theorem resume_of_running (deferred : (s.runs.get c).deferred = true) (made : makeDeferred c (unpaused c s) = v)
    (running : ((handBack c v).runs.get c).state = .running) : resume c s = handBack c v := by
  rw [resume_of_deferred deferred, made,
    feedCheck_in_time (fun starved => absurd (running.symm.trans starved) (by decide))]

/-! ## The cases of R39 -/

/-- A resumption without a deferred answer, before the feeder timeout. -/
theorem resume_returns (undeferred : (s.runs.get c).deferred = false)
    (inTime : (s.runs.get c).pausedFrom = some .starved →
      (s.runs.get c).starveTime.getD 0 < s.settings.feedTimeout * 10) :
    resume c s = handBack c (unpaused c s) := by
  obtain ⟨run, -⟩ := handBack_unpaused c s
  have settings : (handBack c (unpaused c s)).settings = s.settings :=
    ((unpaused_within c s).trans (handBack_within c _)).settings_eq rfl
  refine (resume_of_undeferred undeferred).trans (feedCheck_in_time ?_)
  rw [settings, run.eq_with]
  intro starved
  refine inTime ?_
  by_contra other
  exact absurd (starved.symm.trans (if_neg other)) (by decide)

/-- A resumption at the feeder timeout aborts the run (R34). -/
theorem resume_aborts (undeferred : (s.runs.get c).deferred = false)
    (fromStarved : (s.runs.get c).pausedFrom = some .starved)
    (late : s.settings.feedTimeout * 10 ≤ (s.runs.get c).starveTime.getD 0) :
    SameRun ((resume c s).runs.get c) (abortedRun (s.runs.get c) .feedLost)
      ∧ (resume c s).queues.get c = emptied (s.queues.get c) ∧ (resume c s).prompts.get (cavityOwner c) = none := by
  obtain ⟨run, -⟩ := handBack_unpaused c s
  have settings : (handBack c (unpaused c s)).settings = s.settings :=
    ((unpaused_within c s).trans (handBack_within c _)).settings_eq rfl
  have fields := run.eq_with
  obtain ⟨ended, prompt⟩ := settle_abortRun c .feedLost (handBack c (unpaused c s))
  rw [resume_of_undeferred undeferred,
    feedCheck_late (by rw [fields]; exact if_pos fromStarved) (by rw [fields, settings]; exact late)]
  refine ⟨?_, ?_, prompt⟩
  · rw [ended.run, fields]
    rfl
  · rw [ended.queue, handBack_queues]
    rfl

section
variable (deferred : (s.runs.get c).deferred = true) (fromRunning : (s.runs.get c).pausedFrom = some .running)
include deferred fromRunning

/-- A resumption with a deferred BEFORE answer leaves ENTRY_PROMPT (R29, R32). -/
theorem resume_leavesEntry {step : CurrentStep} (phase : (s.runs.get c).phase = some .entryPrompt)
    (current : (s.runs.get c).current = some step) :
    Resumed c s (resume c s) ∧ ((resume c s).runs.get c).state = .running
      ∧ ((resume c s).runs.get c).current = (s.runs.get c).current
      ∧ ((resume c s).runs.get c).remaining = (s.runs.get c).remaining
      ∧ ((resume c s).runs.get c).phase = some (leftEntry step (cavityReading c s)) ∧ (resume c s).queues = s.queues := by
  obtain ⟨core, run⟩ := entryLeft_run (s := s) current
  have w : Within .run s (coreEntry c (approachTest c (unpaused c s))) :=
    ((unpaused_within c s).trans ((approachTest_within c _).mono rfl)).trans (coreEntry_within c _)
  have back := backRun_of_running fromRunning
  obtain ⟨same, returned⟩ := handBack_resumed w run (.inl back) ⟨rfl, rfl, rfl⟩
  have fields := same.eq_with
  have running : ((handBack c (coreEntry c (approachTest c (unpaused c s)))).runs.get c).state = .running := by
    rw [fields]
    exact back
  rw [resume_of_running deferred (makeDeferred_entry phase) running]
  refine ⟨returned, running, ?_, ?_, ?_,
    (handBack_queues c _).trans ((coreEntry_queues c _).trans ((approachTest_within c _).queues_eq rfl))⟩
  all_goals
    rw [fields]
    rfl

/-- A resumption with a deferred AFTER answer enters the step that the walk reaches (R33). -/
theorem resume_entersNext {load : Nat} {a : Action} (phase : (s.runs.get c).phase = some .exitPrompt)
    (reaches : WalkReaches load a (s.queues.get c)) :
    Resumed c s (resume c s)
      ∧ EnteredStep load a s.settings.approachBand (cavityReading c s) ((resume c s).runs.get c) := by
  obtain ⟨⟨found, q'⟩, walks, rfl⟩ := Option.map_eq_some_iff.mp reaches
  have ends := endsStep_unpaused c s
  have back := backRun_of_running fromRunning
  obtain ⟨reader, opened, core, denial, run⟩ := ends.entered walks
  obtain ⟨same, returned⟩ := handBack_resumed (ends.within.trans (stepEnd_within c _)) run (.inl back) ⟨rfl, rfl, rfl⟩
  have step : EnteredStep load a s.settings.approachBand (cavityReading c s)
      ((handBack c (stepEnd c (unpaused c s))).runs.get c) := by
    rw [same.eq_with]
    exact enteredStep_of_phase back rfl rfl rfl
  have ⟨running, _⟩ := step
  rw [resume_of_running deferred (makeDeferred_exit phase) running]
  exact ⟨returned, step⟩

omit fromRunning

/-- A resumption with a deferred AFTER answer finishes a closed run without a further ACTION record (R33). -/
theorem resume_finishes {q' : StepQueue} (phase : (s.runs.get c).phase = some .exitPrompt)
    (idle : (s.runs.get c).reader = none) (closed : isClosed (s.runs.get c) = true)
    (walks : walked walkLimit (s.queues.get c) = some (none, q')) : FinishedRun c s (resume c s) := by
  have finished := (endsStep_unpaused c s).finished idle closed rfl walks
  have ⟨run, _⟩ := finished
  have settled : ((settle c (stepEnd c (unpaused c s))).runs.get c).state = .finished := congrArg Run.state run
  have ended : ((stepEnd c (unpaused c s)).runs.get c).state = .finished :=
    (congrArg Run.state (settle_run c (stepEnd c (unpaused c s)))).symm.trans settled
  rwa [resume_of_deferred deferred, makeDeferred_exit phase, handBack_of_ended ended,
    feedCheck_in_time (fun starved => absurd (settled.symm.trans starved) (by decide))]

/-- A resumption with a deferred AFTER answer leaves an open streamed run without a further ACTION record STARVED (R34). -/
theorem resume_starves {q' : StepQueue} {f : Port} (phase : (s.runs.get c).phase = some .exitPrompt)
    (idle : (s.runs.get c).reader = none) (unclosed : isClosed (s.runs.get c) = false)
    (feeder : feederOf (s.runs.get c) = some f) (patient : 0 < s.settings.feedTimeout)
    (walks : walked walkLimit (s.queues.get c) = some (none, q')) :
    EnteredStarved c f (resumedRun c (s.runs.get c) s) q' s (resume c s) := by
  have ends := endsStep_unpaused c s
  have step : Within .run s (stepEnd c (unpaused c s)) := ends.within.trans (stepEnd_within c _)
  have starved := (ends.starved idle unclosed feeder walks).then_handBack
  rw [withOverlays, step.doorOpen_eq rfl, step.mains_eq rfl] at starved
  have ⟨run, _⟩ := starved
  have inTime : ((handBack c (stepEnd c (unpaused c s))).runs.get c).starveTime.getD 0
      < (handBack c (stepEnd c (unpaused c s))).settings.feedTimeout * 10 := by
    rw [run.eq_with, (step.trans (handBack_within c _)).settings_eq rfl]
    exact Nat.mul_pos patient (by decide)
  rw [resume_of_deferred deferred, makeDeferred_exit phase, feedCheck_in_time (fun _ => inTime)]
  exact starved

end

end

/-- Settles O31, case by case of R39. -/
theorem resumeRunReturnsToItsState : Obligations.ResumeRunReturnsToItsState := by
  unfold Obligations.ResumeRunReturnsToItsState
  intro p q b c s accepts cavity r resumed
  have answered (paused : r.state = .paused) :
      exec (.resumeRun p q b) s = .next (replied p q 0x16 .done .none (resume c s)) :=
    cavityOrder_answered q 0x16 accepts cavity (resumeRun_resumes paused)
  refine ⟨fun other => cavityOrder_answered q 0x16 accepts cavity (resumeRun_denied other),
    fun paused undeferred inTime => ?returns, fun paused deferred fromRunning =>
      ⟨fun step phase current => ⟨_, answered paused, resume_leavesEntry deferred fromRunning phase current⟩,
        fun load a phase reaches => ⟨_, answered paused, resume_entersNext deferred fromRunning phase reaches⟩,
        fun q' phase idle closed walks =>
          ⟨_, answered paused, resume_finishes deferred phase idle closed walks, resume_within c s⟩,
        fun q' f phase idle unclosed feeder patient walks => ⟨_, answered paused,
          resume_starves deferred phase idle unclosed feeder patient walks, resume_within c s⟩⟩,
    fun paused undeferred fromStarved late => ?aborts⟩
  case returns =>
    obtain ⟨run, returned⟩ := handBack_unpaused c s
    have acts := answered paused
    rw [resume_returns undeferred inTime] at acts
    have fields := run.eq_with
    refine ⟨_, acts, returned, ?_, ?_, ?_, ?_, fun door limit l mem => handBack_unpaused_thawed door limit mem,
      handBack_queues c _⟩
    all_goals
      rw [fields]
      rfl
  case aborts =>
    obtain ⟨run, queue, prompt⟩ := resume_aborts undeferred fromStarved late
    exact ⟨_, answered paused, run, queue, prompt, resume_within c s⟩

end Sys2Proof.Machine
end

section
/-! SUPPORT. SET_WATCH and CLEAR_WATCH (R70): their checks, and the slot written. -/

namespace Sys2Proof.Machine

section
variable {slot source relation action : Byte} {value : Half} {c : Cavity} {s : State}

/-- A byte above the codes that a list names is none of them. -/
theorem ne_of_code_lt {b : Byte} (k : Byte) (h : k.toNat < b.toNat) : b ≠ k := by
  rintro rfl
  exact Nat.lt_irrefl _ h

theorem watchSourceOf?_of_beyond (h : 1 < source.toNat) : watchSourceOf? source = none := by
  rw [watchSourceOf?, if_neg (ne_of_code_lt 0 (Nat.zero_lt_of_lt h)), if_neg (ne_of_code_lt 1 h)]

theorem watchRelationOf?_of_beyond (h : 1 < relation.toNat) : watchRelationOf? relation = none := by
  rw [watchRelationOf?, if_neg (ne_of_code_lt 0 (Nat.zero_lt_of_lt h)), if_neg (ne_of_code_lt 1 h)]

theorem watchActionOf?_of_beyond (h : 2 < action.toNat) : watchActionOf? action = none := by
  rw [watchActionOf?, if_neg (ne_of_code_lt 0 (Nat.zero_lt_of_lt h)), if_neg (ne_of_code_lt 1 (Nat.lt_of_succ_lt h)),
    if_neg (ne_of_code_lt 2 h)]

theorem watchSlotOk_iff : watchSlotOk slot = true ↔ slot = 1 ∨ slot = 2 := by rw [watchSlotOk, decide_eq_true_iff]

/-- A watch within its values is put in the slot, armed (R70). -/
theorem setWatch_done {x : WatchSource} {y : WatchRelation} {z : WatchAction} (named : slot = 1 ∨ slot = 2)
    (hx : watchSourceOf? source = some x) (hy : watchRelationOf? relation = some y)
    (hz : watchActionOf? action = some z) (fits : value.toNat ≤ watchMax x) :
    setWatch slot source relation value action c s
      = (modClimate c (setWatchSlot slot.toNat (some
          { source := x, relation := y, value := value.toNat, action := z, armed := true })) s, .done, .none) := by
  simp only [setWatch, hx, hy, hz]
  exact if_pos ⟨watchSlotOk_iff.mpr named, fits⟩

/-- A watch outside its values, or for a slot that is none, is refused (R70). -/
theorem setWatch_range (wrong : ∀ x y z, watchSourceOf? source = some x → watchRelationOf? relation = some y →
      watchActionOf? action = some z → ¬ (watchSlotOk slot = true ∧ value.toNat ≤ watchMax x)) :
    setWatch slot source relation value action c s = (s, .range, .none) := by
  unfold setWatch
  split
  · next x y z hx hy hz => exact if_neg (wrong x y z hx hy hz)
  · rfl

theorem clearWatch_done (named : slot = 1 ∨ slot = 2) :
    clearWatch slot c s = (modClimate c (setWatchSlot slot.toNat none) s, .done, .none) :=
  if_pos (watchSlotOk_iff.mpr named)

theorem clearWatch_range (unnamed : ¬ (slot = 1 ∨ slot = 2)) : clearWatch slot c s = (s, .range, .none) :=
  if_neg (fun ok => unnamed (watchSlotOk_iff.mp ok))

/-- A value outside its list, or beyond the greatest of its source, is refused (R70). -/
theorem setWatch_range_of_beyond
    (wrong : 1 < source.toNat ∨ 1 < relation.toNat ∨ 2 < action.toNat ∨ (source = 0 ∧ 300 < value.toNat)
      ∨ (source = 1 ∧ 120 < value.toNat)) :
    setWatch slot source relation value action c s = (s, .range, .none) := by
  refine setWatch_range fun x y z hx hy hz ⟨_, fits⟩ => ?_
  rcases wrong with beyond | beyond | beyond | ⟨rfl, beyond⟩ | ⟨rfl, beyond⟩
  · exact absurd ((watchSourceOf?_of_beyond beyond).symm.trans hx) nofun
  · exact absurd ((watchRelationOf?_of_beyond beyond).symm.trans hy) nofun
  · exact absurd ((watchActionOf?_of_beyond beyond).symm.trans hz) nofun
  · obtain rfl : WatchSource.cavity = x := Option.some.inj hx
    exact Nat.not_lt_of_le fits beyond
  · obtain rfl : WatchSource.core = x := Option.some.inj hx
    exact Nat.not_lt_of_le fits beyond

/-- The slot that a byte names. -/
theorem setWatchSlot_of_named (named : slot = 1 ∨ slot = 2) (w : Option Watch) (k : Climate) :
    setWatchSlot slot.toNat w k = if slot = 1 then { k with watch1 := w } else { k with watch2 := w } := by
  rcases named with rfl | rfl
  · rfl
  · rfl

end

/-- Settles O36, order by order: each writes the slot named, and refuses what is outside the values of R70. -/
theorem watchOrdersWriteTheirSlot : Obligations.WatchOrdersWriteTheirSlot := by
  unfold Obligations.WatchOrdersWriteTheirSlot
  intro p q b slot src rel v act c k s accepts cavity hold holder held put
  have puts (named : slot = 1 ∨ slot = 2) (w : Option Watch) :
      modClimate c (setWatchSlot slot.toNat w) (withEdit p c s) = put w := by
    rw [modClimate, setWatchSlot_of_named named]
    rfl
  refine ⟨fun named => ⟨fun x y z hx hy hz fits => ?sets, ?clears⟩, fun first second => ⟨?setsNone, ?clearsNone⟩,
    fun wrong => editOrder_answered q 0x1C accepts cavity hold holder (setWatch_range_of_beyond wrong)⟩
  case sets =>
    have fits : v.toNat ≤ watchMax x := by
      cases x
      · exact fits
      · exact fits
    rw [← puts named]
    exact editOrder_answered q 0x1C accepts cavity hold holder (setWatch_done named hx hy hz fits)
  case clears =>
    rw [← puts named]
    exact editOrder_answered q 0x1D accepts cavity hold holder (clearWatch_done named)
  case setsNone =>
    refine editOrder_answered q 0x1C accepts cavity hold holder (setWatch_range fun _ _ _ _ _ _ ⟨ok, _⟩ => ?_)
    exact (watchSlotOk_iff.mp ok).elim first second
  case clearsNone =>
    exact editOrder_answered q 0x1D accepts cavity hold holder (clearWatch_range fun named => named.elim first second)

end Sys2Proof.Machine
end

section
/-! SUPPORT. The holds of a drive timer (R61): what writes them, and what keeps them. -/

namespace Sys2Proof.Machine

/-- A timer's holds are as they were. -/
def HoldsKept (l : Load) (s t : State) : Prop := holdsOf l t = holdsOf l s

theorem topOf_ne_bottomOf (c : Cavity) : topOf c ≠ bottomOf c := by cases c <;> decide
theorem topOf_ne_ringOf (c : Cavity) : topOf c ≠ ringOf c := by cases c <;> decide
theorem bottomOf_ne_ringOf (c : Cavity) : bottomOf c ≠ ringOf c := by cases c <;> decide

section
variable {l j : Load} {c : Cavity} {s t u : State}

theorem HoldsKept.refl (l : Load) (s : State) : HoldsKept l s s := rfl

theorem HoldsKept.ite {p : Prop} [Decidable p] (ht : HoldsKept l s t) (hu : HoldsKept l s u) :
    HoldsKept l s (if p then t else u) := by
  split
  · exact ht
  · exact hu

/-- A grant writes no hold. -/
theorem OnlyGranted.holdsKept (h : OnlyGranted l s t) : HoldsKept l s t := by
  rcases h with ⟨timer, -⟩ | ⟨-, -, timer⟩
  · rw [HoldsKept, holdsOf, holdsOf, timer]
  · rw [HoldsKept, holdsOf, holdsOf, timer]

/-- An operation that reaches no drive timer. -/
theorem HoldsKept.then_within {g : Parts} (h : HoldsKept l s t) (w : Within g t u) (k : g.timers = false) :
    HoldsKept l s u := by
  refine Eq.trans ?_ h
  rw [holdsOf, holdsOf, w.timers_eq k]

theorem HoldsKept.then_modTimer {f : Timer → Timer} (h : HoldsKept l s t)
    (k : ∀ x, (f x).on = x.on ∧ (f x).off = x.off) : HoldsKept l s (modTimer j f t) := by
  refine Eq.trans ?_ h
  rw [holdsOf, holdsOf, modTimer_timers, PerLoad.get_set]
  split
  · next e =>
    obtain ⟨on, off⟩ := k (t.timers.get j)
    rw [on, off, e]
  · rfl

theorem HoldsKept.then_setInterval {i : Interval} {x : Option Nat} (h : HoldsKept l s t) :
    HoldsKept l s (setInterval j i x t) := h.then_modTimer (fun _ => ⟨rfl, rfl⟩)

theorem HoldsKept.then_grantDecision (h : HoldsKept l s t) : HoldsKept l s (grantDecision t) :=
  ((OnlyGranted.refl l t).then_grantDecision.holdsKept).trans h

theorem HoldsKept.then_request (h : HoldsKept l s t) : HoldsKept l s (request j t) :=
  HoldsKept.then_grantDecision (t := setStatus j .waiting t) h

theorem HoldsKept.then_leave (h : HoldsKept l s t) : HoldsKept l s (leave j t) :=
  .ite h (HoldsKept.then_grantDecision (t := setStatus j .none t) h)

theorem HoldsKept.then_startOn {n : Nat} (h : HoldsKept l s t) : HoldsKept l s (startOn j n t) :=
  h.then_setInterval.then_request

theorem HoldsKept.then_beginOn (h : HoldsKept l s t) : HoldsKept l s (beginOn j t) :=
  .ite h.then_startOn (.ite h.then_setInterval h.then_setInterval)

theorem HoldsKept.then_modPair {f : Pair → Pair} (h : HoldsKept l s t) : HoldsKept l s (modPair c f t) := h

theorem HoldsKept.then_beginPair {x : PairPosition} (h : HoldsKept l s t) : HoldsKept l s (beginPair c x t) := by
  unfold beginPair
  extract_lets top bottom off turn turned
  refine .ite h.then_setInterval.then_setInterval.then_modPair ?_
  have turns : HoldsKept l s turned := h
  clear_value turned turn
  split
  · exact turns.then_setInterval.then_startOn
  · exact turns.then_setInterval.then_startOn
  · exact turns.then_setInterval.then_setInterval

theorem HoldsKept.then_wakePair (h : HoldsKept l s t) : HoldsKept l s (wakePair c t) := .ite h.then_beginPair h

/-! ## Writing holds (R61, R63) -/

variable {m n : Nat}

theorem holdsOf_setHolds (l : Load) (m n : Nat) (s : State) : holdsOf l (setHolds l m n s) = (m, n) := by
  rw [holdsOf, setHolds, modTimer_timers, PerLoad.get_set_self]

theorem holdsOf_writeHolds (l : Load) (m n : Nat) (s : State) : holdsOf l (writeHolds l m n s) = (m, n) := by
  have written : HoldsKept l (setHolds l m n s) (setHolds l m n s) := .refl l _
  have kept : HoldsKept l (setHolds l m n s) (writeHolds l m n s) := .ite written.then_beginOn written
  exact kept.trans (holdsOf_setHolds l m n s)

theorem holdsOf_stopTimer (l : Load) (s : State) : holdsOf l (stopTimer l s) = (0, 0) := by
  have kept : HoldsKept l (setHolds l 0 0 s) (stopTimer l s) := (HoldsKept.refl l _).then_setInterval.then_leave
  exact kept.trans (holdsOf_setHolds l 0 0 s)

theorem HoldsKept.then_writeHolds (h : HoldsKept l s t) (ne : l ≠ j) : HoldsKept l s (writeHolds j m n t) :=
  (((OnlyGranted.refl l t).then_writeHolds ne).holdsKept).trans h

theorem HoldsKept.then_setHolds (h : HoldsKept l s t) (ne : l ≠ j) : HoldsKept l s (setHolds j m n t) :=
  (((OnlyGranted.refl l t).then_setHolds ne).holdsKept).trans h

/-! ## Leaving and asking for power (R75, R76) -/

/-- A load in neither set asks for nothing: an operation on others leaves it. -/
theorem OnlyGranted.of_none (h : OnlyGranted l s t) (none : s.arbiter.get l = .none) :
    t.timers.get l = s.timers.get l ∧ t.arbiter.get l = .none := by
  rcases h with ⟨timer, status⟩ | ⟨waits, -, -⟩
  · exact ⟨timer, status.trans none⟩
  · exact absurd (none.symm.trans waits) (by decide)

/-- A load that leaves is in neither set, its timer as it was. -/
theorem leave_self (l : Load) (s : State) :
    (leave l s).timers.get l = s.timers.get l ∧ (leave l s).arbiter.get l = .none := by
  unfold leave
  split
  · next none => exact ⟨rfl, none⟩
  · have out : (setStatus l .none s).arbiter.get l = .none := PerLoad.get_set_self _ _ _
    exact (OnlyGranted.refl l (setStatus l .none s)).then_grantDecision.of_none out

/-- The start of an ON interval: the load waits for its grant, or has it at once (R61, R62, R75). -/
theorem startOn_onTheWay (l : Load) (n : Nat) (s : State) : OnTheWay l n (startOn l n s) := by
  have timer : (setStatus l .waiting (setInterval l .waiting (some n) s)).timers.get l
      = { s.timers.get l with interval := .waiting, remaining := some n } := PerLoad.get_set_self _ _ _
  have status : (setStatus l .waiting (setInterval l .waiting (some n) s)).arbiter.get l = .waiting :=
    PerLoad.get_set_self _ _ _
  rcases (OnlyGranted.refl l (setStatus l .waiting (setInterval l .waiting (some n) s))).then_grantDecision with
    ⟨timer', status'⟩ | ⟨-, granted, timer'⟩
  · rw [timer] at timer'
    rw [status] at status'
    rw [OnTheWay, startOn, request, timer']
    exact ⟨rfl, .inl ⟨status', rfl⟩⟩
  · rw [timer] at timer'
    rw [OnTheWay, startOn, request, timer']
    exact ⟨rfl, .inr ⟨granted, rfl⟩⟩

end

end Sys2Proof.Machine
end

section
/-! SUPPORT. The heat demand (R58): a percentage by division, and the demand it gives. -/

namespace Sys2Proof.Machine

/-- The demand of a step in a difference `diff` in hundredths of °C (R58): the percentage is the difference over the band,
a half rounded upward, and with the bias the demand is limited to 0 to 100. -/
theorem demandPercent_spec {band : Nat} (bias setpoint reading : Nat) (pos : 0 < band) :
    ∃ percent : Int, 2 * band * percent ≤ 2 * ((setpoint : Int) - 10 * reading) + band
      ∧ 2 * ((setpoint : Int) - 10 * reading) + band < 2 * band * (percent + 1)
      ∧ (demandPercent band bias setpoint reading : Int) = max 0 (min 100 (percent + bias)) := by
  have wide : (0 : Int) < 2 * band := by omega
  refine ⟨_, Int.mul_ediv_self_le wide.ne', ?_, ?_⟩
  · rw [Int.mul_add, Int.mul_one]
    exact Int.lt_mul_ediv_self_add wide
  · rw [demandPercent]
    omega

theorem demandPercent_le (band bias setpoint reading : Nat) : demandPercent band bias setpoint reading ≤ 100 :=
  Nat.min_le_left _ _

/-- At or above the setpoint, without a bias, nothing is asked for (R58). -/
theorem demandPercent_eq_zero {setpoint reading : Nat} (band : Nat) (h : setpoint ≤ 10 * reading) :
    demandPercent band 0 setpoint reading = 0 := by
  have low : (2 * ((setpoint : Int) - 10 * reading) + band) / (2 * band) ≤ 0 := by
    rcases Nat.eq_zero_or_pos band with rfl | pos
    · simp
    · exact Int.le_of_lt_add_one (Int.ediv_lt_of_lt_mul (by omega) (by omega))
  rw [demandPercent]
  omega

end Sys2Proof.Machine
end

section
/-! SUPPORT. The regulation update (R52): the setpoint's movement (R54), the demand (R58), the holds (R59, R60). -/

namespace Sys2Proof.Machine

section
variable {l : Load} {c : Cavity} {s t : State} {d : Nat} {step : CurrentStep} {goal : Nat}

/-! ## The setpoint -/

/-- One movement of the setpoint (R54), branch by branch. -/
theorem moveSetpoint_moved (step : CurrentStep) (goal : Nat) (l : Loop) :
    SetpointMoved step goal l (moveSetpoint goal step.action.ramp l) := by
  unfold SetpointMoved
  intro sum
  unfold moveSetpoint
  extract_lets goal'
  have goals : goal' = goal * 100 := rfl
  split
  · next below =>
    split
    · next ends => exact ⟨rfl, rfl, by omega, fun _ => by dsimp only; omega, by omega, fun _ => rfl⟩
    · next short =>
      exact ⟨rfl, rfl, by omega, fun _ => by dsimp only; omega, by omega, fun _ => (if_neg (by dsimp only; omega)).symm⟩
  · split
    · next above =>
      split
      · next ends => exact ⟨rfl, rfl, by omega, by omega, fun _ => by dsimp only; omega, fun _ => rfl⟩
      · next short =>
        exact ⟨rfl, rfl, by omega, by omega, fun _ => by dsimp only; omega,
          fun _ => (if_neg (by dsimp only; omega)).symm⟩
    · next there => exact ⟨rfl, rfl, fun _ => rfl, by omega, by omega, by omega⟩

theorem stepSetpoint_of_target (current : (s.runs.get c).current = some step) (target : step.action.target = some goal) :
    stepSetpoint c s = modClimate c (fun k => { k with loop := k.loop.map (moveSetpoint goal step.action.ramp) }) s := by
  simp only [stepSetpoint, current, target]

theorem stepSetpoint_of_no_target (current : (s.runs.get c).current = some step) (target : step.action.target = none) :
    stepSetpoint c s = s := by
  simp only [stepSetpoint, current, target]

/-! ## The holds -/

/-- The holds of an element at a demand: 2D and 200 less 2D in use, 0 / 0 out of use (R59). -/
def elementHolds (used : Bool) (d : Nat) : Nat × Nat := if used then (2 * d, 200 - 2 * d) else (0, 0)

theorem elementHolds_used (d : Nat) : elementHolds true d = (2 * d, 200 - 2 * d) := rfl
theorem elementHolds_unused (d : Nat) : elementHolds false d = (0, 0) := rfl

section
variable {h : HeatMode}

theorem usesRing_iff : usesRing h = true ↔ h = .ring ∨ h = .ringBottom := by cases h <;> decide

/-- The modes that drive the top element on its own holds, and those that leave it off (R59). -/
theorem usesTop_of_mode (mode : h = .topBottom ∨ h = .top) : h ≠ .alternate ∧ usesTop h = true := by
  revert mode
  cases h <;> decide

theorem not_usesTop_of_mode (mode : h ∈ [.noHeat, .ring, .bottom, .ringBottom]) :
    h ≠ .alternate ∧ usesTop h = false := by
  revert mode
  cases h <;> decide

/-- The modes that drive the bottom element on its own holds, and those that leave it off (R59). -/
theorem usesBottom_of_mode (mode : h ∈ [.topBottom, .bottom, .ringBottom]) : h ≠ .alternate ∧ usesBottom h = true := by
  revert mode
  cases h <;> decide

theorem not_usesBottom_of_mode (mode : h ∈ [.noHeat, .ring, .top]) : h ≠ .alternate ∧ usesBottom h = false := by
  revert mode
  cases h <;> decide

end

theorem holdsOf_writeElement (l : Load) (used : Bool) (d : Nat) (s : State) :
    holdsOf l (writeElement l used d s) = elementHolds used d := by
  unfold writeElement elementHolds
  split
  · exact holdsOf_writeHolds _ _ _ _
  · exact holdsOf_writeHolds _ _ _ _

theorem HoldsKept.then_writeElement {j : Load} {used : Bool} (h : HoldsKept l s t) (ne : l ≠ j) :
    HoldsKept l s (writeElement j used d t) := .ite (h.then_writeHolds ne) (h.then_writeHolds ne)

theorem beginPair_offHold (c : Cavity) (x : PairPosition) (s : State) :
    ((beginPair c x s).pairs.get c).offHold = (s.pairs.get c).offHold := by
  unfold beginPair
  extract_lets top bottom off turn turned
  have placed : (turned.pairs.get c).offHold = (s.pairs.get c).offHold := by
    rw [modPair_pairs, PerCavity.get_set_self]
  clear_value turned turn
  split
  · rw [modPair_pairs, PerCavity.get_set_self]
    rfl
  · rw [← placed]
    split
    · rw [(startOn_within _ _ _).pairs_eq rfl]
      rfl
    · rw [(startOn_within _ _ _).pairs_eq rfl]
      rfl
    · rfl

/-- Writing a pair's holds (R60): the members' own OFF holds are 0 (log 47). -/
theorem writePair_holds (c : Cavity) (m n : Nat) (s : State) :
    holdsOf (topOf c) (writePair c m n s) = (m, 0) ∧ holdsOf (bottomOf c) (writePair c m n s) = (m, 0)
      ∧ ((writePair c m n s).pairs.get c).offHold = n := by
  unfold writePair
  refine ⟨?_, ?_, ?_⟩
  · exact (HoldsKept.then_wakePair (.then_modPair (.refl _ _))).trans (holdsOf_setHolds _ _ _ _)
  · exact (HoldsKept.then_wakePair (.then_modPair (.then_setHolds (.refl _ _) (topOf_ne_bottomOf c).symm))).trans
      (holdsOf_setHolds _ _ _ _)
  · unfold wakePair
    split
    · rw [beginPair_offHold, modPair_pairs, PerCavity.get_set_self]
    · rw [modPair_pairs, PerCavity.get_set_self]

/-- The elements' holds at a demand, by the heat mode (R59, R60). -/
structure ElementsWritten (c : Cavity) (h : HeatMode) (d : Nat) (t : State) : Prop where
  ring : holdsOf (ringOf c) t = elementHolds (usesRing h) d
  top : h ≠ .alternate → holdsOf (topOf c) t = elementHolds (usesTop h) d
  bottom : h ≠ .alternate → holdsOf (bottomOf c) t = elementHolds (usesBottom h) d
  pair : h = .alternate → holdsOf (topOf c) t = (2 * d, 0) ∧ holdsOf (bottomOf c) t = (2 * d, 0)
    ∧ (t.pairs.get c).offHold = 400 - 4 * d

theorem writeElements_written (c : Cavity) (h : HeatMode) (d : Nat) (s : State) :
    ElementsWritten c h d (writeElements c h d s) := by
  unfold writeElements
  extract_lets written
  have last : ∀ j, j ≠ ringOf c → HoldsKept j written (writeElement (ringOf c) (usesRing h) d written) :=
    fun j ne => .then_writeElement (.refl j _) ne
  refine ⟨holdsOf_writeElement _ _ _ _, fun single => ?_, fun single => ?_, fun paired => ?_⟩
  · have two : written = writeElement (bottomOf c) (usesBottom h) d (writeElement (topOf c) (usesTop h) d s) :=
      if_neg single
    have kept : HoldsKept (topOf c) (writeElement (topOf c) (usesTop h) d s) written := by
      rw [two]
      exact .then_writeElement (.refl _ _) (topOf_ne_bottomOf c)
    exact ((last _ (topOf_ne_ringOf c)).trans kept).trans (holdsOf_writeElement _ _ _ _)
  · have two : written = writeElement (bottomOf c) (usesBottom h) d (writeElement (topOf c) (usesTop h) d s) :=
      if_neg single
    refine (last _ (bottomOf_ne_ringOf c)).trans ?_
    rw [two]
    exact holdsOf_writeElement _ _ _ _
  · have pair : written = writePair c (2 * d) (400 - 4 * d) s := if_pos paired
    obtain ⟨top, bottom, off⟩ := writePair_holds c (2 * d) (400 - 4 * d) s
    rw [← pair] at top bottom off
    refine ⟨(last _ (topOf_ne_ringOf c)).trans top, (last _ (bottomOf_ne_ringOf c)).trans bottom, ?_⟩
    rw [(writeElement_within _ _ _ _).pairs_eq rfl, off]

/-! ## The demand -/

/-- What a demand computation writes (R52, R58, R59, R60): the demand `d` and its holds. -/
structure DemandWritten (c : Cavity) (h : HeatMode) (d : Nat) (s t : State) : Prop where
  climate : t.climates.get c = { s.climates.get c with demand := d, updateTime := some 0 }
  elements : ElementsWritten c h d t

theorem demandComputation_written (current : (s.runs.get c).current = some step) :
    DemandWritten c step.action.heat (heatDemand c s) s (demandComputation c s) := by
  unfold demandComputation
  split
  · next none => exact absurd (current.symm.trans none) nofun
  · next step' same =>
    obtain rfl := Option.some.inj (current.symm.trans same)
    extract_lets d
    refine ⟨?_, writeElements_written c _ d _⟩
    rw [(writeElements_within c _ d _).climates_eq rfl, modClimate_climates, PerCavity.get_set_self]

/-- A step without heat, or cooling before its approach, asks for nothing (R58). -/
theorem heatDemand_eq_zero {loop : Loop} (current : (s.runs.get c).current = some step)
    (looped : (s.climates.get c).loop = some loop)
    (calm : step.action.heat = .noHeat ∨ (loop.case = .cooling ∧ loop.reached = false)) : heatDemand c s = 0 := by
  simp only [heatDemand, current, looped]
  rcases calm with none | cooling
  · exact if_pos none
  · rw [if_pos cooling, ite_self]

theorem heatDemand_of_noHeat (current : (s.runs.get c).current = some step) (none : step.action.heat = .noHeat) :
    heatDemand c s = 0 := by
  unfold heatDemand
  rw [current]
  cases (s.climates.get c).loop with
  | none => rfl
  | some loop => exact if_pos none

theorem heatDemand_eq {loop : Loop} (current : (s.runs.get c).current = some step)
    (looped : (s.climates.get c).loop = some loop) (heats : step.action.heat ≠ .noHeat)
    (warms : ¬ (loop.case = .cooling ∧ loop.reached = false)) :
    heatDemand c s = demandPercent s.settings.propBand (if loop.reached then s.settings.holdBias.get c else 0)
      loop.setpoint (cavityReading c s) := by
  simp only [heatDemand, current, looped]
  rw [if_neg heats, if_neg warms]

theorem heatDemand_le (c : Cavity) (s : State) : heatDemand c s ≤ 100 := by
  unfold heatDemand
  split
  · split
    · exact Nat.zero_le _
    · split
      · exact Nat.zero_le _
      · exact demandPercent_le _ _ _ _
  all_goals exact Nat.zero_le _

/-! ## The update -/

theorem regulationUpdate_idle
    (idle : counting (s.runs.get c) = false ∨ (s.runs.get c).current = none) : regulationUpdate c s = s := by
  refine if_neg ?_
  rintro ⟨counts, stands⟩
  rcases idle with still | none
  · exact absurd (still.symm.trans counts) (by decide)
  · rw [none] at stands
    exact absurd stands (by decide)

theorem regulationUpdate_counting (counts : counting (s.runs.get c) = true)
    (current : (s.runs.get c).current = some step) :
    regulationUpdate c s = demandComputation c (stepSetpoint c s) :=
  if_pos ⟨counts, by rw [current]; rfl⟩

/-- The state after step 1 of a regulation update with a target (R52, R54). -/
structure SetpointStepped (c : Cavity) (step : CurrentStep) (goal : Nat) (l : Loop) (s t : State) : Prop where
  loop : (t.climates.get c).loop = some (moveSetpoint goal step.action.ramp l)
  within : Within { climates := true } s t

theorem stepSetpoint_stepped {loop : Loop} (current : (s.runs.get c).current = some step)
    (target : step.action.target = some goal) (looped : (s.climates.get c).loop = some loop) :
    SetpointStepped c step goal loop s (stepSetpoint c s) := by
  rw [stepSetpoint_of_target current target]
  refine ⟨?_, (within_modClimate c _ rfl).mpr (.refl _ s)⟩
  rw [modClimate_climates, PerCavity.get_set_self, looped]
  rfl

end

/-- Settles O38: the update moves the setpoint once, and what follows leaves it. -/
theorem regulationMovesTheSetpoint : Obligations.RegulationMovesTheSetpoint := by
  unfold Obligations.RegulationMovesTheSetpoint
  intro c step goal l s held counts current target looped sum
  have acts := (event_of_not_held (regulationUpdate c) held).trans
    (congrArg _ (regulationUpdate_counting counts current))
  have stepped := stepSetpoint_stepped current target looped
  have written := demandComputation_written (s := stepSetpoint c s) (c := c) (step := step)
    (by rw [stepped.within.runs_eq rfl, current])
  obtain ⟨case, reached, there, up, down, remainder⟩ := moveSetpoint_moved step goal l
  exact ⟨_, _, acts, by rw [written.climate]; exact stepped.loop, by rw [written.climate], case, reached, there, up, down,
    remainder, (stepped.within.mono rfl).trans (demandComputation_within c _)⟩

/-- Settles O39: nothing outside counting time, 0 / 0 without a target, else the demand of R58 and its holds. -/
theorem regulationWritesTheHolds : Obligations.RegulationWritesTheHolds := by
  unfold Obligations.RegulationWritesTheHolds
  refine ⟨fun c s held idle => (event_of_not_held (regulationUpdate c) held).trans
    (congrArg _ (regulationUpdate_idle idle)), fun c step s held counts current target none => ?untargeted,
    fun c step goal reading l s held counts current target looped pos read => ?targeted⟩
  all_goals
    have acts := (event_of_not_held (regulationUpdate c) held).trans
      (congrArg _ (regulationUpdate_counting counts current))
  case untargeted =>
    rw [stepSetpoint_of_no_target current target] at acts
    have written := demandComputation_written current
    rw [heatDemand_of_noHeat current none, none] at written
    obtain ⟨climate, ring, top, bottom, -⟩ := written
    refine ⟨_, acts, by rw [climate], by rw [climate], by rw [climate], fun l mem => ?_, demandComputation_within c s⟩
    simp only [List.mem_cons, List.not_mem_nil, or_false] at mem
    rcases mem with rfl | rfl | rfl
    · exact top nofun
    · exact bottom nofun
    · exact ring
  case targeted =>
    intro bias
    have stepped := stepSetpoint_stepped current target looped
    have stands : ((stepSetpoint c s).runs.get c).current = some step := by rw [stepped.within.runs_eq rfl, current]
    have moved := moveSetpoint_moved step goal l
    obtain ⟨climate, ring, top, bottom, pair⟩ := demandComputation_written stands
    have ⟨case, reached, _⟩ := moved
    refine ⟨_, _, _, acts, by rw [climate]; exact stepped.loop, moved, by rw [climate], by rw [climate],
      heatDemand_le c _, fun calm => ?calm, fun heats warms => ?heats, fun mode => ?ringed, fun mode mode' => ?unringed,
      fun mode => ?topped, fun mode => ?bottomed, fun mode => ?untopped, fun mode => ?unbottomed, pair,
      (stepped.within.mono rfl).trans (demandComputation_within c _)⟩
    case calm => exact heatDemand_eq_zero stands stepped.loop (by rwa [case, reached])
    case heats =>
      have reads : cavityReading c (stepSetpoint c s) = reading := by
        rw [stepped.within.cavityReading_eq c ⟨rfl, rfl⟩, cavityReading, read, Option.getD_some]
      have asks := heatDemand_eq stands stepped.loop heats (by rwa [case, reached])
      rw [stepped.within.settings_eq rfl, reached, reads] at asks
      have biased : bias = ((if l.reached = true then s.settings.holdBias.get c else 0 : Nat) : Int) := by
        simp only [bias]
        split
        · rfl
        · rfl
      rw [asks, biased]
      exact demandPercent_spec _ _ _ pos
    case ringed => rw [ring, usesRing_iff.mpr mode, elementHolds_used]
    case unringed =>
      have unused := Bool.eq_false_of_not_eq_true (fun used => (usesRing_iff.mp used).elim mode mode')
      rw [ring, unused, elementHolds_unused]
    case topped =>
      obtain ⟨single, used⟩ := usesTop_of_mode mode
      rw [top single, used, elementHolds_used]
    case bottomed =>
      obtain ⟨single, used⟩ := usesBottom_of_mode mode
      rw [bottom single, used, elementHolds_used]
    case untopped =>
      obtain ⟨single, unused⟩ := not_usesTop_of_mode mode
      rw [top single, unused, elementHolds_unused]
    case unbottomed =>
      obtain ⟨single, unused⟩ := not_usesBottom_of_mode mode
      rw [bottom single, unused, elementHolds_unused]

end Sys2Proof.Machine
end

section
/-! SUPPORT. The ends of drive intervals (R61, R62) and the turns of an alternate pair (R66). -/

namespace Sys2Proof.Machine

/-- The holds of a pair (R66): the ON holds of its members, and its OFF hold. -/
structure PairHolds (c : Cavity) (top bottom off : Nat) (s : State) : Prop where
  top : (s.timers.get (topOf c)).on = top
  bottom : (s.timers.get (bottomOf c)).on = bottom
  off : (s.pairs.get c).offHold = off

/-- A turn of a pair has begun at the position `x` (R66): the load `l` is on its way with its hold, and the other member
`j` waits its turn, in neither set. -/
structure TurnBegun (c : Cavity) (x : PairPosition) (l j : Load) (hold : Nat) (t : State) : Prop where
  position : (t.pairs.get c).position = some x
  turn : OnTheWay l hold t
  rest : (t.timers.get j).interval = .offInterval
  out : t.arbiter.get j = .none

/-- A pair's OFF interval has begun (R66): both members are OFF, the top one counting the pair OFF hold. -/
structure PairOffBegun (c : Cavity) (hold : Nat) (s t : State) : Prop where
  position : (t.pairs.get c).position = some .pairOff
  top : (t.timers.get (topOf c)).interval = .offInterval
  counted : (t.timers.get (topOf c)).remaining = some hold
  bottom : (t.timers.get (bottomOf c)).interval = .offInterval
  arbiter : t.arbiter = s.arbiter

/-- A pair without a hold above 0 (R66): no position, and both members IDLE. -/
structure PairAtRest (c : Cavity) (s t : State) : Prop where
  position : (t.pairs.get c).position = none
  top : (t.timers.get (topOf c)).interval = .idle
  bottom : (t.timers.get (bottomOf c)).interval = .idle
  arbiter : t.arbiter = s.arbiter

section
variable {c : Cavity} {l j : Load} {x : PairPosition} {hold : Nat} {s t : State}

theorem setInterval_self (l : Load) (i : Interval) (n : Option Nat) (s : State) :
    (setInterval l i n s).timers.get l = { s.timers.get l with interval := i, remaining := n } :=
  PerLoad.get_set_self _ _ _

theorem setInterval_of_ne (ne : j ≠ l) (i : Interval) (n : Option Nat) (s : State) :
    (setInterval l i n s).timers.get j = s.timers.get j := PerLoad.get_set_of_ne _ _ ne

/-! ## A pair's next interval (R66) -/

theorem turnBegun_startOn (ne : j ≠ l) (placed : (t.pairs.get c).position = some x) (out : t.arbiter.get j = .none) :
    TurnBegun c x l j hold (startOn l hold (setInterval j .offInterval none t)) := by
  obtain ⟨timer, status⟩ := ((OnlyGranted.refl j (setInterval j .offInterval none t)).then_startOn
    (n := hold) ne).of_none out
  refine ⟨?_, startOn_onTheWay _ _ _, ?_, status⟩
  · rw [(startOn_within _ _ _).pairs_eq rfl, (setInterval_within _ _ _ _).pairs_eq rfl, placed]
  · rw [timer, setInterval_self]

/-- A pair's position written before its turn (R66). -/
def placedAt (c : Cavity) (x : PairPosition) (s : State) : State := modPair c (fun p => { p with position := some x }) s

theorem placedAt_position (c : Cavity) (x : PairPosition) (s : State) :
    ((placedAt c x s).pairs.get c).position = some x := by
  rw [placedAt, modPair_pairs, PerCavity.get_set_self]

section
variable {m n k : Nat} (holds : PairHolds c m n k s) (some : ¬ (m = 0 ∧ n = 0 ∧ k = 0))
include holds some

theorem PairHolds.beginPair_topTurn (turn : nextTurn x m n k = .topTurn) (out : s.arbiter.get (bottomOf c) = .none) :
    TurnBegun c .topTurn (topOf c) (bottomOf c) m (beginPair c x s) := by
  obtain ⟨rfl, rfl, rfl⟩ := holds
  rw [beginPair, if_neg some, turn]
  exact turnBegun_startOn (t := placedAt c .topTurn s) (topOf_ne_bottomOf c).symm (placedAt_position c _ s) out

theorem PairHolds.beginPair_bottomTurn (turn : nextTurn x m n k = .bottomTurn)
    (out : s.arbiter.get (topOf c) = .none) :
    TurnBegun c .bottomTurn (bottomOf c) (topOf c) n (beginPair c x s) := by
  obtain ⟨rfl, rfl, rfl⟩ := holds
  rw [beginPair, if_neg some, turn]
  exact turnBegun_startOn (t := placedAt c .bottomTurn s) (topOf_ne_bottomOf c) (placedAt_position c _ s) out

theorem PairHolds.beginPair_pairOff (turn : nextTurn x m n k = .pairOff) : PairOffBegun c k s (beginPair c x s) := by
  obtain ⟨rfl, rfl, rfl⟩ := holds
  rw [beginPair, if_neg some, turn]
  refine ⟨placedAt_position c .pairOff s, ?_, ?_, ?_, rfl⟩
  · rw [setInterval_self]
  · rw [setInterval_self]
  · rw [setInterval_of_ne (topOf_ne_bottomOf c).symm, setInterval_self]

end

theorem PairHolds.beginPair_atRest (holds : PairHolds c 0 0 0 s) : PairAtRest c s (beginPair c x s) := by
  rw [beginPair, if_pos ⟨holds.top, holds.bottom, holds.off⟩]
  refine ⟨?_, ?_, ?_, rfl⟩
  · rw [modPair_pairs, PerCavity.get_set_self]
  · rw [modPair_timers, setInterval_self]
  · rw [modPair_timers, setInterval_of_ne (topOf_ne_bottomOf c).symm, setInterval_self]

/-! ## The end of an ON interval (R62) -/

/-- The state in which a pair member has ended its turn, before the pair goes on (R66). -/
def turnEnded (l : Load) (s : State) : State := leave l (setInterval l .offInterval none s)

theorem turnEnded_out (l : Load) (s : State) : (turnEnded l s).arbiter.get l = .none := by
  obtain ⟨-, out⟩ := leave_self l (setInterval l .offInterval none s)
  exact out

theorem turnEnded_other (ne : j ≠ l) (out : s.arbiter.get j = .none) : (turnEnded l s).arbiter.get j = .none := by
  obtain ⟨-, out⟩ := (((OnlyGranted.refl j s).then_setInterval (i := .offInterval) (x := none) ne).then_leave ne).of_none out
  exact out

theorem turnEnded_within (l : Load) (s : State) : Within .power s (turnEnded l s) :=
  ((setInterval_within _ _ _ _).mono rfl).trans (leave_within l _)

theorem PairHolds.turnEnded {m n k : Nat} (l : Load) (h : PairHolds c m n k s) : PairHolds c m n k (turnEnded l s) := by
  have on (j : Load) : ((Machine.turnEnded l s).timers.get j).on = (s.timers.get j).on :=
    congrArg Prod.fst (HoldsKept.then_leave (j := l) (.then_setInterval (.refl j s)))
  exact ⟨(on _).trans h.top, (on _).trans h.bottom, by rw [(turnEnded_within l s).pairs_eq rfl, h.off]⟩

theorem pairSeat_topOf (c : Cavity) : pairSeat (topOf c) = some (c, true) := by cases c <;> rfl
theorem pairSeat_bottomOf (c : Cavity) : pairSeat (bottomOf c) = some (c, false) := by cases c <;> rfl

theorem onExpiry_of_other (h : (s.timers.get l).interval ≠ .onInterval ∨ (s.timers.get l).frozen = true) :
    onExpiry l s = s := by
  refine if_neg ?_
  rintro ⟨on, thawed⟩
  rcases h with other | frozen
  · exact other on
  · exact absurd (frozen.symm.trans thawed) (by decide)

section
variable (on : (s.timers.get l).interval = .onInterval) (thawed : (s.timers.get l).frozen = false)
include on thawed

theorem onExpiry_single (single : singleOff l s = true) : onExpiry l s = endOn l s := by
  rw [onExpiry, if_pos ⟨on, thawed⟩]
  unfold singleOff at single
  split
  · next c isTop seat =>
    rw [seat] at single
    exact if_neg (by simpa using single)
  · rfl

theorem onExpiry_pair {isTop : Bool} (seat : pairSeat l = some (c, isTop)) (paired : (s.pairs.get c).paired = true) :
    onExpiry l s = beginPair c (if isTop then .bottomTurn else .pairOff) (turnEnded l s) := by
  simp only [onExpiry, seat]
  rw [if_pos ⟨on, thawed⟩, if_pos paired]
  rfl

end

/-- The end of an ON interval leaves the load's set for an OFF interval or IDLE (R62). -/
theorem setInterval_leave (l : Load) (i : Interval) (n : Option Nat) (s : State) :
    (leave l (setInterval l i n s)).timers.get l = { s.timers.get l with interval := i, remaining := n }
      ∧ (leave l (setInterval l i n s)).arbiter.get l = .none ∧ Within .power s (leave l (setInterval l i n s)) := by
  obtain ⟨timer, out⟩ := leave_self l (setInterval l i n s)
  exact ⟨timer.trans (setInterval_self l i n s), out, ((setInterval_within l i n s).mono rfl).trans (leave_within l _)⟩

/-! ## The end of an OFF interval (R61, R66) -/

theorem offExpiry_of_other (h : (s.timers.get l).interval ≠ .offInterval ∨ (s.timers.get l).frozen = true
    ∨ singleOff l s = false) : offExpiry l s = s := by
  refine if_neg ?_
  rintro ⟨off, thawed, single⟩
  rcases h with other | frozen | paired
  · exact other off
  · exact absurd (frozen.symm.trans thawed) (by decide)
  · exact absurd (paired.symm.trans single) (by decide)

theorem pairOffEnd_of_other (h : (s.pairs.get c).paired = false ∨ (s.pairs.get c).position ≠ some .pairOff
    ∨ (s.timers.get (topOf c)).frozen = true) : pairOffEnd c s = s := by
  refine if_neg ?_
  rintro ⟨paired, off, thawed⟩
  rcases h with single | other | frozen
  · exact absurd (single.symm.trans paired) (by decide)
  · exact other off
  · exact absurd (frozen.symm.trans thawed) (by decide)

end

/-- Settles O40: a single timer by its holds, a pair by the next turn whose hold is above 0. -/
theorem onIntervalEndsByTheHolds : Obligations.OnIntervalEndsByTheHolds := by
  unfold Obligations.OnIntervalEndsByTheHolds
  intro l s held x
  have acts := event_of_not_held (onExpiry l) held
  refine ⟨fun other => acts.trans (congrArg _ (onExpiry_of_other other)), fun on thawed single => ?single,
    fun c on thawed paired => ?pair⟩
  case single =>
    have ends : onExpiry l s = endOn l s := onExpiry_single on thawed single
    unfold endOn at ends
    refine ⟨fun off => ?_, fun off on => ?_, fun off on => ?_⟩
    · exact ⟨_, acts.trans (congrArg _ (ends.trans (if_pos off))), setInterval_leave l _ _ s⟩
    · exact acts.trans (congrArg _ (ends.trans ((if_neg (Nat.not_lt_of_le off.le)).trans (if_pos on))))
    · exact ⟨_, acts.trans (congrArg _ (ends.trans
        ((if_neg (Nat.not_lt_of_le off.le)).trans (if_neg (Nat.not_lt_of_le on.le))))), setInterval_leave l _ _ s⟩
  case pair =>
    have within : Within .drive s (onExpiry l s) := onExpiry_within l s
    have holds : PairHolds c (s.timers.get (topOf c)).on (s.timers.get (bottomOf c)).on (s.pairs.get c).offHold
        (turnEnded l s) := .turnEnded l ⟨rfl, rfl, rfl⟩
    have out := turnEnded_out l s
    have top (e : l = topOf c) : onExpiry l s = beginPair c .bottomTurn (turnEnded l s) :=
      onExpiry_pair (isTop := true) on thawed (by rw [e, pairSeat_topOf]) paired
    have bottom (e : l = bottomOf c) : onExpiry l s = beginPair c .pairOff (turnEnded l s) :=
      onExpiry_pair (isTop := false) on thawed (by rw [e, pairSeat_bottomOf]) paired
    refine ⟨fun e turn => ?topHandsOn, fun e off => ?bottomPauses, fun e skips off => ?topPauses,
      fun e skips skips' turn out' => ?topAgain, fun e skips turn => ?bottomHandsOn,
      fun e skips skips' turn out' => ?bottomAgain, fun e off noTop noBottom => ?rest⟩
    case topHandsOn =>
      subst e
      rw [top rfl] at acts within
      have begun := holds.beginPair_bottomTurn (x := .bottomTurn) (by omega) (if_pos turn) out
      exact ⟨_, acts, begun.position, begun.rest, begun.out, begun.turn, within⟩
    case bottomPauses =>
      subst e
      rw [bottom rfl] at acts within
      have begun := holds.beginPair_pairOff (x := .pairOff) (by omega) (if_pos off)
      exact ⟨_, acts, begun.position, begun.bottom, by rw [begun.arbiter, out], begun.top, begun.counted, within⟩
    case topPauses =>
      subst e
      rw [top rfl] at acts within
      have begun := holds.beginPair_pairOff (x := .bottomTurn) (by omega) (by simp [nextTurn, skips, off])
      exact ⟨_, acts, begun.position, begun.bottom, by rw [begun.arbiter, out], begun.top, begun.counted, within⟩
    case topAgain =>
      subst e
      rw [top rfl] at acts within
      have begun := holds.beginPair_topTurn (x := .bottomTurn) (fun ⟨zero, _⟩ => turn.ne' zero)
        (by simp [nextTurn, skips, skips'])
        (turnEnded_other (topOf_ne_bottomOf c).symm out')
      exact ⟨_, acts, begun.position, begun.turn, begun.rest, within⟩
    case bottomHandsOn =>
      subst e
      rw [bottom rfl] at acts within
      have begun := holds.beginPair_topTurn (x := .pairOff) (by omega) (by simp [nextTurn, skips, turn]) out
      exact ⟨_, acts, begun.position, begun.turn, begun.rest, begun.out, within⟩
    case bottomAgain =>
      subst e
      rw [bottom rfl] at acts within
      have begun := holds.beginPair_bottomTurn (x := .pairOff) (fun ⟨_, zero, _⟩ => turn.ne' zero)
        (by simp [nextTurn, skips, skips'])
        (turnEnded_other (topOf_ne_bottomOf c) out')
      exact ⟨_, acts, begun.position, begun.turn, begun.rest, within⟩
    case rest =>
      rw [off, noTop, noBottom] at holds
      rcases e with e | e
      · rw [top e] at acts within
        have rests := holds.beginPair_atRest (x := .bottomTurn)
        exact ⟨_, acts, rests.position, rests.top, rests.bottom, by rw [rests.arbiter, out], within⟩
      · rw [bottom e] at acts within
        have rests := holds.beginPair_atRest (x := .pairOff)
        exact ⟨_, acts, rests.position, rests.top, rests.bottom, by rw [rests.arbiter, out], within⟩

/-- Settles O41: a single timer's OFF interval and a pair's, each by the holds above 0. -/
theorem offIntervalEndsInAnOnInterval : Obligations.OffIntervalEndsInAnOnInterval := by
  unfold Obligations.OffIntervalEndsInAnOnInterval
  refine ⟨fun l s held => ?single, fun c s held => ?pair⟩
  case single =>
    intro x
    have acts := event_of_not_held (offExpiry l) held
    refine ⟨fun other => acts.trans (congrArg _ (offExpiry_of_other other)), fun ends thawed single => ?_⟩
    have begins : offExpiry l s = beginOn l s := if_pos ⟨ends, thawed, single⟩
    have within : Within .power s (offExpiry l s) := begins ▸ beginOn_within l s
    unfold beginOn at begins
    refine ⟨fun on => ?on, fun on off => ?skip, fun on off => ?idle⟩
    case on =>
      have starts := begins.trans (if_pos on)
      rw [starts] at acts within
      exact ⟨_, acts, startOn_onTheWay l _ s, within⟩
    case skip =>
      refine acts.trans (congrArg _ ((begins.trans (if_neg (Nat.not_lt_of_le on.le))).trans ((if_pos off).trans ?_)))
      rw [← ends]
      rfl
    case idle =>
      exact acts.trans (congrArg _ ((begins.trans (if_neg (Nat.not_lt_of_le on.le))).trans
        (if_neg (Nat.not_lt_of_le off.le))))
  case pair =>
    have acts := event_of_not_held (pairOffEnd c) held
    have within : Within .drive s (pairOffEnd c s) := pairOffEnd_within c s
    have holds : PairHolds c (s.timers.get (topOf c)).on (s.timers.get (bottomOf c)).on (s.pairs.get c).offHold s :=
      ⟨rfl, rfl, rfl⟩
    have begins (paired : (s.pairs.get c).paired = true) (off : (s.pairs.get c).position = some .pairOff)
        (thawed : (s.timers.get (topOf c)).frozen = false) : pairOffEnd c s = beginPair c .topTurn s :=
      if_pos ⟨paired, off, thawed⟩
    refine ⟨fun other => acts.trans (congrArg _ (pairOffEnd_of_other other)),
      fun paired off thawed turn out => ?topTurn, fun paired off thawed skips => ?skipsTop⟩
    case topTurn =>
      rw [begins paired off thawed] at acts within
      have begun := holds.beginPair_topTurn (x := .topTurn) (by omega) (if_pos turn) out
      exact ⟨_, acts, begun.position, begun.turn, begun.rest, within⟩
    case skipsTop =>
      rw [begins paired off thawed] at acts within
      refine ⟨fun turn out => ?bottomTurn, fun skips' off' => ?pairOff, fun skips' off' => ?rest⟩
      case bottomTurn =>
        have begun := holds.beginPair_bottomTurn (x := .topTurn) (by omega) (by simp [nextTurn, skips, turn]) out
        exact ⟨_, acts, begun.position, begun.turn, begun.rest, within⟩
      case pairOff =>
        have begun := holds.beginPair_pairOff (x := .topTurn) (by omega) (by simp [nextTurn, skips, skips'])
        exact ⟨_, acts, begun.position, begun.top, begun.counted, begun.bottom, begun.arbiter, within⟩
      case rest =>
        rw [skips, skips', off'] at holds
        have rests := holds.beginPair_atRest (x := .topTurn)
        exact ⟨_, acts, rests.position, rests.top, rests.bottom, rests.arbiter, within⟩

end Sys2Proof.Machine
end

section
/-! SUPPORT. The soak (R69, R134): its computation, and the drain of the solution at its end. -/

namespace Sys2Proof.Machine

theorem Within.gen_eq {f : Parts} {s t : State} (w : Within f s t) (k : f.gen = false) : t.gen = s.gen := by
  obtain ⟨-, -, -, -, -, -, -, h, -⟩ := w
  exact h k

theorem Within.proc_eq {f : Parts} {s t : State} (w : Within f s t) (k : f.proc = false) : t.proc = s.proc := by
  obtain ⟨-, -, -, -, -, -, -, -, -, -, h, -⟩ := w
  exact h k

theorem Within.resetHeld_eq {f : Parts} {s t : State} (w : Within f s t) (k : f.resetHeld = false) :
    t.resetHeld = s.resetHeld := by
  obtain ⟨-, -, -, -, -, -, -, -, -, -, -, -, -, -, -, -, -, -, -, -, -, -, -, -, -, h, -⟩ := w
  exact h k

theorem stopTimer_arbiter (l : Load) (s : State) : (stopTimer l s).arbiter.get l = .none := by
  obtain ⟨-, out⟩ := leave_self l (setInterval l .idle none (setHolds l 0 0 s))
  exact out

/-- The procedure record after the entry to a phase, saved (R129). -/
theorem enterPhase_proc (x : ProcPhase) (s : State) :
    (enterPhase x s).proc = { s.proc with phase := x, promptId := none, soakTime := none, savedPhase := some x } := by
  unfold enterPhase
  extract_lets entered
  unfold saveProcedure
  extract_lets saved
  exact (handSave_within _ saved).proc_eq rfl

theorem genReading_of_some {s : State} {n : Nat} (h : s.sensors.genTemp.reading = some n) : genReading s = n := by
  rw [genReading, h, Option.getD_some]

/-- A soak computation writes the heater's holds at the demand of R58 without a bias, and the update time (R69). -/
theorem soakCompute_holds {s : State} {n : Nat} (h : s.sensors.genTemp.reading = some n) :
    holdsOf .genHeat (soakCompute s)
      = (2 * demandPercent s.settings.propBand 0 (s.settings.soakTemp * 100) n,
        200 - 2 * demandPercent s.settings.propBand 0 (s.settings.soakTemp * 100) n) := by
  rw [← genReading_of_some h]
  exact holdsOf_writeHolds _ _ _ _

theorem soakCompute_gen (s : State) : (soakCompute s).gen = { s.gen with soakUpdate := some 0 } :=
  (writeHolds_within _ _ _ _).gen_eq rfl

/-- What a drain instruction in DESCALE leaves (R107, R111), on the procedure record and the generator it had. -/
structure DrainEntered (x : ProcPhase) (s t : State) : Prop where
  proc : t.proc = { s.proc with phase := x, promptId := none, soakTime := none, savedPhase := some x }
  gen : t.gen = { s.gen with
    fill := none, afterDrain := some .report, drainTime := some 0, dryTime := some 0, soakUpdate := none }
  holds : holdsOf .genHeat t = (0, 0)
  out : t.arbiter.genHeat = .none
  within : Within .descale s t

theorem enterDrain_entered (x : ProcPhase) (s : State) : DrainEntered x s (enterDrain x s) := by
  have entered := enterPhase_within x s
  refine ⟨?_, ?_, holdsOf_stopTimer _ _, stopTimer_arbiter .genHeat _, enterDrain_within x s⟩
  · exact ((stopTimer_within _ _).proc_eq rfl).trans (enterPhase_proc x s)
  · rw [← entered.gen_eq rfl]
    exact (stopTimer_within _ _).gen_eq rfl

/-- In DESCALE the drain instructed runs the pump (R93, R107). -/
theorem DrainEntered.drainPump_eq {x : ProcPhase} {s t : State} (h : DrainEntered x s t) (held : s.resetHeld = false)
    (descale : s.gen.state = .descale) : drainPump t = true := by
  have released : t.resetHeld = false := (h.within.resetHeld_eq rfl).trans held
  simp [drainPump, drainRunning, released, h.gen, descale]

/-- Settles O51: the updates and the end of the soak act in SOAK alone. -/
theorem soakHoldsTheTemperatureThenDrains : Obligations.SoakHoldsTheTemperatureThenDrains := by
  unfold Obligations.SoakHoldsTheTemperatureThenDrains
  intro s held
  have update := event_of_not_held soakUpdate held
  have ends := event_of_not_held soakEnd held
  refine ⟨fun other => ?other, fun reading descale soak mains read pos => ?soak⟩
  case other =>
    have idle : ¬ (s.gen.state = .descale ∧ s.proc.phase = .soak ∧ s.mains.low = false) := by
      rintro ⟨descale, soak, mains⟩
      rcases other with h | h | low
      · exact h descale
      · exact h soak
      · exact absurd (low.symm.trans mains) (by decide)
    exact ⟨update.trans (congrArg _ (if_neg idle)), ends.trans (congrArg _ (if_neg idle))⟩
  case soak =>
    intro diff
    have soaks : s.gen.state = .descale ∧ s.proc.phase = .soak ∧ s.mains.low = false := ⟨descale, soak, mains⟩
    refine ⟨?_, ?_⟩
    · obtain ⟨percent, low, high, demand⟩ := demandPercent_spec 0 (s.settings.soakTemp * 100) reading pos
      rw [Nat.cast_mul] at low high
      rw [Nat.cast_zero, Int.add_zero] at demand
      exact ⟨_, _, percent, update.trans (congrArg _ (if_pos soaks)), soakCompute_holds read, low, high, demand,
        soakCompute_gen s, soakCompute_within s⟩
    · have drained := enterDrain_entered .drainSolution s
      exact ⟨_, ends.trans (congrArg _ (if_pos soaks)), by rw [drained.proc], by rw [drained.proc], by rw [drained.gen],
        by rw [drained.gen], by rw [drained.gen], drained.holds, drained.out, drained.drainPump_eq held descale,
        drained.within⟩

end Sys2Proof.Machine
end

section
/-! SUPPORT. `WatchWork c s t`: `t` comes of `s` by work that leaves the watch slots of the cavity `c` and the reports of
tripped watches as they are (R71, R193). What a tripped watch's action does is such work, so that the trip stands after
it. -/

namespace Sys2Proof.Machine

/-- Work that leaves the watch slots of a cavity, and every entry of WATCH_TRIP in the cause sets. -/
structure WatchWork (c : Cavity) (s t : State) : Prop where
  watches : ∀ slot, watchOf slot (t.climates.get c) = watchOf slot (s.climates.get c)
  trips : CodeKept 9 s t

/-- The parts of State other than the climate loops and the cause sets. -/
def Parts.offWatch : Parts :=
  { Parts.elsewhere with attention := false, runs := true, queues := true, pairs := true }

section
variable {c : Cavity} {s t u : State}

theorem WatchWork.refl (c : Cavity) (s : State) : WatchWork c s s := ⟨fun _ => rfl, .refl 9 s⟩

theorem WatchWork.ite {p : Prop} [Decidable p] (ht : WatchWork c s t) (hu : WatchWork c s u) :
    WatchWork c s (if p then t else u) := by
  split
  · exact ht
  · exact hu

/-- Work that leaves the climate loops, its causes told apart. -/
theorem WatchWork.then_same (h : WatchWork c s t) (climates : u.climates = t.climates) (trips : CodeKept 9 t u) :
    WatchWork c s u :=
  ⟨fun slot => by rw [climates, h.watches slot], h.trips.trans trips⟩

theorem WatchWork.then_codes (h : WatchWork c s t) (climates : u.climates = t.climates) (codes : CodesKept t u) :
    WatchWork c s u := h.then_same climates (codes 9 (by decide))

/-- An operation that reaches neither the climate loops nor the cause sets. -/
theorem WatchWork.then_within {g : Parts} (h : WatchWork c s t) (w : Within g t u)
    (k : Parts.offWatch.covers g = true) : WatchWork c s u := by
  have within := w.mono k
  exact h.then_same (within.climates_eq rfl) (.then_same (.refl 9 t) (within.attention_eq rfl))

theorem WatchWork.then_modRun {f : Run → Run} (h : WatchWork c s t) : WatchWork c s (modRun c f t) :=
  ⟨h.watches, h.trips⟩

theorem WatchWork.then_modQueue {f : StepQueue → StepQueue} (h : WatchWork c s t) : WatchWork c s (modQueue c f t) :=
  ⟨h.watches, h.trips⟩

theorem WatchWork.then_modClimate {f : Climate → Climate} (h : WatchWork c s t)
    (k : ∀ x slot, watchOf slot (f x) = watchOf slot x) : WatchWork c s (modClimate c f t) := by
  refine ⟨fun slot => ?_, h.trips⟩
  rw [modClimate_climates, PerCavity.get_set_self, k, h.watches slot]

theorem WatchWork.then_broadcast {x : Cause} (h : WatchWork c s t) (ne : (causeEntry x).code ≠ 9) :
    WatchWork c s (broadcast x t) := h.then_same rfl (.then_broadcast (.refl 9 t) ne)

theorem WatchWork.then_post {x : Cause} {p : Port} (h : WatchWork c s t) (ne : (causeEntry x).code ≠ 9) :
    WatchWork c s (post p x t) := h.then_same rfl (.then_post (.refl 9 t) ne)

/-! ## The prompt table and the climate loop -/

theorem WatchWork.then_cancelPrompt {o : Owner} (h : WatchWork c s t) : WatchWork c s (cancelPrompt o t) :=
  h.then_codes ((cancelPrompt_within o t).climates_eq rfl) (.then_cancelPrompt (.refl t))

theorem WatchWork.then_raiseRecipe {p : PromptSub} (h : WatchWork c s t) : WatchWork c s (raiseRecipe c p t) :=
  h.then_codes ((raiseRecipe_within c p t).climates_eq rfl) (.then_raiseRecipe (.refl t))

theorem WatchWork.then_refuse (h : WatchWork c s t) : WatchWork c s (refuse c t) :=
  h.then_codes ((refuse_within c t).climates_eq rfl) (.then_refuse (.refl t))

theorem WatchWork.then_coreEntry (h : WatchWork c s t) : WatchWork c s (coreEntry c t) :=
  .ite (.ite h.then_modRun
    (h.then_codes ((raiseDevice_within _ _ t).climates_eq rfl) (.then_raiseDevice (.refl t)))) h

theorem WatchWork.then_demandComputation (h : WatchWork c s t) : WatchWork c s (demandComputation c t) := by
  unfold demandComputation
  split
  · exact h
  · extract_lets d
    refine .then_within (.then_modClimate h ?_) (writeElements_within c _ d _) rfl
    exact fun _ _ => rfl

theorem WatchWork.then_settleClimate (h : WatchWork c s t) : WatchWork c s (settleClimate c t) := by
  refine .ite ?_ h
  unfold climateRestart
  split
  · exact h.then_modClimate fun _ _ => rfl
  · extract_lets reading
    refine .then_demandComputation (.then_modClimate h ?_)
    exact fun _ _ => rfl

theorem WatchWork.then_settle (h : WatchWork c s t) : WatchWork c s (settle c t) :=
  h.then_settleClimate.then_codes (settle_climates c t)
    (SteamWork.then_syncDemand (.then_within (.refl _) (syncFreeze_within c _) rfl)).codes

theorem WatchWork.then_enterHold {k : Case} {n : Nat} (h : WatchWork c s t) : WatchWork c s (enterHold c k n t) :=
  .then_broadcast (.then_modRun (h.then_modClimate fun _ _ => rfl)) (by simp [causeEntry, detail])

theorem WatchWork.then_approachTest (h : WatchWork c s t) : WatchWork c s (approachTest c t) := by
  unfold approachTest
  split
  · exact h
  · split
    · exact h.then_modRun
    · exact .ite h.then_enterHold (.then_modRun (h.then_modClimate fun _ _ => rfl))

theorem WatchWork.then_approachSample {n : Nat} (h : WatchWork c s t) : WatchWork c s (approachSample c n t) := by
  unfold approachSample
  extract_lets run
  refine .ite ?_ h
  split
  · split
    · exact .ite h.then_enterHold h
    · exact h
  all_goals exact h

/-! ## The queue -/

theorem WatchWork.then_afterChange {n : Nat} (h : WatchWork c s t) : WatchWork c s (afterChange c n t) :=
  h.then_same ((afterChange_within c n t).climates_eq rfl) (afterChange_codeKept c n t (by decide))

theorem WatchWork.then_loseMark (h : WatchWork c s t) : WatchWork c s (loseMark c t) :=
  .then_broadcast h.then_modQueue (by simp [causeEntry, detail])

/-- What the reader copies posts no cause. -/
theorem WatchWork.then_copyWhile {k : Nat} {b : Bool} (h : WatchWork c s t) : WatchWork c s (copyWhile k b c t) :=
  h.then_same ((copyWhile_within k b c t).climates_eq rfl) (.then_same (.refl 9 t) (copyWhile_attention k b c t))

theorem WatchWork.then_walk {n : Nat} (h : WatchWork c s t) : WatchWork c s (walk n c t).1 := by
  induction n generalizing t with
  | zero => exact h
  | succ n ih =>
    unfold walk
    extract_lets queue
    split
    · split
      · exact ih (.then_modQueue (.then_copyWhile h.then_loseMark))
      · exact h
    · split
      · exact .then_afterChange h.then_modQueue
      · exact ih (.then_afterChange h.then_modQueue)
      · extract_lets told
        have tell : WatchWork c s told := .ite h (h.then_broadcast (by simp [causeEntry, detail]))
        exact ih (.then_afterChange tell.then_modQueue)

/-! ## Steps, run ends and pauses -/

theorem WatchWork.then_enterPhases {a : Action} (h : WatchWork c s t) : WatchWork c s (enterPhases c a t) := by
  unfold enterPhases
  split
  · exact .then_raiseRecipe h.then_modRun
  · split
    · exact .then_coreEntry (.then_raiseRecipe h.then_approachTest)
    · exact .then_coreEntry h.then_approachTest

theorem WatchWork.then_enterStep {load : Nat} {a : Action} (h : WatchWork c s t) :
    WatchWork c s (enterStep c load a t) := by
  unfold enterStep
  extract_lets recorded started formed computed
  have taken : WatchWork c s (climateTake c a recorded) := by
    unfold climateTake
    refine .then_modClimate h.then_modRun ?_
    exact fun _ _ => rfl
  have start : WatchWork c s started := taken.then_broadcast (by simp [causeEntry, detail])
  have form : WatchWork c s formed := start.then_enterPhases.then_within (reformPair_within c _ _) rfl
  exact .ite form.then_demandComputation.then_refuse form.then_demandComputation

theorem WatchWork.then_finish (h : WatchWork c s t) : WatchWork c s (finish c t) := by
  have stopped : WatchWork c s (stopCavity c (modRun c (endedRecord .finished none) t)) :=
    h.then_modRun.then_within (stopCavity_within c _) rfl
  have ended : WatchWork c s (endRun c .finished none t) := by
    unfold endRun emptyQueue climateEnd
    refine .then_modQueue (.then_modClimate stopped ?_)
    exact fun _ _ => rfl
  refine ended.then_broadcast ?_
  cases (Option.map (·.source) (t.runs.get c).opened).getD (.program 0) with
  | stream p => simp [causeEntry, detail]
  | program n => simp [causeEntry, detail]

theorem WatchWork.then_starveOverrun (h : WatchWork c s t) : WatchWork c s (starveOverrun c t) := by
  unfold starveOverrun
  extract_lets lost
  refine .ite ?_ h
  split
  · exact .then_post h.then_loseMark (by simp [causeEntry, detail])
  · exact h.then_loseMark

theorem WatchWork.then_starve (h : WatchWork c s t) : WatchWork c s (starve c t) := by
  unfold starve
  extract_lets overran entered held
  have hold : WatchWork c s held := h.then_starveOverrun.then_modRun.then_modClimate fun _ _ => rfl
  split
  · exact hold.then_broadcast (by simp [causeEntry, detail])
  · exact hold

theorem WatchWork.then_clearStepPrompts (h : WatchWork c s t) : WatchWork c s (clearStepPrompts c t) := by
  unfold clearStepPrompts
  split
  · exact .ite h.then_cancelPrompt h
  · exact h

theorem WatchWork.then_stepEnd (h : WatchWork c s t) : WatchWork c s (stepEnd c t) := by
  have walks : WatchWork c s (walk walkLimit c (clearStepPrompts c t)).1 := .then_walk h.then_clearStepPrompts
  unfold stepEnd afterWalk
  split
  · exact walks.then_enterStep
  · exact .ite walks.then_finish walks.then_starve

theorem WatchWork.then_endCondition (h : WatchWork c s t) : WatchWork c s (endCondition c t) := by
  unfold endCondition
  split
  · have asked : WatchWork c s (cancelProbePrompt c (modRun c (fun r => { r with phase := some .exitPrompt }) t)) := by
      unfold cancelProbePrompt
      split
      · exact .ite h.then_modRun.then_cancelPrompt h.then_modRun
      · exact h.then_modRun
    exact asked.then_raiseRecipe
  · exact h.then_stepEnd

theorem WatchWork.then_tryEnd (h : WatchWork c s t) : WatchWork c s (tryEnd c t) := .ite h.then_endCondition h

theorem WatchWork.then_pause {r : PauseReason} (h : WatchWork c s t) : WatchWork c s (pause c r t) := by
  unfold pause
  extract_lets run paused
  have pauses (x : PausedFrom) : WatchWork c s (paused x) := h.then_modRun.then_broadcast (by simp [causeEntry, detail])
  split
  · exact pauses _
  · exact pauses _
  all_goals exact h

theorem WatchWork.then_watchEnd {x : Option WatchAction} (h : WatchWork c s t) : WatchWork c s (watchEnd c x t) :=
  .ite h.then_tryEnd.then_settle h

theorem WatchWork.then_watchPause {x : Option WatchAction} (h : WatchWork c s t) : WatchWork c s (watchPause c x t) :=
  .ite h.then_pause h

theorem WatchWork.then_coreSample {n : Nat} (h : WatchWork c s t) : WatchWork c s (coreSample c n t) := by
  unfold coreSample
  extract_lets run
  split
  · exact .ite h.then_tryEnd.then_settle h
  · exact h

end

end Sys2Proof.Machine
end

section
/-! SUPPORT. One sample of a sensor (R161 to R164): the record it leaves, and what it hands to the sensor's users. -/

namespace Sys2Proof.Machine

/-- The state with a sensor's record written. -/
def withSensor (x : Sensor) (r : SensorRecord) (s : State) : State := modSensor x (fun _ => r) s

/-- A valid sensor's record after a sample in range (R162). -/
def heardRecord (n : Nat) (r : SensorRecord) : SensorRecord :=
  { r with status := .valid, reading := some n, inRange := true }

/-- A sensor's record once its fault is declared (R163). -/
def faultRecord : SensorRecord := { status := .faulted, reading := none, runTime := none, inRange := false }

/-- A sensor's record once its fault has cleared (R164). -/
def clearRecord (n : Nat) : SensorRecord := { status := .valid, reading := some n, runTime := none, inRange := true }

section
variable {c : Cavity} {s : State} {x : Sensor} {r : SensorRecord} {m n : Nat}

theorem cavitySensor_ne_coreSensor (c : Cavity) : cavitySensor c ≠ coreSensor c := by cases c <;> decide

theorem withSensor_get (x : Sensor) (r : SensorRecord) (s : State) : (withSensor x r s).sensors.get x = r :=
  PerSensor.get_set_self _ _ _

theorem withSensor_within (x : Sensor) (r : SensorRecord) (s : State) : Within { sensors := true } s (withSensor x r s) :=
  (within_modSensor x _ rfl).mpr (.refl _ s)

theorem cavityReading_of_some (h : (s.sensors.get (cavitySensor c)).reading = some n) : cavityReading c s = n := by
  rw [cavityReading, h, Option.getD_some]

theorem cavityReading_withCore (c : Cavity) (r : SensorRecord) (s : State) :
    cavityReading c (withSensor (coreSensor c) r s) = cavityReading c s := by
  have kept : (withSensor (coreSensor c) r s).sensors.get (cavitySensor c) = s.sensors.get (cavitySensor c) :=
    PerSensor.get_set_of_ne _ _ (cavitySensor_ne_coreSensor c)
  rw [cavityReading, kept]
  rfl

/-! ## The record -/

theorem inRangeReading_of_le (h : (n : Int) ≤ sensorMax x) : inRangeReading x (.tenths n) = some n := by
  rw [inRangeReading, if_pos ⟨Int.natCast_nonneg n, h⟩, Int.toNat_natCast]

theorem le_sensorMax_cavity (c : Cavity) (h : n ≤ 3000) : (n : Int) ≤ sensorMax (cavitySensor c) := by
  cases c
  all_goals exact Int.ofNat_le.mpr h

theorem le_sensorMax_core (c : Cavity) (h : n ≤ 1200) : (n : Int) ≤ sensorMax (coreSensor c) := by
  cases c
  all_goals exact Int.ofNat_le.mpr h

/-- The run time reaches the time that ends the run (R163, R164). -/
theorem runTimeNow_of_le {limit : Nat} (time : r.runTime = some m) (late : limit ≤ m + 250) :
    runTimeNow limit r = some limit := by
  rw [runTimeNow, time, Option.map_some]
  exact congrArg some (Nat.min_eq_left late)

theorem sampleRecord_valid (valid : r.status = .valid) :
    sampleRecord (some n) r = (heardRecord n r, .delivered) := by
  rw [sampleRecord, valid]
  rfl

theorem sampleRecord_fault (suspect : r.status = .suspect) (time : r.runTime = some m) (late : 1000 ≤ m + 250) :
    sampleRecord none r = (faultRecord, .faulted) := by
  rw [sampleRecord, suspect]
  exact if_pos (runTimeNow_of_le time late)

theorem sampleRecord_clear (faulted : r.status = .faulted) (time : r.runTime = some m) (late : 5000 ≤ m + 250) :
    sampleRecord (some n) r = (clearRecord n, .cleared) := by
  rw [sampleRecord, faulted]
  exact if_pos (runTimeNow_of_le time late)

/-! ## What a sample brings -/

/-- The state in which a sensor's fault is declared and reported, its last reading told (R163). -/
def faultTold (x : Sensor) (s : State) : State :=
  broadcast (.sensorFault x false ((s.sensors.get x).reading.getD 0)) (withSensor x faultRecord s)

/-- The state in which a sensor's fault has cleared and is reported (R164). -/
def clearTold (x : Sensor) (n : Nat) (s : State) : State :=
  broadcast (.sensorFault x true n) (withSensor x (clearRecord n) s)

/-- A sample of a valid sensor is delivered (R162). -/
theorem exec_sample_delivered (held : s.resetHeld = false) (valid : (s.sensors.get x).status = .valid)
    (inRange : (n : Int) ≤ sensorMax x) :
    exec (.sensorSample x (.tenths n)) s
      = .next (deliver x n (withSensor x (heardRecord n (s.sensors.get x)) s)) := by
  refine (event_of_not_held (sensorSample x (.tenths n)) held).trans (congrArg _ ?_)
  rw [sensorSample, inRangeReading_of_le inRange, sampleRecord_valid valid]
  rfl

/-- The sample out of range that ends the run time declares the fault (R163). -/
theorem exec_sample_faulted (held : s.resetHeld = false) (suspect : (s.sensors.get x).status = .suspect)
    (time : (s.sensors.get x).runTime = some m) (late : 1000 ≤ m + 250) :
    exec (.sensorSample x .openOrShorted) s
      = .next (handFault x (faultTold x s)) := by
  refine (event_of_not_held (sensorSample x .openOrShorted) held).trans (congrArg _ ?_)
  rw [sensorSample, inRangeReading, sampleRecord_fault suspect time late]
  rfl

/-- The sample in range that ends the run time clears the fault, and is delivered (R164). -/
theorem exec_sample_cleared (held : s.resetHeld = false) (faulted : (s.sensors.get x).status = .faulted)
    (time : (s.sensors.get x).runTime = some m) (late : 5000 ≤ m + 250) (inRange : (n : Int) ≤ sensorMax x) :
    exec (.sensorSample x (.tenths n)) s
      = .next (deliver x n (handClear x (clearTold x n s))) := by
  refine (event_of_not_held (sensorSample x (.tenths n)) held).trans (congrArg _ ?_)
  rw [sensorSample, inRangeReading_of_le inRange, sampleRecord_clear faulted time late]
  rfl

end

end Sys2Proof.Machine
end

section
/-! SUPPORT. A sample at the approach and at the watches (R29, R44, R56, R71). -/

namespace Sys2Proof.Machine

section
variable {c : Cavity} {s t u v : State} {w : Watch} {slot n : Nat} {source : WatchSource}

/-! ## The approach (R56) -/

/-- A reading meets the approach point of a step in its loop's case (R29). -/
def approaches (n : Nat) (r : Run) (k : Climate) : Bool :=
  match r.current, k.loop with
  | some step, some l => step.action.target.any (fun goal => approachMet l.case goal step.band n)
  | some _, none | none, some _ | none, none => false

/-- The run enters HOLD at a cavity sample that meets the approach in counting time of HEATUP. -/
def Approaches (n : Nat) (r : Run) (k : Climate) : Prop :=
  r.state = .running ∧ counting r = true ∧ r.phase = some .heatup ∧ approaches n r k = true

theorem enterHold_run (c : Cavity) (k : Case) (n : Nat) (s : State) :
    (enterHold c k n s).runs.get c = { s.runs.get c with phase := some .hold } := PerCavity.get_set_self _ _ _

theorem enterHold_climate (c : Cavity) (k : Case) (n : Nat) (s : State) :
    (enterHold c k n s).climates.get c = { s.climates.get c with
      loop := (s.climates.get c).loop.map (fun l => { l with case := k, reached := true }) } := PerCavity.get_set_self _ _ _

theorem approachSample_of_approaches (h : Approaches n (s.runs.get c) (s.climates.get c)) :
    ∃ l, (s.climates.get c).loop = some l ∧ approachSample c n s = enterHold c l.case n s := by
  obtain ⟨running, counts, phase, met⟩ := h
  unfold approaches at met
  split at met
  · next step l current loop =>
    obtain ⟨goal, target, near⟩ := (Option.any_eq_true _ _).mp met
    refine ⟨l, loop, ?_⟩
    unfold approachSample
    extract_lets r
    rw [if_pos ⟨running, counts, phase⟩, show r.current = _ from current, loop]
    simp only [target, near, if_true]
  all_goals exact absurd met (by decide)

theorem approachSample_of_not_approaches (h : ¬ Approaches n (s.runs.get c) (s.climates.get c)) :
    approachSample c n s = s := by
  unfold approachSample
  extract_lets r
  split
  · next inHeatup =>
    obtain ⟨running, counts, phase⟩ := inHeatup
    split
    · next step l current loop =>
      split
      · next goal target =>
        refine if_neg fun near => h ⟨running, counts, phase, ?_⟩
        rw [approaches, show (s.runs.get c).current = _ from current, loop]
        exact (Option.any_eq_true _ _).mpr ⟨goal, target, near⟩
      · rfl
    all_goals rfl
  · rfl

/-- The run record that a sample leaves to the watches: in HOLD after a cavity sample that meets the approach (R56). -/
def seenRun (source : WatchSource) (n : Nat) (r : Run) (k : Climate) : Run :=
  if source = .cavity ∧ r.state = .running ∧ counting r = true ∧ r.phase = some .heatup ∧ approaches n r k = true
  then { r with phase := some .hold } else r

theorem approachSample_run (c : Cavity) (n : Nat) (s : State) :
    (approachSample c n s).runs.get c = seenRun .cavity n (s.runs.get c) (s.climates.get c) := by
  unfold seenRun
  split
  · next approach =>
    obtain ⟨-, approach⟩ := approach
    obtain ⟨l, -, enters⟩ := approachSample_of_approaches approach
    rw [enters, enterHold_run]
  · next away => rw [approachSample_of_not_approaches fun approach => away ⟨rfl, approach⟩]

/-- The approach changes the phase alone, from HEATUP to HOLD. -/
theorem seenRun_eq (source : WatchSource) (n : Nat) (r : Run) (k : Climate) :
    ∃ phase, seenRun source n r k = { r with phase := phase }
      ∧ inHeatOrHold (seenRun source n r k) = inHeatOrHold r := by
  unfold seenRun
  split
  · next approach =>
    obtain ⟨-, -, -, phase, -⟩ := approach
    exact ⟨_, rfl, by simp [inHeatOrHold, phase]⟩
  · exact ⟨_, rfl, rfl⟩

/-! ## The core end condition (R31) -/

/-- Below its target, or not live, the core end condition is not met. -/
theorem coreSample_of_not_met (h : (s.runs.get c).coreCond ≠ some .live
      ∨ ((s.runs.get c).current.bind (·.action.core)).all (fun goal => n < goal * 10) = true) :
    coreSample c n s = s := by
  unfold coreSample
  extract_lets r
  split
  · next goal core =>
    refine if_neg ?_
    rintro ⟨live, -, reached⟩
    rcases h with dead | below
    · exact dead live
    · rw [show (s.runs.get c).current.bind (·.action.core) = _ from core, Option.all_some, decide_eq_true_iff] at below
      omega
  · rfl

/-! ## The watches of a cavity (R71) -/

theorem evalWatch_of_none (h : watchOf slot (s.climates.get c) = none) : evalWatch c slot source n s = (s, none) := by
  rw [evalWatch, h]

theorem evalWatches_of_none (first : watchOf 1 (s.climates.get c) = none) (second : watchOf 2 (s.climates.get c) = none) :
    evalWatches c source n s = settle c s := by
  rw [evalWatches, evalWatch_of_none first, evalWatch_of_none second]
  rfl

/-- The state in which a watch is disarmed and its trip reported (R71). -/
def tripWatch (c : Cavity) (slot : Nat) (w : Watch) (n : Nat) (s : State) : State :=
  broadcast (.watchTrip c slot w.source n w.action)
    (modClimate c (setWatchSlot slot (some { w with armed := false })) s)

/-- A watch that a sample trips, alone at its cavity. -/
structure TripsAlone (c : Cavity) (slot : Nat) (w : Watch) (n : Nat) (s : State) : Prop where
  place : slot = 1 ∨ slot = 2
  standing : watchOf slot (s.climates.get c) = some w
  alone : watchOf (3 - slot) (s.climates.get c) = none
  armed : w.armed = true
  met : w.relation = .atOrAbove ∧ w.value * 10 ≤ n ∨ w.relation = .atOrBelow ∧ n ≤ w.value * 10

theorem TripsAlone.then_work (h : TripsAlone c slot w n s) (k : WatchWork c s t) : TripsAlone c slot w n t :=
  ⟨h.place, (k.watches slot).trans h.standing, (k.watches _).trans h.alone, h.armed, h.met⟩

theorem TripsAlone.trips (h : TripsAlone c slot w n s) : trips w w.source n = true := by
  rcases h.met with ⟨relation, met⟩ | ⟨relation, met⟩
  all_goals simp [Machine.trips, h.armed, relation, met]

theorem TripsAlone.evalWatch (h : TripsAlone c slot w n s) :
    Machine.evalWatch c slot w.source n s = (tripWatch c slot w n s, some w.action) := by
  rw [Machine.evalWatch, h.standing]
  exact if_pos h.trips

theorem setWatchSlot_slots (place : slot = 1 ∨ slot = 2) (x : Option Watch) (k : Climate) :
    watchOf slot (setWatchSlot slot x k) = x ∧ watchOf (3 - slot) (setWatchSlot slot x k) = watchOf (3 - slot) k := by
  rcases place with rfl | rfl
  all_goals exact ⟨rfl, rfl⟩

/-- The trip of a watch: its slot, the other slot, and WATCH_TRIP at every port (R71, R193). -/
structure WatchTripped (c : Cavity) (slot : Nat) (w : Watch) (n : Nat) (t : State) : Prop where
  disarmed : watchOf slot (t.climates.get c) = some { w with armed := false }
  other : watchOf (3 - slot) (t.climates.get c) = none
  posted : ∀ p, Posted (.watchTrip c slot w.source n w.action) p t

theorem TripsAlone.tripWatch (h : TripsAlone c slot w n s) : WatchTripped c slot w n (tripWatch c slot w n s) := by
  have climate : (Machine.tripWatch c slot w n s).climates.get c
      = setWatchSlot slot (some { w with armed := false }) (s.climates.get c) := PerCavity.get_set_self _ _ _
  obtain ⟨own, other⟩ := setWatchSlot_slots h.place (some { w with armed := false }) (s.climates.get c)
  exact ⟨by rw [climate, own], by rw [climate, other, h.alone], fun p => posted_broadcast _ p _⟩

theorem WatchTripped.then_work (h : WatchTripped c slot w n s) (k : WatchWork c s t) : WatchTripped c slot w n t :=
  ⟨(k.watches slot).trans h.disarmed, (k.watches _).trans h.other, fun p => (h.posted p).of_codeKept k.trips⟩

/-- What the report of a tripped watch makes of the cavity (R44), with what it hands over. -/
def watchActed (c : Cavity) (x : WatchAction) (s : State) : State :=
  settle c (watchPause c (some x) (watchEnd c (some x) s))

theorem TripsAlone.evalWatches (h : TripsAlone c slot w n s) :
    evalWatches c w.source n s = watchActed c w.action (Machine.tripWatch c slot w n s) := by
  have trip := h.evalWatch
  have other := h.alone
  have left := h.tripWatch.other
  rcases h.place with rfl | rfl
  · rw [Machine.evalWatches, trip, evalWatch_of_none left]
    rfl
  · rw [Machine.evalWatches, evalWatch_of_none other, trip]
    rfl

/-- The trip stands after its action. -/
theorem TripsAlone.tripped (h : TripsAlone c slot w n s) : WatchTripped c slot w n (Machine.evalWatches c w.source n s) := by
  rw [h.evalWatches]
  exact h.tripWatch.then_work (WatchWork.refl c _).then_watchEnd.then_watchPause.then_settle

/-! ## The actions (R44) -/

theorem watchEnd_of_other {x : WatchAction} (other : x ≠ .endStep) : watchEnd c (some x) s = s :=
  if_neg fun same => other (Option.some.inj same)

theorem watchPause_of_other {x : WatchAction} (other : x ≠ .pauseRun) : watchPause c (some x) s = s :=
  if_neg fun same => other (Option.some.inj same)

theorem pause_of_not_carrying {reason : PauseReason} (h : (s.runs.get c).state ∉ [.running, .starved]) :
    pause c reason s = s := by
  unfold pause
  extract_lets r paused
  split
  · next running => exact absurd (List.mem_cons.mpr (.inl running)) h
  · next starved => exact absurd (List.mem_cons_of_mem _ (List.mem_singleton.mpr starved)) h
  all_goals rfl

/-- A report leaves the run, but for its denial reason: it is a NOTIFY, or an END_STEP without a step to end, or the run
carries no step in RUNNING or STARVED. -/
def LeavesRun (x : WatchAction) (r : Run) : Prop :=
  x = .notify ∨ r.state ∉ [.running, .starved]
    ∨ (x = .endStep ∧ (r.state ≠ .running ∨ inHeatOrHold r = false))

theorem tryEnd_of_left {x : WatchAction} (h : LeavesRun x (s.runs.get c)) (ends : x = .endStep) : tryEnd c s = s := by
  refine if_neg ?_
  rintro ⟨running, phase⟩
  rcases h with notify | idle | ⟨-, stopped | elsewhere⟩
  · exact absurd (ends.symm.trans notify) (by decide)
  · exact idle (List.mem_cons.mpr (.inl running))
  · exact stopped running
  · exact absurd (phase.symm.trans elsewhere) (by decide)

theorem watchEnd_leaves {x : WatchAction} (h : LeavesRun x (s.runs.get c)) :
    SameRun ((watchEnd c (some x) s).runs.get c) (s.runs.get c) ∧ (watchEnd c (some x) s).queues = s.queues := by
  by_cases ends : x = .endStep
  · have settles : watchEnd c (some x) s = settle c s := by rw [watchEnd, tryEnd_of_left h ends, ends, if_pos rfl]
    rw [settles]
    exact ⟨settle_run c s, settle_queues c s⟩
  · rw [watchEnd_of_other ends]
    exact ⟨rfl, rfl⟩

theorem watchPause_leaves {x : WatchAction} {r : Run} (h : LeavesRun x r) (same : SameRun (s.runs.get c) r) :
    watchPause c (some x) s = s := by
  rcases h with rfl | idle | ⟨rfl, -⟩
  · exact watchPause_of_other (by decide)
  · refine ite_eq_right_iff.mpr fun _ => pause_of_not_carrying ?_
    rw [same.eq_with]
    exact idle
  · exact watchPause_of_other (by decide)

theorem watchActed_leaves {x : WatchAction} (h : LeavesRun x (s.runs.get c)) :
    SameRun ((watchActed c x s).runs.get c) (s.runs.get c) ∧ (watchActed c x s).queues = s.queues := by
  obtain ⟨run, queues⟩ := watchEnd_leaves h
  rw [watchActed, watchPause_leaves h run]
  exact ⟨(settle_run c _).trans run, (settle_queues c _).trans queues⟩

theorem watchActed_endStep (c : Cavity) (s : State) : watchActed c .endStep s = settle c (settle c (tryEnd c s)) := rfl

theorem tryEnd_of_heatOrHold (running : (s.runs.get c).state = .running) (phase : inHeatOrHold (s.runs.get c) = true) :
    tryEnd c s = endCondition c s := if_pos ⟨running, phase⟩

/-- EXIT_PROMPT with its AFTER prompt stays through what a change hands over. -/
theorem ExitPrompted.then_settle {e : PromptSub} (h : ExitPrompted c e s t) : ExitPrompted c e s (settle c t) := by
  obtain ⟨phase, running, current, code, placement, within⟩ := h
  rw [ExitPrompted, (settle_run c t).eq_with, settle_prompt]
  exact ⟨phase, running, current, code, placement, within.trans (settle_within c t)⟩

/-- The end condition of a step without an AFTER prompt enters the record that the walk reaches (R31, R33). -/
theorem endCondition_entered {step : CurrentStep} {load : Nat} {a : Action}
    (running : (s.runs.get c).state = .running) (current : (s.runs.get c).current = some step)
    (noAfter : ∀ e, step.action.prompt = some e → e.placement ≠ .after) (reaches : WalkReaches load a (s.queues.get c)) :
    EnteredStep load a s.settings.approachBand (cavityReading c s) ((endCondition c s).runs.get c) := by
  obtain ⟨⟨out, left⟩, walks, found⟩ := Option.map_eq_some_iff.mp reaches
  obtain rfl : out = some (load, a) := found
  have here : EndsStep c (s.runs.get c) s s := ⟨rfl, rfl, rfl, .refl _ s⟩
  rw [endCondition_of_no_after current noAfter]
  exact (here.entered walks).enteredStep running

end

end Sys2Proof.Machine
end

section
/-! SUPPORT. A delivered cavity or core sample at its users (R29, R31, R44, R56, R71, R162). -/

namespace Sys2Proof.Machine

section
variable {c : Cavity} {s t v : State} {w : Watch} {slot n reading load : Nat} {seen : Run} {a : Action}

/-- The state in which a valid sensor has taken a sample in range (R162). -/
def heard (x : Sensor) (n : Nat) (s : State) : State := withSensor x (heardRecord n (s.sensors.get x)) s

theorem heard_within (x : Sensor) (n : Nat) (s : State) : Within { sensors := true } s (heard x n s) :=
  withSensor_within x _ s

theorem heard_settings (x : Sensor) (n : Nat) (s : State) : (heard x n s).settings = s.settings := rfl

theorem cavityReading_heard (c : Cavity) (n : Nat) (s : State) : cavityReading c (heard (cavitySensor c) n s) = n :=
  cavityReading_of_some (by rw [heard, withSensor_get]; rfl)

theorem exec_cavitySample (held : s.resetHeld = false) (valid : (s.sensors.get (cavitySensor c)).status = .valid)
    (low : n ≤ 3000) : exec (.sensorSample (cavitySensor c) (.tenths n)) s
      = .next (evalWatches c .cavity n (approachSample c n (heard (cavitySensor c) n s))) :=
  (exec_sample_delivered held valid (le_sensorMax_cavity c low)).trans (congrArg _ (deliver_cavitySensor c n _))

theorem exec_coreSample (held : s.resetHeld = false) (valid : (s.sensors.get (coreSensor c)).status = .valid)
    (low : n ≤ 1200) : exec (.sensorSample (coreSensor c) (.tenths n)) s
      = .next (evalWatches c .core n (coreSample c n (heard (coreSensor c) n s))) :=
  (exec_sample_delivered held valid (le_sensorMax_core c low)).trans (congrArg _ (deliver_coreSensor c n _))

/-! ## Without a watch -/

/-- The approach enters HOLD at a cavity without a watch (R29, R56). -/
theorem approach_entersHold {l : Loop} (held : s.resetHeld = false)
    (valid : (s.sensors.get (cavitySensor c)).status = .valid) (low : n ≤ 3000)
    (first : (s.climates.get c).watch1 = none) (second : (s.climates.get c).watch2 = none)
    (loop : (s.climates.get c).loop = some l) (approach : Approaches n (s.runs.get c) (s.climates.get c))
    (settled : (s.climates.get c).restartOwed = false) :
    ∃ t, exec (.sensorSample (cavitySensor c) (.tenths n)) s = .next t ∧ (t.runs.get c).phase = some .hold
      ∧ (t.climates.get c).loop = some { l with reached := true } ∧ (t.runs.get c).current = (s.runs.get c).current := by
  obtain ⟨l', loop', enters⟩ := approachSample_of_approaches (s := heard (cavitySensor c) n s) approach
  obtain rfl : l = l' := Option.some.inj (loop.symm.trans loop')
  have climate := enterHold_climate c l.case n (heard (cavitySensor c) n s)
  have run := (settle_run c (enterHold c l.case n (heard (cavitySensor c) n s))).eq_with
  have climates : (settle c (enterHold c l.case n (heard (cavitySensor c) n s))).climates
      = (enterHold c l.case n (heard (cavitySensor c) n s)).climates := by
    rw [settle_climates, settleClimate_of_not_owed (by rw [climate]; exact settled)]
  have exec := exec_cavitySample held valid low
  rw [enters, evalWatches_of_none (by rw [climate]; exact first) (by rw [climate]; exact second)] at exec
  refine ⟨_, exec, ?_, ?_, ?_⟩
  · rw [run, enterHold_run]
  · rw [climates, climate, loop']
    rfl
  · rw [run, enterHold_run]
    rfl

theorem inHeatOrHold_of_phase {r : Run} (h : r.phase = some .heatup ∨ r.phase = some .hold) : inHeatOrHold r = true := by
  rcases h with phase | phase
  all_goals simp [inHeatOrHold, phase]

/-- A core sample that ends a step, at a cavity without a watch (R31). -/
theorem exec_coreSample_of_met {step : CurrentStep} {goal : Nat} (held : s.resetHeld = false)
    (valid : (s.sensors.get (coreSensor c)).status = .valid) (low : n ≤ 1200)
    (first : (s.climates.get c).watch1 = none) (second : (s.climates.get c).watch2 = none)
    (current : (s.runs.get c).current = some step) (core : step.action.core = some goal)
    (live : (s.runs.get c).coreCond = some .live) (running : (s.runs.get c).state = .running)
    (counts : counting (s.runs.get c) = true)
    (phase : (s.runs.get c).phase = some .heatup ∨ (s.runs.get c).phase = some .hold) (reached : goal * 10 ≤ n) :
    exec (.sensorSample (coreSensor c) (.tenths n)) s
      = .next (settle c (settle c (endCondition c (heard (coreSensor c) n s)))) := by
  have target : ((heard (coreSensor c) n s).runs.get c).current.bind (·.action.core) = some goal := by
    rw [show (heard (coreSensor c) n s).runs = s.runs from rfl, current, Option.bind_some, core]
  have ends : coreSample c n (heard (coreSensor c) n s) = settle c (endCondition c (heard (coreSensor c) n s)) := by
    rw [coreSample, target]
    exact (if_pos ⟨live, counts, reached⟩).trans
      (congrArg _ (tryEnd_of_heatOrHold running (inHeatOrHold_of_phase phase)))
  have work : WatchWork c s (settle c (endCondition c (heard (coreSensor c) n s))) :=
    ((WatchWork.refl c s).then_within (heard_within (coreSensor c) n s) rfl).then_endCondition.then_settle
  rw [exec_coreSample held valid low, ends,
    evalWatches_of_none ((work.watches 1).trans first) ((work.watches 2).trans second)]

/-- The end condition of a step with an AFTER prompt takes nothing from the queue. -/
theorem endCondition_queues {step : CurrentStep} {e : PromptSub} (current : (s.runs.get c).current = some step)
    (prompt : step.action.prompt = some e) (after : e.placement = .after) : (endCondition c s).queues = s.queues := by
  have asks : (s.runs.get c).current.bind (fun step => entryPrompt step.action .after) = some e := by
    rw [current, Option.bind_some, entryPrompt, prompt]
    exact if_pos after
  rw [endCondition, asks]
  exact ((raiseRecipe_within c e _).queues_eq rfl).trans ((cancelProbePrompt_within c _).queues_eq rfl)

/-! ## With a watch -/

/-- What a sample of either source leaves to the watches. -/
structure Sighted (c : Cavity) (seen : Run) (reading : Nat) (s v : State) : Prop where
  run : v.runs.get c = seen
  queues : v.queues = s.queues
  settings : v.settings = s.settings
  reading : cavityReading c v = reading
  work : WatchWork c s v

theorem sighted_cavity (c : Cavity) (n : Nat) (s : State) :
    Sighted c (seenRun .cavity n (s.runs.get c) (s.climates.get c)) n s
      (approachSample c n (heard (cavitySensor c) n s)) := by
  have w := approachSample_within c n (heard (cavitySensor c) n s)
  refine ⟨approachSample_run c n _, w.queues_eq rfl, w.settings_eq rfl, ?_,
    ((WatchWork.refl c s).then_within (heard_within _ n s) rfl).then_approachSample⟩
  rw [w.cavityReading_eq c ⟨rfl, rfl⟩, cavityReading_heard]

theorem sighted_core (c : Cavity) (n : Nat) (s : State) :
    Sighted c (seenRun .core n (s.runs.get c) (s.climates.get c)) (cavityReading c s) s (heard (coreSensor c) n s) :=
  ⟨rfl, rfl, rfl, cavityReading_withCore c _ s, (WatchWork.refl c s).then_within (heard_within _ n s) rfl⟩

/-- A sample of a watch's source, where no core end condition is met, reaches the watches. -/
theorem exec_sighted (held : s.resetHeld = false)
    (cavity : w.source = .cavity → (s.sensors.get (cavitySensor c)).status = .valid ∧ n ≤ 3000)
    (core : w.source = .core → (s.sensors.get (coreSensor c)).status = .valid ∧ n ≤ 1200
      ∧ ((s.runs.get c).coreCond ≠ some .live
        ∨ ((s.runs.get c).current.bind (·.action.core)).all (fun goal => n < goal * 10) = true)) :
    ∃ v, exec (if w.source = .cavity then .sensorSample (cavitySensor c) (.tenths n)
          else .sensorSample (coreSensor c) (.tenths n)) s = .next (evalWatches c w.source n v)
      ∧ Sighted c (seenRun w.source n (s.runs.get c) (s.climates.get c))
          (if w.source = .cavity then n else cavityReading c s) s v := by
  cases source : w.source with
  | cavity =>
    obtain ⟨valid, low⟩ := cavity source
    exact ⟨_, exec_cavitySample held valid low, sighted_cavity c n s⟩
  | core =>
    obtain ⟨valid, low, unmet⟩ := core source
    have exec := exec_coreSample held valid low
    rw [coreSample_of_not_met (s := heard (coreSensor c) n s) unmet] at exec
    exact ⟨_, exec, sighted_core c n s⟩

/-- A report that leaves the run as it stood leaves it as the sample does. -/
theorem leavesRun_seenRun {x : WatchAction} {r : Run} (k : Climate) (source : WatchSource)
    (h : x = .notify ∨ r.state ∉ [.running, .starved]
      ∨ (x = .endStep ∧ (r.state ≠ .running ∨ (r.phase ≠ some .heatup ∧ r.phase ≠ some .hold)))) :
    LeavesRun x (seenRun source n r k) := by
  obtain ⟨phase, same, heatOrHold⟩ := seenRun_eq source n r k
  have state : (seenRun source n r k).state = r.state := by rw [same]
  rw [LeavesRun, heatOrHold, state]
  refine h.imp_right (.imp_right (.imp_right (.imp_right ?_)))
  rintro ⟨heatup, hold⟩
  simp [inHeatOrHold, heatup, hold]

namespace Sighted

variable (h : Sighted c seen reading s v)
include h

theorem watch_leaves (trip : TripsAlone c slot w n v) (leaves : LeavesRun w.action seen) :
    SameRun ((evalWatches c w.source n v).runs.get c) seen ∧ (evalWatches c w.source n v).queues = s.queues := by
  rw [← h.run] at leaves ⊢
  rw [← h.queues, trip.evalWatches]
  exact watchActed_leaves (s := tripWatch c slot w n v) leaves

theorem watch_ends (trip : TripsAlone c slot w n v) (action : w.action = .endStep) (running : seen.state = .running)
    (phase : inHeatOrHold seen = true) :
    evalWatches c w.source n v = settle c (settle c (endCondition c (tripWatch c slot w n v))) := by
  rw [← h.run] at running phase
  rw [trip.evalWatches, action, watchActed_endStep, tryEnd_of_heatOrHold (s := tripWatch c slot w n v) running phase]

theorem watch_exitPrompts {step : CurrentStep} {e : PromptSub} (trip : TripsAlone c slot w n v)
    (action : w.action = .endStep) (running : seen.state = .running) (phase : inHeatOrHold seen = true)
    (current : seen.current = some step) (prompt : step.action.prompt = some e) (after : e.placement = .after) :
    ExitPrompted c e (tripWatch c slot w n v) (evalWatches c w.source n v) := by
  rw [h.watch_ends trip action running phase]
  rw [← h.run] at running current
  exact (endCondition_exitPrompted (.refl _ (tripWatch c slot w n v)) running rfl current prompt after).then_settle

theorem watch_entersStep {step : CurrentStep} (trip : TripsAlone c slot w n v)
    (action : w.action = .endStep) (running : seen.state = .running) (phase : inHeatOrHold seen = true)
    (current : seen.current = some step) (noAfter : ∀ e, step.action.prompt = some e → e.placement ≠ .after)
    (reaches : WalkReaches load a (s.queues.get c)) :
    EnteredStep load a s.settings.approachBand reading ((evalWatches c w.source n v).runs.get c) := by
  rw [h.watch_ends trip action running phase]
  rw [← h.run] at running current
  rw [← h.queues] at reaches
  have entered := endCondition_entered (s := tripWatch c slot w n v) running current noAfter reaches
  rw [show cavityReading c (tripWatch c slot w n v) = cavityReading c v from rfl, h.reading,
    show (tripWatch c slot w n v).settings = v.settings from rfl, h.settings] at entered
  exact entered.of_sameRun ((settle_run c _).trans (settle_run c _))

theorem watch_pauses (trip : TripsAlone c slot w n v) (action : w.action = .pauseRun)
    (carries : seen.state = .running ∨ seen.state = .starved) :
    (evalWatches c w.source n v).runs.get c = pausedRun seen .watch ∧ AllFrozen c (evalWatches c w.source n v)
      ∧ (evalWatches c w.source n v).queues = s.queues := by
  rw [← h.run] at carries ⊢
  have pauses : evalWatches c w.source n v = settle c (pause c .watch (tripWatch c slot w n v)) := by
    rw [trip.evalWatches, action]
    rfl
  obtain ⟨run, queues, frozen, -⟩ := settle_pause (reason := .watch) (s := tripWatch c slot w n v) carries
  rw [pauses]
  exact ⟨run, frozen, queues.trans h.queues⟩

end Sighted

end

end Sys2Proof.Machine
end

section
/-! SUPPORT. A core sensor's fault as a probe removal, its clearing as an insertion (R49, R163, R164; log 16), and a cavity
sensor's fault (R48). -/

namespace Sys2Proof.Machine

section
variable {c : Cavity} {s t u : State} {r r' : Run} {step : CurrentStep} {goal n : Nat}

theorem probeStep_of_core (state : r.state = .running ∨ r.state = .paused) (current : r.current = some step)
    (core : step.action.core ≠ none) (phase : r.phase = some .heatup ∨ r.phase = some .hold) : probeStep r = true := by
  have target : (r.current.bind (·.action.core)).isSome = true := by
    rw [current, Option.bind_some]
    exact Option.isSome_iff_ne_none.mpr core
  rw [probeStep, inHeatOrHold_of_phase phase, target]
  rcases state with state | state
  all_goals simp [state]

/-! ## The probe lost -/

/-- The state in which a step waits for its probe, INSERT_PROBE raised (R49). -/
def probeAsked (c : Cavity) (s : State) : State :=
  raiseDevice (cavityOwner c) 243 (modRun c (fun r => { r with coreCond := some .waitingProbe }) s)

theorem probeAsked_run (c : Cavity) (s : State) :
    (probeAsked c s).runs.get c = { s.runs.get c with coreCond := some .waitingProbe } := by
  rw [probeAsked, (raiseDevice_within _ _ _).runs_eq rfl, modRun_runs, PerCavity.get_set_self]

theorem probeAsked_within (c : Cavity) (s : State) : Within .run s (probeAsked c s) :=
  ((within_modRun c _ rfl).mpr (.refl _ s)).trans ((raiseDevice_within _ _ _).mono rfl)

theorem probeAsked_code (c : Cavity) (s : State) :
    ((probeAsked c s).prompts.get (cavityOwner c)).map (·.code) = some 243 := by
  obtain ⟨code, -⟩ := raisePrompt_get (cavityOwner c) 243 .device false 0 none
    (modRun c (fun r => { r with coreCond := some .waitingProbe }) s)
  exact code

/-- A step with a duration goes on without its core target (R49). -/
theorem probeLost_suspends (acts : probeStep (s.runs.get c) = true) (live : (s.runs.get c).coreCond = some .live)
    (current : (s.runs.get c).current = some step) (timed : step.action.duration ≠ none) :
    probeLost c s = modRun c (fun r => { r with coreCond := some .suspended }) s := by
  rw [probeLost, if_pos ⟨acts, live⟩, current]
  exact if_pos (Option.isSome_iff_ne_none.mpr timed)

/-- A step without a duration asks for its probe, and a RUNNING run is paused (R49). -/
theorem probeLost_asks (acts : probeStep (s.runs.get c) = true) (live : (s.runs.get c).coreCond = some .live)
    (current : (s.runs.get c).current = some step) (untimed : step.action.duration = none) :
    ((s.runs.get c).state = .running → probeLost c s = settle c (pause c .probe (probeAsked c s)))
      ∧ ((s.runs.get c).state = .paused → probeLost c s = probeAsked c s) := by
  have asks : probeLost c s
      = if (s.runs.get c).state = .running then settle c (pause c .probe (probeAsked c s)) else probeAsked c s := by
    rw [probeLost, if_pos ⟨acts, live⟩, current]
    refine if_neg ?_
    rw [Option.bind_some, untimed]
    decide
  refine ⟨fun running => asks.trans (if_pos running), fun paused => asks.trans (if_neg ?_)⟩
  rw [paused]
  decide

/-- What the loss of the probe leaves of a step without a duration (R49). -/
structure ProbeWaits (c : Cavity) (r : Run) (s t : State) : Prop where
  run : t.runs.get c = r
  code : (t.prompts.get (cavityOwner c)).map (·.code) = some 243
  within : Within .run s t

theorem probeAsked_waits (c : Cavity) (s : State) :
    ProbeWaits c { s.runs.get c with coreCond := some .waitingProbe } s (probeAsked c s) :=
  ⟨probeAsked_run c s, probeAsked_code c s, probeAsked_within c s⟩

theorem ProbeWaits.then_pause (h : ProbeWaits c r s t) (running : r.state = .running) :
    ProbeWaits c (pausedRun r .probe) s (settle c (pause c .probe t)) := by
  rw [← h.run] at running
  obtain ⟨run, -, -, within⟩ := settle_pause (reason := .probe) (.inl running)
  refine ⟨by rw [run, h.run], ?_, h.within.trans within⟩
  rw [settle_prompt, (pause_within c .probe t).prompts_eq rfl, h.code]

/-! ## The probe found -/

theorem probeFound_live (acts : probeStep (s.runs.get c) = true)
    (cond : (s.runs.get c).coreCond = some .suspended ∨ (s.runs.get c).coreCond = some .waitingProbe) :
    probeFound c s = modRun c (fun r => { r with coreCond := some .live }) s := if_pos ⟨acts, cond⟩

theorem removePrompt_get (o : Owner) (x : ClearReason) (s : State) : (removePrompt o x s).prompts.get o = none := by
  unfold removePrompt
  split
  · exact PerOwner.get_set_self _ _ _
  · assumption

theorem WatchWork.then_removePrompt {o : Owner} {x : ClearReason} (h : WatchWork c s t) :
    WatchWork c s (removePrompt o x t) :=
  h.then_codes ((removePrompt_within o x t).climates_eq rfl) (.then_removePrompt (.refl t))

theorem WatchWork.then_handBack (h : WatchWork c s t) : WatchWork c s (handBack c t) := by
  have owed : WatchWork c s (oweRestart c (takeOverlays c t)) :=
    .ite (h.then_modRun.then_modClimate fun _ _ => rfl) h.then_modRun
  exact owed.then_settle

theorem handBack_prompt (c : Cavity) (s : State) :
    (handBack c s).prompts.get (cavityOwner c) = s.prompts.get (cavityOwner c) := by
  rw [handBack, settle_prompt, (oweRestart_within c _).prompts_eq rfl, (takeOverlays_within c _).prompts_eq rfl]

/-- INSERT_PROBE stands in the cavity's entry. -/
def AsksProbe (c : Cavity) (s : State) : Prop := (s.prompts.get (cavityOwner c)).map (·.code) = some 243

/-- What the return of the probe leaves at the prompt table and the run (R49, R157). -/
structure ProbeBack (c : Cavity) (r : Run) (s t : State) : Prop where
  run : SameRun (t.runs.get c) r
  prompt : AsksProbe c s → t.prompts.get (cavityOwner c) = none
  sensors : t.sensors = s.sensors
  work : WatchWork c s t

theorem ProbeBack.then_settle (h : ProbeBack c r s t) : ProbeBack c r s (settle c t) :=
  ⟨(settle_run c t).trans h.run, fun asks => (settle_prompt c t).trans (h.prompt asks),
    ((settle_within c t).sensors_eq rfl).trans h.sensors, h.work.then_settle⟩

theorem probeAnswer_of_not_asked (h : ¬ AsksProbe c s) : probeAnswer c s = s := by
  unfold probeAnswer
  split
  · next e entry =>
    refine if_neg fun ack => h ?_
    rw [AsksProbe, entry, Option.map_some, of_decide_eq_true ack]
  · rfl

theorem probeAnswer_of_asked (h : AsksProbe c s) :
    probeAnswer c s = resumeForProbe c (removePrompt (cavityOwner c) .probe s) := by
  obtain ⟨e, entry, code⟩ := Option.map_eq_some_iff.mp h
  rw [probeAnswer, entry]
  exact if_pos (decide_eq_true code)

theorem removed_back (c : Cavity) (s : State) :
    ProbeBack c (s.runs.get c) s (removePrompt (cavityOwner c) .probe s) := by
  have w := removePrompt_within (cavityOwner c) .probe s
  exact ⟨by rw [w.runs_eq rfl]; rfl, fun _ => removePrompt_get _ _ s, w.sensors_eq rfl, (WatchWork.refl c s).then_removePrompt⟩

/-- The probe's return leaves a run that is not PAUSED for it (R49, R157). -/
theorem probeAnswer_stays (h : ¬ (AsksProbe c s ∧ (s.runs.get c).state = .paused
    ∧ (s.runs.get c).pauseReason = some .probe)) : ProbeBack c (s.runs.get c) s (probeAnswer c s) := by
  by_cases asks : AsksProbe c s
  · have stays : probeAnswer c s = removePrompt (cavityOwner c) .probe s := by
      rw [probeAnswer_of_asked asks]
      refine if_neg ?_
      rw [(removePrompt_within _ _ _).runs_eq rfl]
      exact fun paused => h ⟨asks, paused⟩
    rw [stays]
    exact removed_back c s
  · rw [probeAnswer_of_not_asked asks]
    exact ⟨rfl, fun asked => absurd asked asks, rfl, .refl c s⟩

/-- The probe's return resumes a run PAUSED for it (R39, R49). -/
theorem probeAnswer_resumes (asks : AsksProbe c s) (paused : (s.runs.get c).state = .paused)
    (reason : (s.runs.get c).pauseReason = some .probe) (inTime : ResumesInTime (s.runs.get c) s) :
    ProbeBack c (resumedRun c (s.runs.get c) s) s (probeAnswer c s) := by
  have w := removePrompt_within (cavityOwner c) .probe s
  have runs := w.runs_eq rfl
  obtain ⟨undeferred, late⟩ := inTime
  have resumes : probeAnswer c s = handBack c (unpaused c (removePrompt (cavityOwner c) .probe s)) := by
    rw [probeAnswer_of_asked asks, resumeForProbe, runs, if_pos ⟨paused, reason⟩]
    refine resume_returns ?_ ?_
    · rw [runs, undeferred]
    · rw [runs, w.settings_eq rfl]
      exact late
  obtain ⟨run, -⟩ := handBack_unpaused c (removePrompt (cavityOwner c) .probe s)
  rw [runs, resumedRun, w.doorOpen_eq rfl, w.mains_eq rfl] at run
  obtain ⟨-, prompt, sensors, work⟩ := removed_back c s
  rw [resumes]
  refine ⟨run, fun asked => (handBack_prompt c _).trans (prompt asked), ?_, work.then_modRun.then_handBack⟩
  rw [(handBack_within c _).sensors_eq rfl, (unpaused_within c _).sensors_eq rfl, sensors]

/-- A core sample below the target, at a cavity without a watch, leaves what the return of the probe left (R31, R164). -/
theorem ProbeBack.deliver (h : ProbeBack c r s t) (first : (s.climates.get c).watch1 = none)
    (second : (s.climates.get c).watch2 = none) (current : r.current = some step) (core : step.action.core = some goal)
    (below : n < goal * 10) : ProbeBack c r s (deliver (coreSensor c) n t) := by
  have unmet : ((t.runs.get c).current.bind (·.action.core)).all (fun goal => n < goal * 10) = true := by
    rw [h.run.eq_with, current, Option.bind_some, core, Option.all_some]
    exact decide_eq_true below
  rw [deliver_coreSensor, coreSample_of_not_met (.inr unmet),
    evalWatches_of_none ((h.work.watches 1).trans first) ((h.work.watches 2).trans second)]
  exact h.then_settle

end

end Sys2Proof.Machine
end

section
/-! SUPPORT. The steam generator at a delivered sample and at its sensor's fault (R91, R101, R109, R134). -/

namespace Sys2Proof.Machine

section
variable {s t : State} {n : Nat} {g : GenState} {prep : Gen → Gen}

/-- The state entered, before STEAM_DENIED is looked at (R91). -/
def enteredGen (g : GenState) (prep : Gen → Gen) (s : State) : State :=
  heatInstruction g (modGen (fun x => prep (genFields g x)) s)

/-- A state entry changes after it only denial reasons and causes (R91, R96). -/
theorem enterGen_from_entered (g : GenState) (prep : Gen → Gen) (s : State) :
    Within { runs := true, attention := true } (enteredGen g prep s) (enterGen g prep s) := by
  unfold enterGen
  extract_lets left before heated told
  have tell : Within { runs := true, attention := true } heated told :=
    (within_broadcast _ rfl).mpr (.refl _ heated)
  split
  · exact tell
  · exact tell.trans (refuseBoth_within told)

theorem enterGen_gen (g : GenState) (prep : Gen → Gen) (s : State) : (enterGen g prep s).gen = prep (genFields g s.gen) := by
  rw [(enterGen_from_entered g prep s).gen_eq rfl, enteredGen, (heatInstruction_within g _).gen_eq rfl]
  rfl

theorem Within.holdsOf_eq {f : Parts} (w : Within f s t) (k : f.timers = false) (l : Load) :
    holdsOf l t = holdsOf l s := (HoldsKept.refl l s).then_within w k

/-- READY heats at the standby holds (R101). -/
theorem enterGen_ready_holds (prep : Gen → Gen) (s : State) : holdsOf .genHeat (enterGen .ready prep s) = (60, 140) := by
  rw [(enterGen_from_entered .ready prep s).holdsOf_eq rfl]
  exact holdsOf_writeHolds _ _ _ _

/-- FAULT takes the heater from the chain (R101, R109). -/
theorem enterGen_fault_heater (prep : Gen → Gen) (s : State) : (enterGen .fault prep s).arbiter.genHeat = .none := by
  rw [(enterGen_from_entered .fault prep s).arbiter_eq rfl]
  exact stopTimer_arbiter .genHeat _

theorem abandonFill_gen (s : State) : ∃ fill, (abandonFill s).gen = { s.gen with fill := fill } := by
  unfold abandonFill
  split
  · exact ⟨none, congrArg (fun g : Gen => { g with fill := none }) ((cancelPrompt_within _ _).gen_eq rfl)⟩
  · exact ⟨s.gen.fill, rfl⟩

/-! ## A fault (R109) -/

/-- A generator fault as the generator sees it (R109). -/
structure GenFaulted (k : FaultKind) (s t : State) : Prop where
  state : t.gen.state = .fault
  kind : t.gen.faultKind = some k
  left : t.gen.faultFrom = some s.gen.state
  credit : t.gen.credit = s.gen.credit
  heater : t.arbiter.genHeat = .none

theorem genFaultCore_faulted (k : FaultKind) (s : State) : GenFaulted k s (genFaultCore k s) := by
  obtain ⟨fill, abandoned⟩ := abandonFill_gen s
  have faulted : (genFaultCore k s).gen
      = { genFields .fault (abandonFill s).gen with faultKind := some k, faultFrom := some s.gen.state } := by
    rw [genFaultCore, broadcast_gen, enterGen_gen]
  have heater : (genFaultCore k s).arbiter.genHeat = .none := by
    rw [genFaultCore, broadcast_arbiter, enterGen_fault_heater]
  rw [abandoned] at faulted
  refine ⟨?_, ?_, ?_, ?_, heater⟩
  all_goals rw [faulted]
  all_goals rfl

/-- The abort of a procedure leaves the generator and the chain. -/
theorem abortCore_from (x : ProcAbort) (s : State) :
    (abortCore x s).gen = s.gen ∧ (abortCore x s).arbiter = s.arbiter := by
  unfold abortCore
  extract_lets kind phase owed idle
  have cancel := cancelPrompt_within .descaler owed
  have entered := enterIdle_within kind (.aborted kind x phase) (cancelPrompt .descaler owed)
  exact ⟨(entered.gen_eq rfl).trans (cancel.gen_eq rfl), (entered.arbiter_eq rfl).trans (cancel.arbiter_eq rfl)⟩

theorem genFault_faulted {k : FaultKind} (working : s.gen.state ≠ .fault) : GenFaulted k s (genFault k s) := by
  have core := genFaultCore_faulted k s
  unfold genFault
  rw [if_neg working]
  split
  · obtain ⟨gen, arbiter⟩ := abortCore_from .fault (genFaultCore k s)
    exact ⟨by rw [gen, core.state], by rw [gen, core.kind], by rw [gen, core.left], by rw [gen, core.credit],
      by rw [arbiter, core.heater]⟩
  · exact core

/-! ## A delivered sample (R101, R109, R134) -/

theorem genSample_of_dryBoil (hot : 1400 ≤ n) (granted : s.arbiter.genHeat = .granted) (working : s.gen.state ≠ .fault) :
    genSample n s = genFault .dryBoil s := if_pos ⟨hot, granted, working⟩

/-- Without a dry boil a sample acts in HEATING and in HEAT_SOAK alone. -/
theorem genSample_of_calm (calm : n < 1400 ∨ s.arbiter.genHeat ≠ .granted) :
    genSample n s
      = if s.gen.state = .heating then if s.settings.readyTemp * 10 ≤ n then enterGen .ready id s else s
        else if s.gen.state = .descale ∧ s.proc.phase = .heatSoak then
          if s.settings.soakTemp * 10 ≤ n then enterSoak s else s
        else s := by
  refine if_neg ?_
  rintro ⟨hot, granted, -⟩
  rcases calm with cool | out
  · exact absurd hot (Nat.not_le.mpr cool)
  · exact out granted

theorem genSample_of_heating (calm : n < 1400 ∨ s.arbiter.genHeat ≠ .granted) (heating : s.gen.state = .heating) :
    genSample n s = if s.settings.readyTemp * 10 ≤ n then enterGen .ready id s else s :=
  (genSample_of_calm calm).trans (if_pos heating)

theorem genSample_of_heatSoak (calm : n < 1400 ∨ s.arbiter.genHeat ≠ .granted) (descale : s.gen.state = .descale)
    (phase : s.proc.phase = .heatSoak) :
    genSample n s = if s.settings.soakTemp * 10 ≤ n then enterSoak s else s := by
  refine (genSample_of_calm calm).trans ((if_neg ?_).trans (if_pos ⟨descale, phase⟩))
  rw [descale]
  decide

/-- What the entry to SOAK leaves at a reading at the soak temperature (R134). -/
structure SoakEntered (s t : State) : Prop where
  proc : t.proc = { s.proc with phase := .soak, promptId := none, soakTime := some 0, savedPhase := some .soak }
  update : t.gen.soakUpdate = some 0
  holds : holdsOf .genHeat t = (0, 200)
  within : Within .descale s t

theorem enterSoak_entered (read : s.sensors.genTemp.reading = some n) (warm : s.settings.soakTemp * 10 ≤ n) :
    SoakEntered s (enterSoak s) := by
  have entered := enterPhase_within .soak s
  have computed := soakCompute_within (modProc (fun r => { r with soakTime := some 0 }) (enterPhase .soak s))
  refine ⟨?_, ?_, ?_, enterSoak_within s⟩
  · rw [enterSoak, computed.proc_eq rfl]
    exact congrArg (fun r => { r with soakTime := some 0 }) (enterPhase_proc .soak s)
  · rw [enterSoak, soakCompute_gen]
  · have holds := soakCompute_holds (s := modProc (fun r => { r with soakTime := some 0 }) (enterPhase .soak s)) (n := n)
      (by rw [← read]; exact congrArg (·.genTemp.reading) (entered.sensors_eq rfl))
    rw [show (modProc (fun r => { r with soakTime := some 0 }) (enterPhase .soak s)).settings = s.settings from
      entered.settings_eq rfl, demandPercent_eq_zero _ (by omega)] at holds
    exact holds

end

end Sys2Proof.Machine
end

section
/-! SUPPORT. Samples, faults and their clearing at the sensor's users (R31, R48, R49, R101, R109, R134, R162 to R164). -/

namespace Sys2Proof.Machine

section
variable {c : Cavity} {n m : Nat} {s : State} {step : CurrentStep} {goal : Nat}

theorem approaches_of_met {r : Run} {k : Climate} {l : Loop} (current : r.current = some step)
    (target : step.action.target = some goal) (loop : k.loop = some l)
    (met : approachMet l.case goal step.band n = true) : approaches n r k = true := by
  rw [approaches, current, loop]
  exact (Option.any_eq_true _ _).mpr ⟨goal, target, met⟩

/-- The fault of a core sensor acts as a probe removal (R49; log 16). -/
theorem coreFault_losesProbe (held : s.resetHeld = false) (suspect : (s.sensors.get (coreSensor c)).status = .suspect)
    (time : (s.sensors.get (coreSensor c)).runTime = some m) (late : 1000 ≤ m + 250)
    (state : (s.runs.get c).state = .running ∨ (s.runs.get c).state = .paused)
    (current : (s.runs.get c).current = some step) (core : step.action.core ≠ none)
    (phase : (s.runs.get c).phase = some .heatup ∨ (s.runs.get c).phase = some .hold)
    (live : (s.runs.get c).coreCond = some .live) :
    ∃ t, exec (.sensorSample (coreSensor c) .openOrShorted) s = .next t
      ∧ (t.sensors.get (coreSensor c)).status = .faulted
      ∧ (step.action.duration ≠ none → t.runs.get c = { s.runs.get c with coreCond := some .suspended })
      ∧ (step.action.duration = none →
          (t.prompts.get (cavityOwner c)).map (·.code) = some 243
          ∧ ((s.runs.get c).state = .running →
              t.runs.get c = pausedRun { s.runs.get c with coreCond := some .waitingProbe } .probe)
          ∧ ((s.runs.get c).state = .paused → t.runs.get c = { s.runs.get c with coreCond := some .waitingProbe })) := by
  have acts := probeStep_of_core state current core phase
  have exec := exec_sample_faulted held suspect time late
  rw [handFault_coreSensor] at exec
  have sensor : ((probeLost c (faultTold (coreSensor c) s)).sensors.get (coreSensor c)).status = .faulted := by
    rw [(probeLost_within c _).sensors_eq rfl]
    exact congrArg (·.status) (withSensor_get (coreSensor c) faultRecord s)
  refine ⟨_, exec, sensor, fun timed => ?suspends, fun untimed => ?asks⟩
  case suspends =>
    rw [probeLost_suspends (s := faultTold (coreSensor c) s) acts live current timed, modRun_runs,
      PerCavity.get_set_self]
    rfl
  case asks =>
    obtain ⟨pauses, waits⟩ := probeLost_asks (s := faultTold (coreSensor c) s) acts live current untimed
    have asked := probeAsked_waits c (faultTold (coreSensor c) s)
    rcases state with running | paused
    · rw [pauses running]
      have held := asked.then_pause running
      exact ⟨held.code, fun _ => held.run, fun other => absurd (running.symm.trans other) (by decide)⟩
    · rw [waits paused]
      exact ⟨asked.code, fun other => absurd (paused.symm.trans other) (by decide), fun _ => asked.run⟩

/-- The state in which a core sensor's fault has cleared and its step goes by the core target again (R49). -/
def probeReturned (c : Cavity) (n : Nat) (s : State) : State :=
  modRun c (fun r => { r with coreCond := some .live }) (clearTold (coreSensor c) n s)

theorem probeReturned_run (c : Cavity) (n : Nat) (s : State) :
    (probeReturned c n s).runs.get c = { s.runs.get c with coreCond := some .live } := PerCavity.get_set_self _ _ _

/-- The clearing of a core sensor's fault acts as a probe insertion (R49; log 16), before the sample is delivered. -/
theorem exec_coreClear (held : s.resetHeld = false) (faulted : (s.sensors.get (coreSensor c)).status = .faulted)
    (time : (s.sensors.get (coreSensor c)).runTime = some m) (late : 5000 ≤ m + 250) (low : n ≤ 1200)
    (state : (s.runs.get c).state = .running ∨ (s.runs.get c).state = .paused)
    (current : (s.runs.get c).current = some step) (core : step.action.core = some goal)
    (phase : (s.runs.get c).phase = some .heatup ∨ (s.runs.get c).phase = some .hold)
    (cond : (s.runs.get c).coreCond = some .suspended ∨ (s.runs.get c).coreCond = some .waitingProbe) :
    exec (.sensorSample (coreSensor c) (.tenths n)) s
      = .next (deliver (coreSensor c) n (probeAnswer c (probeReturned c n s))) := by
  have acts := probeStep_of_core state current (by rw [core]; exact Option.some_ne_none goal) phase
  rw [exec_sample_cleared held faulted time late (le_sensorMax_core c low), handClear_coreSensor,
    probeFound_live (s := clearTold (coreSensor c) n s) acts cond]
  rfl

/-- What the clearing leaves after the delivered sample, at a cavity without a watch and below the core target. -/
theorem ProbeBack.cleared {r : Run}
    (h : ProbeBack c r (probeReturned c n s) (probeAnswer c (probeReturned c n s)))
    (first : (s.climates.get c).watch1 = none) (second : (s.climates.get c).watch2 = none)
    (current : r.current = some step) (core : step.action.core = some goal) (below : n < goal * 10) :
    let t := Machine.deliver (coreSensor c) n (probeAnswer c (probeReturned c n s))
    (t.sensors.get (coreSensor c)).status = .valid ∧ SameRun (t.runs.get c) r
      ∧ ((s.prompts.get (cavityOwner c)).map (·.code) = some 243 → t.prompts.get (cavityOwner c) = none) := by
  intro t
  have back : ProbeBack c r (probeReturned c n s) t := h.deliver first second current core below
  refine ⟨?_, back.run, back.prompt⟩
  rw [back.sensors]
  exact congrArg (·.status) (withSensor_get (coreSensor c) (clearRecord n) s)

/-- A cavity sensor's fault aborts a run in progress (R48, R163). -/
theorem cavityFault_aborts (held : s.resetHeld = false)
    (suspect : (s.sensors.get (cavitySensor c)).status = .suspect)
    (time : (s.sensors.get (cavitySensor c)).runTime = some m) (late : 1000 ≤ m + 250)
    (progress : inProgress (s.runs.get c) = true) :
    ∃ t, exec (.sensorSample (cavitySensor c) .openOrShorted) s = .next t
      ∧ t.runs.get c = abortedRun (s.runs.get c) .sensor ∧ t.queues.get c = emptied (s.queues.get c) := by
  have exec := exec_sample_faulted held suspect time late
  have aborts : abortInProgress c .sensor (faultTold (cavitySensor c) s)
      = abortRun c .sensor (faultTold (cavitySensor c) s) := if_pos progress
  rw [handFault_cavitySensor, aborts] at exec
  obtain ⟨ended, -⟩ := settle_abortRun c .sensor (faultTold (cavitySensor c) s)
  exact ⟨_, exec, ended.run, ended.queue⟩

/-- A GEN_TEMP sensor's fault is a generator fault (R109, R163). -/
theorem genSensorFault_faults (held : s.resetHeld = false) (suspect : s.sensors.genTemp.status = .suspect)
    (time : s.sensors.genTemp.runTime = some m) (late : 1000 ≤ m + 250) (working : s.gen.state ≠ .fault) :
    ∃ t, exec (.sensorSample .genTemp .openOrShorted) s = .next t ∧ GenFaulted .sensor (faultTold .genTemp s) t :=
  ⟨_, exec_sample_faulted (x := .genTemp) held suspect time late, genFault_faulted working⟩

/-- A sample of a valid GEN_TEMP sensor reaches the generator (R101, R162). -/
theorem exec_genSample (held : s.resetHeld = false) (valid : s.sensors.genTemp.status = .valid) (low : n ≤ 1600) :
    exec (.sensorSample .genTemp (.tenths n)) s = .next (genSample n (heard .genTemp n s)) :=
  exec_sample_delivered (x := .genTemp) held valid (Int.ofNat_le.mpr low)

end

/-! ## O53 -/

/-- Settles O53, user by user: a sample that trips a watch reaches it through `Sighted`, and work on the run keeps the
trip. -/
theorem samplesActOnTheirUsers : Obligations.SamplesActOnTheirUsers := by
  unfold Obligations.SamplesActOnTheirUsers
  intro c n s held r k cav core gen
  refine ⟨?approach, ?watch, ?coreEnd, ?coreFault, ?coreClear, ?genSample, ?cavityFault, ?genFault⟩
  case approach =>
    intro valid low step l goal first second running counts phase current target loop met settled
    exact approach_entersHold held valid low first second loop
      ⟨running, counts, phase, approaches_of_met current target loop met⟩ settled
  case watch =>
    intro slot w place standing alone armed relation cavity unmet sample _ _ tripped
    obtain ⟨v, exec, sight⟩ := exec_sighted held cavity unmet
    have trip : TripsAlone c slot w n v := TripsAlone.then_work ⟨place, standing, alone, armed, relation⟩ sight.work
    have trips : tripped (evalWatches c w.source n v) :=
      ⟨exec, trip.tripped.disarmed, trip.tripped.other, trip.tripped.posted⟩
    obtain ⟨phase, same, heatOrHold⟩ := seenRun_eq w.source n r k
    have state : (seenRun w.source n r k).state = r.state := by rw [same]
    have current : (seenRun w.source n r k).current = r.current := by rw [same]
    refine ⟨fun leaves => ?leaves, fun step e action running phase now prompt after => ?prompts,
      fun step load a action running phase now noAfter reaches => ?enters, fun action carries => ?pauses⟩
    case leaves =>
      obtain ⟨run, queues⟩ := sight.watch_leaves trip (leavesRun_seenRun k w.source leaves)
      exact ⟨_, trips, run, by rw [queues]⟩
    case prompts =>
      obtain ⟨exit, -, step, code, -⟩ := sight.watch_exitPrompts trip action (state.trans running)
        (heatOrHold.trans (inHeatOrHold_of_phase phase)) (current.trans now) prompt after
      refine ⟨_, trips, exit, step.trans ?_, code⟩
      exact (congrArg (·.current) sight.run).trans current
    case enters =>
      exact ⟨_, trips, sight.watch_entersStep trip action (state.trans running)
        (heatOrHold.trans (inHeatOrHold_of_phase phase)) (current.trans now) noAfter reaches⟩
    case pauses =>
      obtain ⟨run, frozen, queues⟩ := sight.watch_pauses trip action (by rwa [state])
      exact ⟨_, trips, run, frozen, by rw [queues]⟩
  case coreEnd =>
    intro step goal valid low first second current target live running counts phase reached
    have exec := exec_coreSample_of_met held valid low first second current target live running counts phase reached
    refine ⟨fun load a noAfter reaches => ⟨_, exec, ?_⟩, fun e prompt after => ⟨_, exec, ?_⟩⟩
    · have entered := endCondition_entered (s := heard (coreSensor c) n s) running current noAfter reaches
      rw [heard, cavityReading_withCore] at entered
      exact entered.of_sameRun ((settle_run c _).trans (settle_run c _))
    · obtain ⟨exit, runs, same, code, placement, -⟩ := (endCondition_exitPrompted (.refl _ (heard (coreSensor c) n s))
        running rfl current prompt after).then_settle
      refine ⟨exit, runs, same, ?_, code, placement⟩
      rw [settle_queues, settle_queues, endCondition_queues (s := heard (coreSensor c) n s) current prompt after]
      rfl
  case coreFault =>
    intro step m suspect time late state current target phase live
    exact coreFault_losesProbe held suspect time late state current target phase live
  case coreClear =>
    intro step goal m faulted time late low first second state current target below phase cond asked cleared
    have exec := exec_coreClear held faulted time late low state current target phase cond
    have run := probeReturned_run c n s
    refine ⟨fun stays => ?stays, fun asks paused reason inTime => ?resumes⟩
    case stays =>
      have back := probeAnswer_stays (c := c) (s := probeReturned c n s) (by rwa [run])
      rw [run] at back
      exact ⟨_, exec, back.cleared first second current target below⟩
    case resumes =>
      have back := probeAnswer_resumes (c := c) (s := probeReturned c n s) asks (by rwa [run]) (by rwa [run])
        (by rwa [run])
      rw [run] at back
      exact ⟨_, exec, back.cleared first second current target below⟩
  case genSample =>
    intro valid low calm
    have exec := exec_genSample held valid low
    refine ⟨fun heating warm cool => ?ready, fun descale phase cool => ⟨fun warm => ?soak, fun cold => ?waits⟩,
      fun hot granted working => ?boils⟩
    case ready =>
      rw [genSample_of_heating (s := heard .genTemp n s) cool heating, heard_settings, if_pos warm] at exec
      refine ⟨_, exec, ?_, ?_, ?_, enterGen_ready_holds _ _⟩
      all_goals rw [enterGen_gen]
      · rfl
      · exact congrArg (fun x : GenState => if x = .delivering then s.gen.windowTime else some 0) heating
      · rfl
    case soak =>
      rw [genSample_of_heatSoak (s := heard .genTemp n s) cool descale phase, heard_settings, if_pos warm] at exec
      have soaks := enterSoak_entered (s := heard .genTemp n s) (n := n) rfl warm
      refine ⟨_, exec, ?_, ?_, soaks.update, ?_, soaks.holds,
        ((heard_within .genTemp n s).mono rfl).trans (soaks.within.mono rfl)⟩
      all_goals rw [soaks.proc]
    case waits =>
      rw [genSample_of_heatSoak (s := heard .genTemp n s) cool descale phase, heard_settings,
        if_neg (Nat.not_le.mpr cold)] at exec
      exact ⟨_, exec, rfl, rfl⟩
    case boils =>
      rw [genSample_of_dryBoil (s := heard .genTemp n s) hot granted working] at exec
      have boiled := genFault_faulted (k := .dryBoil) (s := heard .genTemp n s) working
      exact ⟨_, exec, boiled.state, boiled.kind, boiled.left, boiled.heater⟩
  case cavityFault =>
    intro m suspect time late progress
    exact cavityFault_aborts held suspect time late progress
  case genFault =>
    intro m suspect time late working
    obtain ⟨t, exec, faulted⟩ := genSensorFault_faults held suspect time late working
    exact ⟨t, exec, faulted.state, faulted.kind, faulted.left, faulted.credit⟩

end Sys2Proof.Machine
end

section
/-! SUPPORT. The chain order of the power chain (R87), its granted sum (R74), and where a walk down the chain stops (R78). -/

namespace Sys2Proof.Machine

section
variable {s t : State} {l b : Load} {ls above below : List Load}

/-! ## The chain order (R87) -/

theorem mem_allLoads (l : Load) : l ∈ allLoads := by cases l <;> decide

theorem mem_of_chainOk (ok : chainOk ls = true) (l : Load) : l ∈ ls := by
  obtain ⟨-, lists⟩ := (Bool.and_eq_true _ _).mp ok
  exact List.contains_iff_mem.mp (List.all_eq_true.mp lists l (mem_allLoads l))

/-- Seven loads among which each load stands are each of them once. -/
theorem nodup_of_chainOk (ok : chainOk ls = true) : ls.Nodup := by
  obtain ⟨seven, -⟩ := (Bool.and_eq_true _ _).mp ok
  have length : ls.length ≤ allLoads.length := (of_decide_eq_true seven).le
  have distinct : allLoads.Nodup := by decide
  have order : allLoads.Perm ls := (distinct.subperm fun l _ => mem_of_chainOk ok l).perm_of_length_le length
  exact order.nodup_iff.mp distinct

/-! ## The granted sum (R74) -/

theorem grantedSum_eq_zero (idle : ∀ l, s.arbiter.get l ≠ .granted) : grantedSum s = 0 :=
  List.sum_eq_zero fun n mem => by
    obtain ⟨l, -, rfl⟩ := List.mem_map.mp mem
    exact if_neg (idle l)

theorem rating_le_budget (within : ratingsWithin s.settings = true) (l : Load) :
    s.settings.rating.get l ≤ s.settings.budget :=
  of_decide_eq_true (List.all_eq_true.mp within l (mem_allLoads l))

/-! ## The walk of a grant decision (R78) -/

theorem grantWalk_of_not_waiting (h : s.arbiter.get l ≠ .waiting) : grantWalk (l :: ls) s = grantWalk ls s := if_neg h

theorem grantWalk_of_fits (h : s.arbiter.get l = .waiting) (fit : fits s l = true) :
    grantWalk (l :: ls) s = grantWalk ls (grant l s) := (if_pos h).trans (if_pos fit)

theorem grantWalk_of_not_fits (h : s.arbiter.get l = .waiting) (full : fits s l = false) : grantWalk (l :: ls) s = s :=
  (if_pos h).trans (if_neg (by rw [full]; decide))

theorem grantWalk_onlyGranted (l : Load) (ls : List Load) (s : State) : OnlyGranted l s (grantWalk ls s) :=
  (OnlyGranted.refl l s).then_grantWalk

theorem grantDecision_onlyGranted (l : Load) (s : State) : OnlyGranted l s (grantDecision s) :=
  (OnlyGranted.refl l s).then_grantDecision

theorem OnlyGranted.not_waiting (h : OnlyGranted l s t) (settled : s.arbiter.get l ≠ .waiting) :
    t.arbiter.get l ≠ .waiting := by
  rcases h with ⟨-, status⟩ | ⟨waits, -⟩
  · rwa [status]
  · exact absurd waits settled

theorem OnlyGranted.granted (h : OnlyGranted l s t) (waits : s.arbiter.get l = .waiting)
    (settled : t.arbiter.get l ≠ .waiting) : t.arbiter.get l = .granted := by
  rcases h with ⟨-, status⟩ | ⟨-, granted, -⟩
  · exact absurd (status.trans waits) settled
  · exact granted

/-- A walk from `s` to `t` has stopped at the load `b` below the loads `above` (R78). -/
structure StoppedAt (above : List Load) (b : Load) (s t : State) : Prop where
  settled : ∀ l ∈ above, t.arbiter.get l ≠ .waiting
  waits : t.arbiter.get b = .waiting
  full : fits t b = false
  kept : ∀ l ∉ above, t.arbiter.get l = s.arbiter.get l

/-- A load in front that does not wait is passed by. -/
theorem StoppedAt.cons_not_waiting (h : StoppedAt above b s t) (settled : t.arbiter.get l ≠ .waiting) :
    StoppedAt (l :: above) b s t := by
  refine ⟨fun j mem => ?_, h.waits, h.full, fun j out => h.kept j (fun mem => out (List.mem_cons_of_mem _ mem))⟩
  rcases List.mem_cons.mp mem with rfl | mem
  · exact settled
  · exact h.settled j mem

/-- A load in front that waits and fits is granted. -/
theorem StoppedAt.cons_granted (h : StoppedAt above b (grant l s) t) (settled : t.arbiter.get l ≠ .waiting) :
    StoppedAt (l :: above) b s t := by
  have passed := h.cons_not_waiting settled
  refine ⟨passed.settled, h.waits, h.full, fun j out => (passed.kept j out).trans ?_⟩
  rw [List.mem_cons, not_or] at out
  simp [grant, out.1]

/-- A walk passes every load it comes to, or it stops at one that waits and does not fit (R78). -/
theorem grantWalk_cases (ls : List Load) (s : State) :
    (∀ l ∈ ls, (grantWalk ls s).arbiter.get l ≠ .waiting)
      ∨ ∃ above b below, ls = above ++ b :: below ∧ StoppedAt above b s (grantWalk ls s) := by
  induction ls generalizing s with
  | nil => exact .inl nofun
  | cons l ls ih =>
    by_cases waits : s.arbiter.get l = .waiting
    · cases fit : fits s l
      · rw [grantWalk_of_not_fits waits fit]
        exact .inr ⟨[], l, ls, rfl, nofun, waits, fit, fun _ _ => rfl⟩
      · rw [grantWalk_of_fits waits fit]
        have granted : (grant l s).arbiter.get l ≠ .waiting := by simp [grant]
        have settled := (grantWalk_onlyGranted l ls (grant l s)).not_waiting granted
        rcases ih (grant l s) with passed | ⟨above, b, below, rfl, stopped⟩
        · exact .inl (List.forall_mem_cons.mpr ⟨settled, passed⟩)
        · exact .inr ⟨l :: above, b, below, rfl, stopped.cons_granted settled⟩
    · rw [grantWalk_of_not_waiting waits]
      have settled := (grantWalk_onlyGranted l ls s).not_waiting waits
      rcases ih s with passed | ⟨above, b, below, rfl, stopped⟩
      · exact .inl (List.forall_mem_cons.mpr ⟨settled, passed⟩)
      · exact .inr ⟨l :: above, b, below, rfl, stopped.cons_not_waiting settled⟩

/-! ## The decision (R78, R82) -/

theorem grantDecision_of_low (low : s.mains.low = true) : grantDecision s = s := if_pos low

theorem grantDecision_of_supplied (supplied : s.mains.low = false) : grantDecision s = grantWalk s.settings.chain s :=
  if_neg (by rw [supplied]; decide)

theorem breakLoad_of_low (low : s.mains.low = true) : breakLoad s = none := if_pos low

theorem breakLoad_of_supplied (supplied : s.mains.low = false) :
    breakLoad s = s.settings.chain.find? (fun l => decide (s.arbiter.get l = .waiting)) :=
  if_neg (by rw [supplied]; decide)

theorem breakLoad_grantDecision (supplied : s.mains.low = false) :
    breakLoad (grantDecision s)
      = s.settings.chain.find? (fun l => decide ((grantDecision s).arbiter.get l = .waiting)) := by
  have within := grantDecision_within s
  rw [breakLoad_of_supplied (by rw [within.mains_eq rfl]; exact supplied), within.settings_eq rfl]

/-- A decision leaves no load waiting, or it stops at its break load (R78). -/
theorem grantDecision_cases (chain : chainOk s.settings.chain = true) (supplied : s.mains.low = false) :
    (breakLoad (grantDecision s) = none ∧ ∀ l, (grantDecision s).arbiter.get l ≠ .waiting)
      ∨ ∃ above b below, s.settings.chain = above ++ b :: below ∧ breakLoad (grantDecision s) = some b
        ∧ StoppedAt above b s (grantDecision s) := by
  rw [breakLoad_grantDecision supplied, grantDecision_of_supplied supplied]
  rcases grantWalk_cases s.settings.chain s with passed | ⟨above, b, below, split, stopped⟩
  · exact .inl ⟨List.find?_eq_none.mpr (fun l mem => by simpa using passed l mem),
      fun l => passed l (mem_of_chainOk chain l)⟩
  · refine .inr ⟨above, b, below, split, ?_, stopped⟩
    exact List.find?_eq_some_iff_append.mpr
      ⟨decide_eq_true stopped.waits, above, below, split, fun l mem => by simpa using stopped.settled l mem⟩

theorem grantedSum_grantDecision (sum : grantedSum s ≤ s.settings.budget) :
    grantedSum (grantDecision s) ≤ s.settings.budget := by
  cases low : s.mains.low
  · rw [grantDecision_of_supplied low]
    exact grantedSum_grantWalk _ sum
  · rwa [grantDecision_of_low low]

/-- The break load would take the granted sum over the budget (R78). -/
theorem StoppedAt.exceeds_budget (h : StoppedAt above b s (grantDecision s)) :
    s.settings.budget < grantedSum (grantDecision s) + s.settings.rating.get b := by
  have full := of_decide_eq_false h.full
  rw [(grantDecision_within s).settings_eq rfl] at full
  exact Nat.lt_of_not_le full

end

/-- A break load shows that a decision was made, and where it stopped (R74, R82). -/
theorem stoppedAt_of_breakLoad {s : State} {b : Load} (chain : chainOk s.settings.chain = true)
    (isBreak : breakLoad (grantDecision s) = some b) :
    ∃ above below, s.settings.chain = above ++ b :: below ∧ StoppedAt above b s (grantDecision s) := by
  cases low : s.mains.low
  · rcases grantDecision_cases chain low with ⟨noBreak, -⟩ | ⟨above, j, below, split, isBreak', stopped⟩
    · exact absurd (noBreak.symm.trans isBreak) nofun
    · obtain rfl := Option.some.inj (isBreak'.symm.trans isBreak)
      exact ⟨above, below, split, stopped⟩
  · rw [grantDecision_of_low low, breakLoad_of_low low] at isBreak
    exact absurd isBreak nofun

/-- With no grant outstanding and every rating within the budget, a waiting load is granted (R78, R85). -/
theorem exists_granted_grantDecision {s : State} {l : Load} (chain : chainOk s.settings.chain = true)
    (supplied : s.mains.low = false) (ratings : ratingsWithin s.settings = true) (waits : s.arbiter.get l = .waiting) :
    ∃ j, (grantDecision s).arbiter.get j = .granted := by
  rcases grantDecision_cases chain supplied with ⟨-, settled⟩ | ⟨_, b, _, -, -, stopped⟩
  · exact ⟨l, (grantDecision_onlyGranted l s).granted waits (settled l)⟩
  · by_contra idle
    have exceeds := stopped.exceeds_budget
    rw [grantedSum_eq_zero (not_exists.mp idle), Nat.zero_add] at exceeds
    exact absurd (rating_le_budget ratings b) (Nat.not_le.mpr exceeds)

/-- Settles O42: the decision is a walk down the chain, which grants loads and stops at the break load. -/
theorem grantDecisionStopsAtTheFirstThatDoesNotFit : Obligations.GrantDecisionStopsAtTheFirstThatDoesNotFit := by
  unfold Obligations.GrantDecisionStopsAtTheFirstThatDoesNotFit
  intro s chain t
  have only (l : Load) : OnlyGranted l s t := grantDecision_onlyGranted l s
  have within : Within .power s t := grantDecision_within s
  refine ⟨grantDecision_of_low, fun l settled => ?other, fun l waits => ?waiting, fun b isBreak => ?full,
    fun supplied noBreak => ?passed, fun b l above below isBreak split waits => ?stopped,
    fun supplied ratings _ ⟨l, waits⟩ => exists_granted_grantDecision chain supplied ratings waits,
    grantedSum_grantDecision, within⟩
  case other =>
    rcases only l with ⟨timer, status⟩ | ⟨waits, -⟩
    · exact ⟨status, timer⟩
    · exact absurd waits settled
  case waiting =>
    rcases only l with ⟨timer, status⟩ | ⟨-, granted, timer⟩
    · exact .inl ⟨status.trans waits, timer⟩
    · exact .inr ⟨granted, timer⟩
  case full =>
    obtain ⟨above, below, -, stopped⟩ := stoppedAt_of_breakLoad chain isBreak
    exact stopped.exceeds_budget
  case passed =>
    rcases grantDecision_cases chain supplied with ⟨-, settled⟩ | ⟨_, b, _, -, isBreak, -⟩
    · exact settled
    · exact absurd (noBreak.symm.trans isBreak) nofun
  case stopped =>
    obtain ⟨above', below', split', stopped⟩ := stoppedAt_of_breakLoad chain isBreak
    have distinct : (above ++ b :: below).Nodup := split ▸ nodup_of_chainOk chain
    obtain ⟨out, -⟩ := List.nodup_cons.mp (List.nodup_middle.mp distinct)
    rw [List.mem_append, not_or] at out
    obtain ⟨rfl, -, rfl⟩ := (List.append_cons_inj_of_notMem out.1 out.2).mp (split.symm.trans split')
    have disjoint := List.disjoint_of_nodup_append distinct
    exact ⟨fun mem => (only l).granted waits (stopped.settled l mem),
      fun mem => (stopped.kept l (fun mem' => disjoint mem' (List.mem_cons_of_mem b mem))).trans waits⟩

end Sys2Proof.Machine
end

section
/-! SUPPORT. The outputs of the loads (R88), and the invariants after reset. -/

namespace Sys2Proof.Machine

/-- An output is on under a grant alone, in an ON interval (R88). -/
theorem granted_of_loadOutput {s : State} {l : Load} (on : loadOutput l s = true) :
    s.arbiter.get l = .granted ∧ (s.timers.get l).interval = .onInterval := by
  simp only [loadOutput, Bool.and_eq_true, decide_eq_true_eq] at on
  obtain ⟨⟨⟨-, granted⟩, interval⟩, -⟩ := on
  exact ⟨granted, interval⟩

/-- The loads whose outputs are on are among the granted ones (R74, R88). -/
theorem outputSum_le_grantedSum (s : State) : outputSum s ≤ grantedSum s := by
  refine List.sum_le_sum fun l _ => ?_
  split
  · next on => rw [if_pos (granted_of_loadOutput on).1]
  · exact Nat.zero_le _

/-- Settles O43: an output that is on has its grant, so the sum of the grants bounds that of the outputs. -/
theorem outputsStayWithinTheBudget : Obligations.OutputsStayWithinTheBudget := by
  unfold Obligations.OutputsStayWithinTheBudget
  rintro s ⟨-, -, sum, dark⟩
  refine ⟨(outputSum_le_grantedSum s).trans sum, fun l => granted_of_loadOutput, fun low l => ?_⟩
  exact Bool.eq_false_iff.mpr fun on => dark low l (granted_of_loadOutput on).1

/-- The arbiter with no grant is safe at any settings that R85 and R87 allow. -/
theorem powerSafe_of_no_grant {s : State} (ratings : ratingsWithin s.settings = true)
    (chain : chainOk s.settings.chain = true) (idle : ∀ l, s.arbiter.get l ≠ .granted) : PowerSafe s :=
  ⟨ratings, chain, (grantedSum_eq_zero idle).trans_le (Nat.zero_le _), fun _ => idle⟩

/-- The causes of a start-up stand once each, the higher code first (R188). -/
theorem causeSetOk_startCauses : CauseSetOk startCauses := by
  refine ⟨by decide, fun e mem => ?_⟩
  simp only [startCauses, List.mem_cons, List.not_mem_nil, or_false] at mem
  rcases mem with rfl | rfl
  · exact ⟨by decide, by decide, by decide, by decide⟩
  · exact ⟨by decide, by decide, by decide, by decide⟩

/-- Settles O4, invariant by invariant. -/
theorem invariantsHoldAtReset : Obligations.InvariantsHoldAtReset := by
  unfold Obligations.InvariantsHoldAtReset
  refine ⟨powerSafe_of_no_grant (by decide) (by decide) fun l => ?power, fun p => ?causes, fun c => ?queues⟩
  case power => rw [reset_status]; decide
  case causes => rw [reset_attention]; exact causeSetOk_startCauses
  case queues => rw [reset_queue]; exact .emptied StepQueue.reset

end Sys2Proof.Machine
end

section
/-! SUPPORT. The power chain stays safe through the operations of chapters 3 and 4. A lemma `then_f` says that the operation
`f` keeps it safe; the proofs have the shape of the definitions. -/

namespace Sys2Proof.Machine

/-- The parts of State other than the settings, the arbiter's sets and mains sense. -/
def Parts.offPower : Parts :=
  { Parts.elsewhere with
    settings := false, arbiter := false, mains := false, runs := true, queues := true, climates := true, pairs := true }

section
variable {s t : State} {c : Cavity} {l : Load} {ls : List Load}

theorem PowerSafe.then_within {g : Parts} (h : PowerSafe s) (w : Within g s t) (k : Parts.offPower.covers g = true) :
    PowerSafe t := by
  have within := w.mono k
  exact h.of_same (within.settings_eq rfl) (within.arbiter_eq rfl) (by rw [within.mains_eq rfl])

theorem PowerSafe.ite {p : Prop} [Decidable p] (hs : PowerSafe s) (ht : PowerSafe t) : PowerSafe (if p then s else t) := by
  split
  · exact hs
  · exact ht

/-! ## Single members, causes and prompts -/

theorem PowerSafe.then_modRun {f : Run → Run} (h : PowerSafe s) : PowerSafe (modRun c f s) := h

theorem PowerSafe.then_modClimate {f : Climate → Climate} (h : PowerSafe s) : PowerSafe (modClimate c f s) := h

theorem PowerSafe.then_modPair {f : Pair → Pair} (h : PowerSafe s) : PowerSafe (modPair c f s) := h

theorem PowerSafe.then_modTimer {f : Timer → Timer} (h : PowerSafe s) : PowerSafe (modTimer l f s) := h

theorem PowerSafe.then_modGen {f : Gen → Gen} (h : PowerSafe s) : PowerSafe (modGen f s) := h

theorem PowerSafe.then_modProc {f : Procedure → Procedure} (h : PowerSafe s) : PowerSafe (modProc f s) := h

theorem PowerSafe.then_broadcast {x : Cause} (h : PowerSafe s) : PowerSafe (broadcast x s) := h

theorem PowerSafe.then_setPrompt {o : Owner} {x : Option Prompt} (h : PowerSafe s) : PowerSafe (setPrompt o x s) := h

theorem PowerSafe.then_removePrompt {o : Owner} {r : ClearReason} (h : PowerSafe s) : PowerSafe (removePrompt o r s) :=
  h.then_within (removePrompt_within o r s) rfl

theorem PowerSafe.then_cancelPrompt {o : Owner} (h : PowerSafe s) : PowerSafe (cancelPrompt o s) := h.then_removePrompt

theorem PowerSafe.then_raiseDevice {o : Owner} {code : Nat} (h : PowerSafe s) : PowerSafe (raiseDevice o code s) :=
  h.then_within (raiseDevice_within o code s) rfl

theorem PowerSafe.then_raiseRecipe {p : PromptSub} (h : PowerSafe s) : PowerSafe (raiseRecipe c p s) :=
  h.then_within (raiseRecipe_within c p s) rfl

/-! ## Drive timers and pairs -/

theorem PowerSafe.then_setInterval {i : Interval} {x : Option Nat} (h : PowerSafe s) : PowerSafe (setInterval l i x s) := h

theorem PowerSafe.then_setHolds {m n : Nat} (h : PowerSafe s) : PowerSafe (setHolds l m n s) := h

theorem PowerSafe.then_startOn {n : Nat} (h : PowerSafe s) : PowerSafe (startOn l n s) := .request l h.then_setInterval

theorem PowerSafe.then_beginOn (h : PowerSafe s) : PowerSafe (beginOn l s) :=
  .ite h.then_startOn (.ite h.then_setInterval h.then_setInterval)

theorem PowerSafe.then_writeHolds {m n : Nat} (h : PowerSafe s) : PowerSafe (writeHolds l m n s) := by
  have written := h.then_setHolds (l := l) (m := m) (n := n)
  exact .ite written.then_beginOn written

theorem PowerSafe.then_restartTimer {m n : Nat} (h : PowerSafe s) : PowerSafe (restartTimer l m n s) := by
  have written := h.then_setHolds (l := l) (m := m) (n := n)
  exact .ite written.then_beginOn written

theorem PowerSafe.then_stopTimer (h : PowerSafe s) : PowerSafe (stopTimer l s) := .leave l h.then_setHolds.then_setInterval

theorem PowerSafe.then_beginPair {x : PairPosition} (h : PowerSafe s) : PowerSafe (beginPair c x s) := by
  unfold beginPair
  extract_lets top bottom off turn placed
  have places : PowerSafe placed := h.then_modPair
  refine .ite (.then_modPair (.then_setInterval h.then_setInterval)) ?_
  clear_value turn
  cases turn
  · exact .then_startOn places.then_setInterval
  · exact .then_startOn places.then_setInterval
  · exact .then_setInterval places.then_setInterval

theorem PowerSafe.then_wakePair (h : PowerSafe s) : PowerSafe (wakePair c s) := .ite h.then_beginPair h

theorem PowerSafe.then_writePair {m n : Nat} (h : PowerSafe s) : PowerSafe (writePair c m n s) :=
  .then_wakePair (.then_modPair (.then_setHolds h.then_setHolds))

theorem PowerSafe.then_stopPair (h : PowerSafe s) : PowerSafe (stopPair c s) :=
  .then_modPair h.then_stopTimer.then_stopTimer

theorem PowerSafe.then_stopCavity (h : PowerSafe s) : PowerSafe (stopCavity c s) :=
  .then_modPair h.then_stopPair.then_stopTimer

theorem PowerSafe.then_reformPair {b : Bool} (h : PowerSafe s) : PowerSafe (reformPair c b s) :=
  .ite h (.then_modPair h.then_stopPair)

theorem PowerSafe.then_freezeTimer (h : PowerSafe s) : PowerSafe (freezeTimer l s) := .ite h (.leave l h.then_modTimer)

theorem PowerSafe.then_thawTimer {b : Bool} (h : PowerSafe s) : PowerSafe (thawTimer l b s) := by
  unfold thawTimer
  extract_lets timer thawed
  have thaws : PowerSafe thawed := h.then_modTimer
  refine .ite ?_ h
  split
  · exact .request l thaws.then_setInterval
  · exact .request l thaws.then_setInterval
  · exact thaws
  · exact .ite thaws.then_beginOn thaws

theorem PowerSafe.then_freezeCavity (h : PowerSafe s) : PowerSafe (freezeCavity c s) :=
  h.then_freezeTimer.then_freezeTimer.then_freezeTimer

theorem PowerSafe.then_thawCavity (h : PowerSafe s) : PowerSafe (thawCavity c s) :=
  h.then_thawTimer.then_thawTimer.then_wakePair.then_thawTimer

theorem PowerSafe.then_syncFreeze (h : PowerSafe s) : PowerSafe (syncFreeze c s) :=
  .ite h.then_freezeCavity (.ite h.then_thawCavity h)

theorem PowerSafe.then_endOn (h : PowerSafe s) : PowerSafe (endOn l s) :=
  .ite (.leave l h.then_setInterval) (.ite h.then_setInterval (.leave l h.then_setInterval))

theorem PowerSafe.then_endTurn {b : Bool} (h : PowerSafe s) : PowerSafe (endTurn c b l s) :=
  .then_beginPair (.leave l h.then_setInterval)

theorem PowerSafe.then_onExpiry (h : PowerSafe s) : PowerSafe (onExpiry l s) := by
  unfold onExpiry
  refine .ite ?_ h
  split
  · exact .ite h.then_endTurn h.then_endOn
  · exact h.then_endOn

theorem PowerSafe.then_offExpiry (h : PowerSafe s) : PowerSafe (offExpiry l s) := .ite h.then_beginOn h

theorem PowerSafe.then_pairOffEnd (h : PowerSafe s) : PowerSafe (pairOffEnd c s) := .ite h.then_beginPair h

/-! ## Climate loops -/

theorem PowerSafe.then_writeElement {b : Bool} {d : Nat} (h : PowerSafe s) : PowerSafe (writeElement l b d s) :=
  .ite h.then_writeHolds h.then_writeHolds

theorem PowerSafe.then_writeElements {x : HeatMode} {d : Nat} (h : PowerSafe s) : PowerSafe (writeElements c x d s) :=
  .then_writeElement (.ite h.then_writePair h.then_writeElement.then_writeElement)

theorem PowerSafe.then_demandComputation (h : PowerSafe s) : PowerSafe (demandComputation c s) := by
  unfold demandComputation
  split
  · exact h
  · exact .then_writeElements h.then_modClimate

theorem PowerSafe.then_stepSetpoint (h : PowerSafe s) : PowerSafe (stepSetpoint c s) := by
  unfold stepSetpoint
  split
  · split
    · exact h.then_modClimate
    · exact h
  · exact h

theorem PowerSafe.then_regulationUpdate (h : PowerSafe s) : PowerSafe (regulationUpdate c s) :=
  .ite h.then_stepSetpoint.then_demandComputation h

theorem PowerSafe.then_climateTake {a : Action} (h : PowerSafe s) : PowerSafe (climateTake c a s) := h

theorem PowerSafe.then_climateRestart (h : PowerSafe s) : PowerSafe (climateRestart c s) := by
  unfold climateRestart
  split
  · exact h.then_modClimate
  · exact .then_demandComputation h.then_modClimate

theorem PowerSafe.then_settleClimate (h : PowerSafe s) : PowerSafe (settleClimate c s) := .ite h.then_climateRestart h

theorem PowerSafe.then_climateEnd (h : PowerSafe s) : PowerSafe (climateEnd c s) := h

theorem PowerSafe.then_approachTest (h : PowerSafe s) : PowerSafe (approachTest c s) :=
  h.then_within (approachTest_within c s) rfl

theorem PowerSafe.then_approachSample {n : Nat} (h : PowerSafe s) : PowerSafe (approachSample c n s) :=
  h.then_within (approachSample_within c n s) rfl

theorem PowerSafe.then_climateAdjust {n : Nat} (h : PowerSafe s) : PowerSafe (climateAdjust c n s) :=
  .then_demandComputation h.then_modClimate

/-! ## Withdrawals (R82, R84) -/

theorem not_granted_withdraw (l : Load) (s : State) : (withdraw l s).arbiter.get l ≠ .granted := by simp [withdraw]

/-- A withdrawal grants no load. -/
theorem withdraw_granted {j : Load} (granted : (withdraw l s).arbiter.get j = .granted) : s.arbiter.get j = .granted := by
  by_cases same : j = l
  · subst same
    exact absurd granted (not_granted_withdraw j s)
  · simpa [withdraw, same] using granted

theorem withdraw_if_granted {j : Load}
    (granted : (if s.arbiter.get l = .granted then withdraw l s else s).arbiter.get j = .granted) :
    j ≠ l ∧ s.arbiter.get j = .granted := by
  split at granted
  · refine ⟨?_, withdraw_granted granted⟩
    rintro rfl
    exact not_granted_withdraw j s granted
  · next idle => exact ⟨fun same => idle (same ▸ granted), granted⟩

/-- A load that keeps its grant through the withdrawals is none of those listed (R82). -/
theorem withdrawAll_granted {j : Load} (granted : (withdrawAll ls s).arbiter.get j = .granted) :
    j ∉ ls ∧ s.arbiter.get j = .granted := by
  induction ls generalizing s with
  | nil => exact ⟨List.not_mem_nil, granted⟩
  | cons l ls ih =>
    obtain ⟨out, granted⟩ := ih granted
    obtain ⟨ne, granted⟩ := withdraw_if_granted granted
    exact ⟨fun mem => (List.mem_cons.mp mem).elim ne out, granted⟩

theorem not_granted_withdrawAll (l : Load) (s : State) : (withdrawAll allLoads s).arbiter.get l ≠ .granted :=
  fun granted => (withdrawAll_granted granted).1 (mem_allLoads l)

/-- A cut grants no load. -/
theorem cutWalk_granted {j : Load} (granted : (cutWalk ls s).arbiter.get j = .granted) : s.arbiter.get j = .granted := by
  induction ls generalizing s with
  | nil => exact granted
  | cons l ls ih =>
    unfold cutWalk at granted
    split at granted
    · exact granted
    · exact (withdraw_if_granted (ih granted)).2

/-- A cut that comes to every granted load ends within the budget (R84). -/
theorem grantedSum_cutWalk (listed : ∀ l, s.arbiter.get l = .granted → l ∈ ls) :
    grantedSum (cutWalk ls s) ≤ s.settings.budget := by
  induction ls generalizing s with
  | nil =>
    have idle (l : Load) : s.arbiter.get l ≠ .granted := fun granted => List.not_mem_nil (listed l granted)
    exact (grantedSum_eq_zero idle).trans_le (Nat.zero_le _)
  | cons l ls ih =>
    unfold cutWalk
    split
    · next fits => exact fits
    · have same : (if s.arbiter.get l = .granted then withdraw l s else s).settings = s.settings := by split <;> rfl
      rw [← same]
      refine ih fun j granted => ?_
      obtain ⟨ne, granted⟩ := withdraw_if_granted granted
      exact (List.mem_cons.mp (listed j granted)).resolve_left ne

/-- The cut at a change of the settings makes the power chain safe at any values that R85 and R87 allow (R84). -/
theorem powerSafe_cutAndDecide (ratings : ratingsWithin s.settings = true) (chain : chainOk s.settings.chain = true)
    (dark : s.mains.low = true → ∀ l, s.arbiter.get l ≠ .granted) : PowerSafe (cutAndDecide s) := by
  have within := cutWalk_within s.settings.chain.reverse s
  have settings := within.settings_eq rfl
  refine PowerSafe.grantDecision ⟨by rwa [settings], by rwa [settings], ?_, fun low l granted => ?_⟩
  · rw [settings]
    exact grantedSum_cutWalk fun l _ => List.mem_reverse.mpr (mem_of_chainOk chain l)
  · rw [within.mains_eq rfl] at low
    exact dark low l (cutWalk_granted granted)

end

end Sys2Proof.Machine
end
section
/-! SUPPORT. The power chain stays safe through the generator and the descale controller (chapters 5 to 7). -/

namespace Sys2Proof.Machine

section
variable {s : State} {c : Cavity}

/-! ## The steam generator (R91 to R110) -/

theorem PowerSafe.then_refuse (h : PowerSafe s) : PowerSafe (refuse c s) := h.then_within (refuse_within c s) rfl

theorem PowerSafe.then_refuseBoth (h : PowerSafe s) : PowerSafe (refuseBoth s) := h.then_refuse.then_refuse

theorem PowerSafe.then_meterIncomplete (h : PowerSafe s) : PowerSafe (meterIncomplete s) := h

theorem PowerSafe.then_meterComplete (h : PowerSafe s) : PowerSafe (meterComplete s) :=
  h.then_within (meterComplete_within s) rfl

theorem PowerSafe.then_heatInstruction {g : GenState} (h : PowerSafe s) : PowerSafe (heatInstruction g s) := by
  cases g
  case heating => exact h.then_restartTimer
  case delivering => exact h.then_restartTimer
  case ready => exact h.then_writeHolds
  all_goals exact h.then_stopTimer

theorem PowerSafe.then_enterGen {g : GenState} {prep : Gen → Gen} (h : PowerSafe s) : PowerSafe (enterGen g prep s) := by
  unfold enterGen
  extract_lets left before instructed posted
  have entry : PowerSafe posted := .then_broadcast (.then_heatInstruction h.then_modGen)
  exact .ite entry entry.then_refuseBoth

theorem PowerSafe.then_abandonFill (h : PowerSafe s) : PowerSafe (abandonFill s) :=
  .ite (.then_modGen h.then_meterIncomplete.then_cancelPrompt) h

theorem PowerSafe.then_startDrain {x : AfterDrain} (h : PowerSafe s) : PowerSafe (startDrain x s) :=
  h.then_abandonFill.then_enterGen

theorem PowerSafe.then_dropWait (h : PowerSafe s) : PowerSafe (dropWait s) := .ite h.then_startDrain h

theorem PowerSafe.then_enterWaterWait (h : PowerSafe s) : PowerSafe (enterWaterWait s) :=
  .then_dropWait (.then_modGen h.then_enterGen.then_raiseDevice)

theorem PowerSafe.then_completeSteamFill (h : PowerSafe s) : PowerSafe (completeSteamFill s) :=
  h.then_meterComplete.then_cancelPrompt.then_enterGen

theorem PowerSafe.then_waitIfAbsent (h : PowerSafe s) : PowerSafe (waitIfAbsent s) := .ite h.then_enterWaterWait h

theorem PowerSafe.then_startSteamFill (h : PowerSafe s) : PowerSafe (startSteamFill s) := by
  unfold startSteamFill
  extract_lets src entered begun
  have begins : PowerSafe begun := h.then_enterGen.then_within (meterBegin_within src .steam entered) rfl
  exact .ite begins.then_completeSteamFill begins.then_waitIfAbsent

theorem PowerSafe.then_fillIfWanted (h : PowerSafe s) : PowerSafe (fillIfWanted s) := .ite h.then_startSteamFill h

theorem PowerSafe.then_enterEmpty (h : PowerSafe s) : PowerSafe (enterEmpty s) := h.then_enterGen.then_fillIfWanted

theorem PowerSafe.then_refillAnswered (h : PowerSafe s) : PowerSafe (refillAnswered s) :=
  .ite h.then_enterGen.then_waitIfAbsent h

theorem PowerSafe.then_cutWindow (h : PowerSafe s) : PowerSafe (cutWindow c s) := .ite h.then_enterGen h

theorem PowerSafe.then_demandPresent (h : PowerSafe s) : PowerSafe (demandPresent c s) :=
  h.then_refuse.then_fillIfWanted

theorem PowerSafe.then_demandAbsent (h : PowerSafe s) : PowerSafe (demandAbsent c s) :=
  .then_dropWait (.then_cutWindow h.then_modGen)

theorem PowerSafe.then_holdIdle (h : PowerSafe s) : PowerSafe (holdIdle s) := .ite h.then_modGen h

theorem PowerSafe.then_syncDemand (h : PowerSafe s) : PowerSafe (syncDemand c s) := by
  unfold syncDemand
  extract_lets old new told
  have tells : PowerSafe told := h.then_modGen
  apply PowerSafe.then_holdIdle
  split
  · exact .ite tells tells.then_demandAbsent
  · exact tells.then_cutWindow
  · exact .ite tells tells.then_demandPresent

theorem PowerSafe.then_serve (h : PowerSafe s) : PowerSafe (serve c s) := by
  unfold serve
  extract_lets paid chosen
  have serves : PowerSafe chosen := h
  exact .ite serves serves.then_enterGen

theorem PowerSafe.then_gainCredit (h : PowerSafe s) : PowerSafe (gainCredit c s) :=
  .ite h.then_modGen h

theorem PowerSafe.then_windowEnd (h : PowerSafe s) : PowerSafe (windowEnd s) := by
  unfold windowEnd
  extract_lets gained
  have gains : PowerSafe gained := .then_gainCredit (.then_gainCredit h.then_modGen)
  refine .ite ?_ h
  split
  · exact gains.then_serve
  · exact .ite gains.then_enterGen gains

theorem PowerSafe.then_lowDry (h : PowerSafe s) : PowerSafe (lowDry s) :=
  .ite (.ite h.then_startDrain h.then_startSteamFill) h

theorem PowerSafe.then_genFaultCore {k : FaultKind} (h : PowerSafe s) : PowerSafe (genFaultCore k s) :=
  .then_broadcast h.then_abandonFill.then_enterGen

/-! ## The descale controller (R128 to R140) -/

theorem PowerSafe.then_enterPhase {x : ProcPhase} (h : PowerSafe s) : PowerSafe (enterPhase x s) :=
  h.then_within (enterPhase_within x s) rfl

theorem PowerSafe.then_enterIdle {k : ProcKind} {x : Outcome} (h : PowerSafe s) : PowerSafe (enterIdle k x s) :=
  h.then_within (enterIdle_within k x s) rfl

theorem PowerSafe.then_giveBack (h : PowerSafe s) : PowerSafe (giveBack s) := by
  have abandoned := h.then_abandonFill
  exact .ite abandoned.then_startDrain (.ite abandoned.then_startDrain abandoned.then_enterEmpty)

theorem PowerSafe.then_abortCore {r : ProcAbort} (h : PowerSafe s) : PowerSafe (abortCore r s) :=
  .then_broadcast (.then_enterIdle (.then_cancelPrompt h.then_modProc))

theorem PowerSafe.then_abortProcedure {r : ProcAbort} (h : PowerSafe s) : PowerSafe (abortProcedure r s) :=
  h.then_abortCore.then_giveBack

theorem PowerSafe.then_genFault {k : FaultKind} (h : PowerSafe s) : PowerSafe (genFault k s) :=
  .ite h (.ite h.then_genFaultCore.then_abortCore h.then_genFaultCore)

theorem PowerSafe.then_takeOver (h : PowerSafe s) : PowerSafe (takeOver s) := h.then_abandonFill.then_enterGen

theorem PowerSafe.then_enterDrain {x : ProcPhase} (h : PowerSafe s) : PowerSafe (enterDrain x s) :=
  .then_stopTimer h.then_enterPhase.then_modGen

theorem PowerSafe.then_enterWaiting {x : ProcPhase} (h : PowerSafe s) : PowerSafe (enterWaiting x s) :=
  .then_modProc h.then_enterPhase.then_raiseDevice

theorem PowerSafe.then_enterHeatSoak (h : PowerSafe s) : PowerSafe (enterHeatSoak s) :=
  h.then_enterPhase.then_restartTimer

theorem PowerSafe.then_soakCompute (h : PowerSafe s) : PowerSafe (soakCompute s) := .then_writeHolds h.then_modGen

theorem PowerSafe.then_enterSoak (h : PowerSafe s) : PowerSafe (enterSoak s) :=
  .then_soakCompute h.then_enterPhase.then_modProc

theorem PowerSafe.then_descaleFillDone (h : PowerSafe s) : PowerSafe (descaleFillDone s) := by
  unfold descaleFillDone
  extract_lets complete
  have completes : PowerSafe complete := .then_meterComplete h.then_modGen
  exact .ite (.then_enterHeatSoak completes.then_modProc) completes.then_enterDrain

theorem PowerSafe.then_descaleStall (h : PowerSafe s) : PowerSafe (descaleStall s) := by
  unfold descaleStall
  extract_lets src stalled
  have stalls : PowerSafe stalled := .then_meterIncomplete h.then_modGen
  refine .ite stalls.then_enterWaiting ?_
  clear_value src
  cases src
  · exact stalls.then_enterWaiting
  · exact stalls.then_abortProcedure

theorem PowerSafe.then_enterFill {x : ProcPhase} {w : WaterSource} {u : Purpose} (h : PowerSafe s) :
    PowerSafe (enterFill x w u s) := by
  unfold enterFill
  extract_lets entered instructed begun
  have stopped : PowerSafe (stopTimer .genHeat instructed) := .then_stopTimer h.then_enterPhase.then_modGen
  have begins : PowerSafe begun := stopped.then_within (meterBegin_within w u _) rfl
  exact .ite begins.then_descaleFillDone (.ite begins.then_descaleStall begins)

theorem PowerSafe.then_enterRinse (h : PowerSafe s) : PowerSafe (enterRinse s) := by
  unfold enterRinse
  split
  · exact h.then_enterFill
  · exact h.then_enterWaiting
  · exact h.then_enterWaiting

theorem PowerSafe.then_descaleComplete (h : PowerSafe s) : PowerSafe (descaleComplete s) := by
  unfold descaleComplete
  extract_lets done posted
  have entered : PowerSafe done := .then_enterPhase h.then_modProc
  have zeroed : PowerSafe (zeroScale done) := entered.then_within (zeroScale_within done) rfl
  exact zeroed.then_broadcast.then_enterIdle.then_giveBack

theorem PowerSafe.then_rinseComplete (h : PowerSafe s) : PowerSafe (rinseComplete s) :=
  .then_giveBack (.then_enterIdle h.then_modProc)

theorem PowerSafe.then_descaleDrainDone (h : PowerSafe s) : PowerSafe (descaleDrainDone s) := by
  unfold descaleDrainDone
  extract_lets drained rinse
  have drains : PowerSafe drained := h.then_modGen
  split
  · exact drains.then_enterWaiting
  · exact .then_enterRinse drains.then_modProc
  · refine .ite (.then_enterRinse drains.then_modProc) ?_
    split
    · exact drains.then_rinseComplete
    · exact drains.then_descaleComplete
    · exact drains.then_descaleComplete
  all_goals exact drains

theorem PowerSafe.then_descaleAnswered (h : PowerSafe s) : PowerSafe (descaleAnswered s) := by
  unfold descaleAnswered
  split
  · exact h.then_enterFill
  · exact h.then_enterFill
  all_goals exact h

theorem PowerSafe.then_soakUpdate (h : PowerSafe s) : PowerSafe (soakUpdate s) := .ite h.then_soakCompute h

theorem PowerSafe.then_soakEnd (h : PowerSafe s) : PowerSafe (soakEnd s) := .ite h.then_enterDrain h

/-! ## Steam events -/

theorem PowerSafe.then_overfillTest (h : PowerSafe s) : PowerSafe (overfillTest s) := by
  unfold overfillTest
  split
  · exact .ite h.then_genFault h
  · exact h

theorem PowerSafe.then_flowPulse {n : Nat} (h : PowerSafe s) : PowerSafe (flowPulse n s) := by
  have pulsed : PowerSafe { s with meter := meterPulse n s.meter } := h
  exact (pulsed.then_within (feedWatchdog_within _) rfl).then_overfillTest

theorem PowerSafe.then_fillStall (h : PowerSafe s) : PowerSafe (fillStall s) := by
  unfold fillStall
  refine .ite h.then_descaleStall ?_
  split
  · exact .ite h.then_genFault h.then_enterWaterWait
  · exact h

theorem PowerSafe.then_watchdogStall (h : PowerSafe s) : PowerSafe (watchdogStall s) := .ite h.then_fillStall h

theorem PowerSafe.then_tankRemovedAtGen (h : PowerSafe s) : PowerSafe (tankRemovedAtGen s) := .ite h.then_fillStall h

theorem PowerSafe.then_highWet (h : PowerSafe s) : PowerSafe (highWet s) := by
  unfold highWet
  extract_lets wetted
  have wets : PowerSafe wetted := h.then_modGen
  exact .ite h (.ite wets (.ite wets.then_descaleFillDone (.ite wets.then_completeSteamFill wets)))

theorem PowerSafe.then_levelLowDry {b : Bool} (h : PowerSafe s) : PowerSafe (levelLowDry b s) := by
  have dried : PowerSafe (dryHigh b s) := h.then_within (dryHigh_within b s) rfl
  exact .ite (.then_lowDry dried.then_modGen) dried

theorem PowerSafe.then_idleDrain (h : PowerSafe s) : PowerSafe (idleDrain s) := .ite h.then_startDrain h

theorem PowerSafe.then_drainComplete (h : PowerSafe s) : PowerSafe (drainComplete s) := by
  unfold drainComplete
  refine .ite ?_ h
  split
  · exact h.then_descaleDrainDone
  · exact h.then_enterGen
  · exact h.then_enterEmpty
  · exact h.then_enterEmpty

theorem PowerSafe.then_drainFail (h : PowerSafe s) : PowerSafe (drainFail s) := .ite h.then_genFault h

theorem PowerSafe.then_heatSlow (h : PowerSafe s) : PowerSafe (heatSlow s) := by
  unfold heatSlow
  extract_lets reported
  have reports : PowerSafe reported := h.then_modGen
  exact .ite (reports.then_broadcast.then_within (slowReport_within _) rfl) h

theorem PowerSafe.then_genSample {n : Nat} (h : PowerSafe s) : PowerSafe (genSample n s) :=
  .ite h.then_genFault (.ite (.ite h.then_enterGen h) (.ite (.ite h.then_enterSoak h) h))

/-! ## Orders on the generator and the descale controller -/

theorem PowerSafe.then_drainGen (h : PowerSafe s) : PowerSafe (drainGen s).1 := by
  have drains : PowerSafe (if anyDemand s then deny .steamInUse s else doneAfter (startDrain .empty) s).1 := by
    split
    · exact h
    · exact h.then_startDrain
  unfold drainGen
  split
  · exact drains
  · exact drains
  · exact drains
  · exact drains
  · exact drains
  all_goals exact h

theorem PowerSafe.then_genReset (h : PowerSafe s) : PowerSafe (genReset s).1 := by
  unfold genReset
  split
  · exact h.then_startDrain
  · exact h

theorem PowerSafe.then_startDescale (h : PowerSafe s) : PowerSafe (startDescale s).1 := by
  unfold startDescale
  split
  · exact h
  · split
    · exact h
    · split
      · exact h
      · exact .then_enterDrain (.then_takeOver h.then_modProc)

theorem PowerSafe.then_startRinse (h : PowerSafe s) : PowerSafe (startRinse s).1 := by
  unfold startRinse
  split
  · exact h
  · split
    · exact h
    · split
      · exact h
      · exact .then_enterRinse (.then_takeOver h.then_modProc)

theorem PowerSafe.then_abortDescale (h : PowerSafe s) : PowerSafe (abortDescale s).1 := by
  unfold abortDescale
  split
  · exact h
  · exact h.then_abortProcedure

end

end Sys2Proof.Machine
end
section
/-! SUPPORT. The power chain stays safe through the cavity runs and their orders (chapters 1 and 2). -/

namespace Sys2Proof.Machine

section
variable {s : State} {c : Cavity}

/-! ## Step entry and run ends -/

theorem PowerSafe.then_settle (h : PowerSafe s) : PowerSafe (settle c s) :=
  h.then_settleClimate.then_syncFreeze.then_syncDemand

theorem PowerSafe.then_coreEntry (h : PowerSafe s) : PowerSafe (coreEntry c s) :=
  .ite (.ite h.then_modRun h.then_raiseDevice) h

theorem PowerSafe.then_enterPhases {a : Action} (h : PowerSafe s) : PowerSafe (enterPhases c a s) := by
  unfold enterPhases
  split
  · exact .then_raiseRecipe h.then_modRun
  · split
    · exact h.then_approachTest.then_raiseRecipe.then_coreEntry
    · exact h.then_approachTest.then_coreEntry

theorem PowerSafe.then_enterStep {load : Nat} {a : Action} (h : PowerSafe s) : PowerSafe (enterStep c load a s) := by
  unfold enterStep
  extract_lets recorded started formed computed
  have starts : PowerSafe started := .then_broadcast (.then_climateTake h.then_modRun)
  have computes : PowerSafe computed := starts.then_enterPhases.then_reformPair.then_demandComputation
  exact .ite computes.then_refuse computes

theorem PowerSafe.then_leaveEntry (h : PowerSafe s) : PowerSafe (leaveEntry c s) :=
  .ite h.then_approachTest.then_coreEntry h

theorem PowerSafe.then_emptyQueue (h : PowerSafe s) : PowerSafe (emptyQueue c s) := h

theorem PowerSafe.then_walk {k : Nat} (h : PowerSafe s) : PowerSafe (walk k c s).1 := h.then_within (walk_within k c s) rfl

theorem PowerSafe.then_endRun {x : RunState} {r : Option AbortReason} (h : PowerSafe s) : PowerSafe (endRun c x r s) :=
  .then_emptyQueue (.then_climateEnd (.then_stopCavity h.then_modRun))

theorem PowerSafe.then_clearStepPrompts (h : PowerSafe s) : PowerSafe (clearStepPrompts c s) :=
  h.then_within (clearStepPrompts_within c s) rfl

theorem PowerSafe.then_cancelProbePrompt (h : PowerSafe s) : PowerSafe (cancelProbePrompt c s) :=
  h.then_within (cancelProbePrompt_within c s) rfl

theorem PowerSafe.then_finish (h : PowerSafe s) : PowerSafe (finish c s) := .then_broadcast h.then_endRun

theorem PowerSafe.then_starveOverrun (h : PowerSafe s) : PowerSafe (starveOverrun c s) :=
  h.then_within (starveOverrun_within c s) rfl

theorem PowerSafe.then_starve (h : PowerSafe s) : PowerSafe (starve c s) := by
  unfold starve
  extract_lets overran entered held
  have holds : PowerSafe held := .then_modClimate h.then_starveOverrun.then_modRun
  split
  · exact holds.then_broadcast
  · exact holds

theorem PowerSafe.then_afterWalk {x : State × Option (Nat × Action)} (h : PowerSafe x.1) : PowerSafe (afterWalk c x) := by
  unfold afterWalk
  split
  · exact h.then_enterStep
  · exact .ite h.then_finish h.then_starve

theorem PowerSafe.then_stepEnd (h : PowerSafe s) : PowerSafe (stepEnd c s) :=
  h.then_clearStepPrompts.then_walk.then_afterWalk

theorem PowerSafe.then_endCondition (h : PowerSafe s) : PowerSafe (endCondition c s) := by
  unfold endCondition
  split
  · exact .then_raiseRecipe (.then_cancelProbePrompt h.then_modRun)
  · exact h.then_stepEnd

theorem PowerSafe.then_tryEnd (h : PowerSafe s) : PowerSafe (tryEnd c s) := .ite h.then_endCondition h

theorem PowerSafe.then_abortRun {r : AbortReason} (h : PowerSafe s) : PowerSafe (abortRun c r s) :=
  .then_broadcast h.then_cancelPrompt.then_endRun

theorem PowerSafe.then_abortInProgress {r : AbortReason} (h : PowerSafe s) : PowerSafe (abortInProgress c r s) :=
  .ite h.then_abortRun h

/-! ## Pause, resume and start -/

theorem PowerSafe.then_pause {r : PauseReason} (h : PowerSafe s) : PowerSafe (pause c r s) :=
  h.then_within (pause_within c r s) rfl

theorem PowerSafe.then_makeDeferred (h : PowerSafe s) : PowerSafe (makeDeferred c s) := by
  unfold makeDeferred
  split
  · exact h.then_leaveEntry
  · exact h.then_stepEnd
  all_goals exact h

theorem PowerSafe.then_feedCheck (h : PowerSafe s) : PowerSafe (feedCheck c s) := .ite h.then_abortRun.then_settle h

theorem PowerSafe.then_resume (h : PowerSafe s) : PowerSafe (resume c s) := by
  unfold resume
  extract_lets run back resumed overlaid owed
  have resumes : PowerSafe resumed := h.then_modRun
  have overlays : PowerSafe overlaid := .then_modRun (.ite resumes.then_makeDeferred resumes)
  have owes : PowerSafe owed := .ite overlays.then_modClimate overlays
  exact owes.then_settle.then_feedCheck

theorem PowerSafe.then_startRefill (h : PowerSafe s) : PowerSafe (startRefill c s) :=
  h.then_within (startRefill_within c s) rfl

theorem PowerSafe.then_enterRunning (h : PowerSafe s) : PowerSafe (enterRunning c s) := by
  have running : PowerSafe (takeOverlays c (modRun c (fun r =>
    { r with state := .running, delay := none, linked := false }) s)) := h
  exact running.then_syncFreeze.then_walk.then_afterWalk.then_settle

theorem PowerSafe.then_enterDelayed {n : Nat} {b : Bool} (h : PowerSafe s) : PowerSafe (enterDelayed c n b s) := h

theorem PowerSafe.then_delayEnd (h : PowerSafe s) : PowerSafe (delayEnd c s) := .ite h.then_enterRunning h

theorem PowerSafe.then_delayExpiry (h : PowerSafe s) : PowerSafe (delayExpiry c s) :=
  .ite h.then_delayEnd.then_delayEnd h.then_delayEnd

/-! ## Timed events, prompt and probe reports, overlays, watches -/

theorem PowerSafe.then_stepTimeEnd (h : PowerSafe s) : PowerSafe (stepTimeEnd c s) :=
  .ite (.then_settle (.then_tryEnd h.then_modRun)) h

theorem PowerSafe.then_feederEnd (h : PowerSafe s) : PowerSafe (feederEnd c s) := .ite h.then_abortRun.then_settle h

theorem PowerSafe.then_doorTimeoutEnd (h : PowerSafe s) : PowerSafe (doorTimeoutEnd c s) := .ite h.then_pause.then_settle h

theorem PowerSafe.then_recipeAnswered {x : Placement} (h : PowerSafe s) : PowerSafe (recipeAnswered c x s) := by
  unfold recipeAnswered
  cases x
  case before => exact .ite h.then_modRun (.ite h.then_leaveEntry.then_settle h)
  case after => exact .ite h.then_modRun (.ite h.then_stepEnd.then_settle h)
  case notice => exact h
  case device => exact h

theorem PowerSafe.then_resumeForProbe (h : PowerSafe s) : PowerSafe (resumeForProbe c s) := .ite h.then_resume h

theorem PowerSafe.then_probePromptAcked (h : PowerSafe s) : PowerSafe (probePromptAcked c s) :=
  .then_resumeForProbe (.ite h.then_modRun h)

theorem PowerSafe.then_probeLost (h : PowerSafe s) : PowerSafe (probeLost c s) := by
  unfold probeLost
  extract_lets run waiting
  have waits : PowerSafe waiting := .then_raiseDevice h.then_modRun
  exact .ite (.ite h.then_modRun (.ite waits.then_pause.then_settle waits)) h

theorem PowerSafe.then_probeFound (h : PowerSafe s) : PowerSafe (probeFound c s) := .ite h.then_modRun h

theorem PowerSafe.then_doorOverlay (h : PowerSafe s) : PowerSafe (doorOverlay c s) := .then_settle h.then_modRun

theorem PowerSafe.then_doorLift (h : PowerSafe s) : PowerSafe (doorLift c s) := .then_settle h.then_modRun

theorem PowerSafe.then_mainsOverlay (h : PowerSafe s) : PowerSafe (mainsOverlay c s) := .then_settle h.then_modRun

theorem PowerSafe.then_mainsLift (h : PowerSafe s) : PowerSafe (mainsLift c s) := .then_settle h.then_modRun

theorem PowerSafe.then_mainsAbort (h : PowerSafe s) : PowerSafe (mainsAbort c s) := .ite h.then_abortRun.then_settle h

theorem PowerSafe.then_evalWatch {n r : Nat} {x : WatchSource} (h : PowerSafe s) : PowerSafe (evalWatch c n x r s).1 :=
  h.then_within (evalWatch_within c n x r s) rfl

theorem PowerSafe.then_watchEnd {x : Option WatchAction} (h : PowerSafe s) : PowerSafe (watchEnd c x s) :=
  .ite h.then_tryEnd.then_settle h

theorem PowerSafe.then_watchPause {x : Option WatchAction} (h : PowerSafe s) : PowerSafe (watchPause c x s) :=
  .ite h.then_pause h

theorem PowerSafe.then_evalWatches {x : WatchSource} {n : Nat} (h : PowerSafe s) : PowerSafe (evalWatches c x n s) :=
  h.then_evalWatch.then_evalWatch.then_watchEnd.then_watchEnd.then_watchPause.then_watchPause.then_settle

theorem PowerSafe.then_coreSample {n : Nat} (h : PowerSafe s) : PowerSafe (coreSample c n s) := by
  unfold coreSample
  extract_lets run
  split
  · exact .ite h.then_tryEnd.then_settle h
  · exact h

/-! ## Orders -/

theorem PowerSafe.then_starvedWalk (h : PowerSafe s) : PowerSafe (starvedWalk c s) := by
  unfold starvedWalk
  extract_lets x
  have walks : PowerSafe x.1 := h.then_walk
  split
  · exact .then_settle (.then_enterStep walks.then_modRun)
  · exact walks

theorem PowerSafe.then_loadStep {p : Port} {r : List Byte} (h : PowerSafe s) : PowerSafe (loadStep p r c s).1 := by
  unfold loadStep
  extract_lets run
  split
  · exact h
  · split
    · exact h
    · split
      · exact h
      · next x _ =>
        split
        · exact h
        · have loads : PowerSafe (append c x s) := h
          exact .ite loads.then_starvedWalk loads

theorem PowerSafe.then_close (h : PowerSafe s) : PowerSafe (close c s) := h

theorem PowerSafe.then_closeRun {p : Port} (h : PowerSafe s) : PowerSafe (closeRun p c s).1 := by
  unfold closeRun
  extract_lets run
  split
  · exact h
  · split
    · exact h
    · split
      · exact h
      · split
        · exact h.then_close.then_clearStepPrompts.then_finish.then_settle
        · exact h.then_close

theorem PowerSafe.then_startRun {d : Half} (h : PowerSafe s) : PowerSafe (startRun d c s).1 := by
  unfold startRun
  split
  · exact .ite h.then_startRefill.then_enterRunning h.then_startRefill.then_enterDelayed
  · exact h

theorem PowerSafe.then_startLinked {d : Half} (h : PowerSafe s) : PowerSafe (startLinked d s).1 := by
  unfold startLinked
  split
  · exact .ite h.then_startRefill.then_enterRunning.then_startRefill.then_enterRunning
      h.then_startRefill.then_enterDelayed.then_startRefill.then_enterDelayed
  · exact h

theorem PowerSafe.then_pauseRun (h : PowerSafe s) : PowerSafe (pauseRun c s).1 := by
  unfold pauseRun
  split
  · exact h.then_pause.then_settle
  · exact h.then_pause.then_settle
  all_goals exact h

theorem PowerSafe.then_resumeRun (h : PowerSafe s) : PowerSafe (resumeRun c s).1 := by
  unfold resumeRun
  split
  · exact h.then_resume
  · exact h

theorem PowerSafe.then_toIdle (h : PowerSafe s) : PowerSafe (toIdle c s) := h

theorem PowerSafe.then_stopRun (h : PowerSafe s) : PowerSafe (stopRun c s).1 := by
  have aborts : PowerSafe (settle c (abortRun c .stop s)) := h.then_abortRun.then_settle
  unfold stopRun
  split
  · exact h.then_endRun.then_toIdle.then_settle
  · exact aborts
  · exact aborts
  · exact aborts
  · exact aborts
  all_goals exact h

theorem PowerSafe.then_skipEffect (h : PowerSafe s) : PowerSafe (skipEffect c s) := by
  unfold skipEffect
  split
  · exact h.then_endCondition
  · exact h.then_endCondition
  · exact h.then_cancelPrompt.then_endCondition
  · exact h.then_cancelPrompt.then_stepEnd
  · exact h

theorem PowerSafe.then_skipStep (h : PowerSafe s) : PowerSafe (skipStep c s).1 := by
  unfold skipStep
  extract_lets run
  split
  · exact h.then_skipEffect.then_settle
  · exact h

theorem PowerSafe.then_adjust {a : Adjustment} (h : PowerSafe s) : PowerSafe (adjust c a s) := by
  unfold adjust
  extract_lets adjusted
  have adjusts : PowerSafe adjusted := h.then_modRun
  apply PowerSafe.then_settle
  split
  · exact adjusts.then_climateAdjust
  · exact adjusts

theorem PowerSafe.then_adjustStep {x y z : Byte} {n : Half} (h : PowerSafe s) : PowerSafe (adjustStep x y n z c s).1 := by
  unfold adjustStep
  extract_lets run
  split
  · exact h
  · split
    · split
      · exact h
      · split
        · split
          · exact h
          · exact h.then_adjust
        · exact h
    · exact h

theorem PowerSafe.then_clearLimit (h : PowerSafe s) : PowerSafe (clearLimit c s).1 := by
  unfold clearLimit
  split
  · exact h
  · exact PowerSafe.then_settle (s := { s with limitLatch := _ }) h

end

end Sys2Proof.Machine
end

section
/-! SUPPORT. The power chain stays safe through the prompt table, the inputs and the settings (chapters 8, 9 and 12). -/

namespace Sys2Proof.Machine

section
variable {s : State} {c : Cavity} {o : Owner}

/-! ## Prompts -/

theorem PowerSafe.then_reportAnswer {e : Prompt} (h : PowerSafe s) : PowerSafe (reportAnswer o e s) := by
  unfold reportAnswer
  split
  · exact h.then_recipeAnswered
  · exact .ite h.then_refillAnswered h.then_descaleAnswered

theorem PowerSafe.then_answerPrompt {r : ClearReason} (h : PowerSafe s) : PowerSafe (answerPrompt o r s) := by
  unfold answerPrompt
  split
  · exact h.then_removePrompt.then_reportAnswer
  · exact h

theorem PowerSafe.then_ackEntry {e : Prompt} {p : Port} (h : PowerSafe s) : PowerSafe (ackEntry o e p s) := by
  unfold ackEntry
  split
  · exact .ite h.then_removePrompt.then_probePromptAcked h.then_answerPrompt
  · exact h.then_answerPrompt

theorem PowerSafe.then_ackPrompt {p : Port} {id : Half} (h : PowerSafe s) : PowerSafe (ackPrompt p id s).1 := by
  unfold ackPrompt
  split
  · exact h
  · split
    · exact h.then_ackEntry
    · exact h

theorem PowerSafe.then_doorClosePrompt (h : PowerSafe s) : PowerSafe (doorClosePrompt c s) := by
  unfold doorClosePrompt
  split
  · exact .ite h.then_answerPrompt h
  · exact h

theorem PowerSafe.then_tankMark (h : PowerSafe s) : PowerSafe (tankMark o s) := h.then_within (tankMark_within o s) rfl

theorem PowerSafe.then_tankAnswer (h : PowerSafe s) : PowerSafe (tankAnswer o s) := by
  unfold tankAnswer
  split
  · exact .ite h.then_answerPrompt h
  · exact h

theorem PowerSafe.then_probeAnswer (h : PowerSafe s) : PowerSafe (probeAnswer c s) := by
  unfold probeAnswer
  split
  · exact .ite h.then_removePrompt.then_resumeForProbe h
  · exact h

theorem PowerSafe.then_timeoutPause {e : Prompt} (h : PowerSafe s) : PowerSafe (timeoutPause o e s) := by
  unfold timeoutPause
  extract_lets marked
  have marks : PowerSafe marked := h.then_setPrompt
  split
  · exact marks.then_pause.then_settle
  · exact marks

theorem PowerSafe.then_timeoutAbort (h : PowerSafe s) : PowerSafe (timeoutAbort o s) := by
  unfold timeoutAbort
  split
  · exact h.then_removePrompt.then_abortInProgress.then_settle
  · exact h.then_removePrompt

theorem PowerSafe.then_promptTimeout (h : PowerSafe s) : PowerSafe (promptTimeout o s) := by
  unfold promptTimeout
  split
  · refine .ite ?_ h
    split
    · exact h.then_timeoutAbort
    · exact .ite h.then_answerPrompt h.then_timeoutPause
    all_goals exact h.then_answerPrompt
  · exact h

/-! ## Sensors, probes, doors, tank and limits -/

section
variable {x : Sensor}

theorem PowerSafe.then_deliver {n : Nat} (h : PowerSafe s) : PowerSafe (deliver x n s) := by
  cases x
  case genTemp => exact h.then_genSample
  case cavTempA => exact h.then_approachSample.then_evalWatches
  case cavTempB => exact h.then_approachSample.then_evalWatches
  case coreA => exact h.then_coreSample.then_evalWatches
  case coreB => exact h.then_coreSample.then_evalWatches

theorem PowerSafe.then_handFault (h : PowerSafe s) : PowerSafe (handFault x s) := by
  cases x
  case genTemp => exact h.then_genFault
  case cavTempA => exact h.then_abortInProgress.then_settle
  case cavTempB => exact h.then_abortInProgress.then_settle
  case coreA => exact h.then_probeLost
  case coreB => exact h.then_probeLost

theorem PowerSafe.then_handClear (h : PowerSafe s) : PowerSafe (handClear x s) := by
  cases x
  case coreA => exact h.then_probeFound.then_probeAnswer
  case coreB => exact h.then_probeFound.then_probeAnswer
  all_goals exact h

theorem PowerSafe.then_sensorSample {v : Sample} (h : PowerSafe s) : PowerSafe (sensorSample x v s) := by
  unfold sensorSample
  extract_lets reading before out sampled
  have samples : PowerSafe sampled := h
  split
  · exact samples
  · exact samples.then_deliver
  · exact samples.then_broadcast.then_handFault
  · exact samples.then_broadcast.then_handClear.then_deliver

end

theorem PowerSafe.then_probeInsertion (h : PowerSafe s) : PowerSafe (probeInsertion c s) := by
  unfold probeInsertion
  extract_lets present
  have inserted : PowerSafe present := h
  exact .ite h inserted.then_broadcast.then_probeFound.then_probeAnswer

theorem PowerSafe.then_probeRemoval (h : PowerSafe s) : PowerSafe (probeRemoval c s) := by
  unfold probeRemoval
  extract_lets absent
  have removed : PowerSafe absent := h
  exact .ite removed.then_broadcast.then_probeLost h

theorem PowerSafe.then_doorOpen (h : PowerSafe s) : PowerSafe (doorOpen c s) := by
  unfold doorOpen
  extract_lets opened
  have opens : PowerSafe opened := h
  exact .ite h (opens.then_doorOverlay.then_within (doorOpenPrompt_within c _) rfl)

theorem PowerSafe.then_doorClose (h : PowerSafe s) : PowerSafe (doorClose c s) := by
  unfold doorClose
  extract_lets closed
  have closes : PowerSafe closed := h
  exact .ite closes.then_doorLift.then_doorClosePrompt h

theorem PowerSafe.then_tankRemoval (h : PowerSafe s) : PowerSafe (tankRemoval s) := by
  have removed : PowerSafe { s with tankPresent := false } := h
  exact .ite removed.then_tankRemovedAtGen.then_tankMark.then_tankMark h

theorem PowerSafe.then_tankInsertion (h : PowerSafe s) : PowerSafe (tankInsertion s) := by
  have inserted : PowerSafe { s with tankPresent := true } := h
  exact .ite h inserted.then_tankAnswer.then_tankAnswer

theorem PowerSafe.then_limitTrip (h : PowerSafe s) : PowerSafe (limitTrip c s) := by
  unfold limitTrip
  extract_lets tripped
  have trips : PowerSafe tripped := h
  exact .ite h trips.then_broadcast.then_abortInProgress.then_settle

theorem PowerSafe.then_limitRelease (h : PowerSafe s) : PowerSafe (limitRelease c s) := h

/-! ## Mains sense (R82, R83, R170, R171) -/

/-- The withdrawals of a mains-low event leave no grant (R82). -/
theorem PowerSafe.then_mainsLow (h : PowerSafe s) : PowerSafe (mainsLow s) := by
  unfold mainsLow
  extract_lets low
  have settings := (withdrawAll_within allLoads (broadcast .mainsLow low)).settings_eq rfl
  have withdrawn : PowerSafe (withdrawAll allLoads (broadcast .mainsLow low)) := by
    obtain ⟨ratings, chain, -⟩ := h
    exact powerSafe_of_no_grant (by rw [settings]; exact ratings) (by rw [settings]; exact chain)
      fun l => not_granted_withdrawAll l _
  exact .ite h withdrawn.then_mainsOverlay.then_mainsOverlay

theorem PowerSafe.then_mainsBack (h : PowerSafe s) : PowerSafe (mainsBack s) := by
  unfold mainsBack
  extract_lets back
  have supplied : PowerSafe back := by
    obtain ⟨ratings, chain, sum, -⟩ := h
    exact ⟨ratings, chain, sum, nofun⟩
  exact .ite supplied.then_broadcast.grantDecision.then_mainsLift.then_mainsLift h

theorem PowerSafe.then_mainsAbortProcedure (h : PowerSafe s) : PowerSafe (mainsAbortProcedure s) :=
  .ite h h.then_abortProcedure

theorem PowerSafe.then_mainsLowExpiry (h : PowerSafe s) : PowerSafe (mainsLowExpiry s) := by
  unfold mainsLowExpiry
  extract_lets expired
  split
  · next lasting =>
    obtain ⟨low, -⟩ := lasting
    have expires : PowerSafe expired := h.of_same rfl rfl low.symm
    exact expires.then_mainsAbort.then_mainsAbort.then_mainsAbortProcedure
  · exact h

/-! ## Settings (R85 to R87, R195) -/

theorem PowerSafe.then_doorTimeoutCheck (h : PowerSafe s) : PowerSafe (doorTimeoutCheck c s) :=
  .ite h.then_doorTimeoutEnd h

theorem PowerSafe.then_feedTimeoutCheck (h : PowerSafe s) : PowerSafe (feedTimeoutCheck c s) := .ite h.then_feederEnd h

theorem PowerSafe.then_idleDrainCheck (h : PowerSafe s) : PowerSafe (idleDrainCheck s) := .ite h.then_idleDrain h

theorem PowerSafe.then_soakTimeCheck (h : PowerSafe s) : PowerSafe (soakTimeCheck s) := .ite h.then_enterDrain h

theorem ratingsWithin_iff {v : Settings} : ratingsWithin v = true ↔ ∀ l, v.rating.get l ≤ v.budget := by
  simp only [ratingsWithin, List.all_eq_true, decide_eq_true_eq]
  exact ⟨fun within l => within l (mem_allLoads l), fun within l _ => within l⟩

/-- A change of the budget, a rating or the chain keeps the chain safe by its cut (R84 to R87). -/
theorem PowerSafe.cut_settings {v : Settings} (h : PowerSafe s) (ratings : ratingsWithin v = true)
    (chain : chainOk v.chain = true) : PowerSafe (cutAndDecide { s with settings := v }) := by
  obtain ⟨-, -, -, dark⟩ := h
  exact powerSafe_cutAndDecide ratings chain dark

/-- A change of a setting that the arbiter does not read. -/
theorem PowerSafe.with_settings {v : Settings} (h : PowerSafe s) (budget : v.budget = s.settings.budget)
    (rating : v.rating = s.settings.rating) (chain : v.chain = s.settings.chain) : PowerSafe { s with settings := v } := by
  obtain ⟨ratings, order, sum, dark⟩ := h
  refine ⟨?_, by rwa [chain], ?_, dark⟩
  · rw [ratingsWithin_iff, budget, rating]
    exact ratingsWithin_iff.mp ratings
  · rw [budget, grantedSum_congr (s := s) (t := { s with settings := v }) rfl rating]
    exact sum

theorem ratingsWithin_setNumber_budget {v : Settings} {n : Nat} (accepts : settingAccepts v .budget n = true) :
    ratingsWithin (setNumber v .budget n) = true := by
  obtain ⟨-, fits⟩ := (Bool.and_eq_true _ _).mp accepts
  exact fits

theorem ratingsWithin_setNumber_rating {v : Settings} {l : Load} {n : Nat}
    (accepts : settingAccepts v (.rating l) n = true) (ratings : ratingsWithin v = true) :
    ratingsWithin (setNumber v (.rating l) n) = true := by
  obtain ⟨-, fits⟩ := (Bool.and_eq_true _ _).mp accepts
  refine ratingsWithin_iff.mpr fun j => ?_
  rw [setNumber, PerLoad.get_set]
  split
  · exact of_decide_eq_true fits
  · exact ratingsWithin_iff.mp ratings j

theorem PowerSafe.then_putNumber {x : SettingId} {n : Nat} (h : PowerSafe s)
    (accepts : settingAccepts s.settings x n = true) : PowerSafe (putSetting x (setNumber s.settings x n) s).1 := by
  have same (budget : (setNumber s.settings x n).budget = s.settings.budget)
      (rating : (setNumber s.settings x n).rating = s.settings.rating)
      (chain : (setNumber s.settings x n).chain = s.settings.chain) :
      PowerSafe { s with settings := setNumber s.settings x n } := h.with_settings budget rating chain
  have ⟨ratings, order, _⟩ := h
  cases x
  case budget => exact h.cut_settings (ratingsWithin_setNumber_budget accepts) order
  case rating => exact h.cut_settings (ratingsWithin_setNumber_rating accepts ratings) order
  case chain => exact absurd accepts nofun
  case scaleWarn => exact (same rfl rfl rfl).then_within (thresholdTest_within _ _) rfl
  case scaleLock => exact (same rfl rfl rfl).then_within (thresholdTest_within _ _) rfl
  case flowCal => exact (same rfl rfl rfl).then_overfillTest
  case doorTimeout => exact (same rfl rfl rfl).then_doorTimeoutCheck.then_doorTimeoutCheck
  case feedTimeout => exact (same rfl rfl rfl).then_feedTimeoutCheck.then_feedTimeoutCheck
  case idleDrain => exact (same rfl rfl rfl).then_idleDrainCheck
  case soakTime => exact (same rfl rfl rfl).then_soakTimeCheck
  all_goals exact same rfl rfl rfl

theorem PowerSafe.then_changeSetting {x : SettingId} {v : List Byte} (h : PowerSafe s) :
    PowerSafe (changeSetting x v s).1 := by
  unfold changeSetting
  split
  · split
    · split
      · next order =>
        have ⟨ratings, _⟩ := h
        exact h.cut_settings ratings order
      · exact h
    · exact h
  · split
    · split
      · next accepts => exact h.then_putNumber accepts
      · exact h
    · exact h

theorem PowerSafe.then_setParam {p : Port} {id : Byte} {v : List Byte} (h : PowerSafe s) :
    PowerSafe (setParam p id v s).1 := by
  unfold setParam
  split
  · exact h
  · split
    · exact h
    · split
      · exact h
      · exact h.then_changeSetting

end

end Sys2Proof.Machine
end
section
/-! SUPPORT. The power chain stays safe through every order a frame can carry (R177, R178, R181, R182). -/

namespace Sys2Proof.Machine

/-- An order's act keeps the power chain safe. -/
def ActKeepsPower (act : Act) : Prop := ∀ s, PowerSafe s → PowerSafe (act s).1

section
variable {p : Port} {params : List Byte} {act : Act}

theorem ActKeepsPower.deny (a : Answer) : ActKeepsPower (deny a) := fun _ h => h

theorem ActKeepsPower.ite {q : Prop} [Decidable q] {act' : Act} (h : ActKeepsPower act) (h' : ActKeepsPower act') :
    ActKeepsPower (if q then act else act') := by
  split
  · exact h
  · exact h'

/-- An act that reaches neither the settings, nor the arbiter, nor mains sense. -/
theorem ActKeepsPower.of_within {g : Parts} (w : ∀ s, Within g s (act s).1) (k : Parts.offPower.covers g = true) :
    ActKeepsPower act := fun s h => h.then_within (w s) k

/-- The hold check restarts an expiry and no more (R184). -/
theorem ActKeepsPower.withHold {need : Option HoldObject} (h : ActKeepsPower act) :
    ActKeepsPower (withHold p need act) := by
  intro s safe
  unfold Machine.withHold
  split
  · exact h s safe
  · split
    · split
      · exact h _ safe
      · exact safe
    · exact safe

theorem ActKeepsPower.counted {b : Bool} (h : ActKeepsPower act) : ActKeepsPower (counted b act) := by
  intro s safe
  unfold Machine.counted
  split
  · exact h s safe
  · exact safe

theorem ActKeepsPower.noParams (h : ActKeepsPower act) : ActKeepsPower (noParams params act) := by
  unfold Machine.noParams
  split
  · exact h
  · exact .deny _

theorem ActKeepsPower.oneByte {act : Byte → Act} (h : ∀ b, ActKeepsPower (act b)) : ActKeepsPower (oneByte params act) := by
  unfold Machine.oneByte
  split
  · exact h _
  · exact .deny _

theorem ActKeepsPower.cavityAct {b : Byte} {need : Cavity → Option HoldObject} {act : Cavity → Act}
    (h : ∀ c, ActKeepsPower (act c)) : ActKeepsPower (cavityAct p b need act) := by
  intro s safe
  unfold Machine.cavityAct
  split
  · exact safe
  · exact ActKeepsPower.withHold (h _) s safe

theorem ActKeepsPower.oneCavity {need : Cavity → Option HoldObject} {act : Cavity → Act}
    (h : ∀ c, ActKeepsPower (act c)) : ActKeepsPower (oneCavity p params need act) := by
  unfold Machine.oneCavity
  split
  · exact .cavityAct h
  · exact .deny _

end

theorem runAct_keepsPower (p : Port) (id : Byte) (params : List Byte) : ActKeepsPower (runAct p id params) := by
  unfold runAct
  refine .ite ?openRun (.ite ?loadStep (.ite ?closeRun (.ite ?startRun (.ite ?startLinked (.ite ?pauseRun
    (.ite ?resumeRun (.ite ?stopRun (.ite ?clearRun (.ite ?adoptRun (.ite ?skipStep (.ite ?adjustStep
    (.ite ?setWatch (.ite ?clearWatch (.ite ?readRun (.deny _)))))))))))))))
  case openRun =>
    split
    · exact .cavityAct fun c => .of_within (openRun_within _ _ _ _ c) rfl
    · exact .deny _
  case loadStep =>
    split
    · exact .counted (.cavityAct fun _ _ => .then_loadStep)
    · exact .deny _
  case closeRun => exact .oneCavity fun _ _ => .then_closeRun
  case startRun =>
    split
    · exact .cavityAct fun _ _ => .then_startRun
    · exact .deny _
  case startLinked =>
    split
    · exact .withHold fun _ => .then_startLinked
    · exact .deny _
  case pauseRun => exact .oneCavity fun _ _ => .then_pauseRun
  case resumeRun => exact .oneCavity fun _ _ => .then_resumeRun
  case stopRun => exact .oneCavity fun _ _ => .then_stopRun
  case clearRun => exact .oneCavity fun c => .of_within (clearRun_within c) rfl
  case adoptRun => exact .oneCavity fun c => .of_within (adoptRun_within p c) rfl
  case skipStep => exact .oneCavity fun _ _ => .then_skipStep
  case adjustStep =>
    split
    · exact .cavityAct fun _ _ => .then_adjustStep
    · exact .deny _
  case setWatch =>
    split
    · exact .cavityAct fun c => .of_within (setWatch_within _ _ _ _ _ c) rfl
    · exact .deny _
  case clearWatch =>
    split
    · exact .cavityAct fun c => .of_within (clearWatch_within _ c) rfl
    · exact .deny _
  case readRun => exact .oneCavity fun c => .of_within (readRun_within c) rfl

theorem storeAct_keepsPower (p : Port) (id : Byte) (params : List Byte) : ActKeepsPower (storeAct p id params) := by
  unfold storeAct
  refine .ite ?storeOpen (.ite ?storeLabel (.ite ?storeStep (.ite ?storeCommit (.ite ?storeCancel (.ite ?eraseProgram
    (.ite ?readProgram (.ite ?setParam (.ite ?readParam (.ite ?saveSettings (.deny _))))))))))
  case storeOpen => exact .oneByte fun b => .withHold (.of_within (storeOpen_within p b) rfl)
  case storeLabel =>
    split
    · exact .counted (.withHold (.of_within (storeLabel_within _) rfl))
    · exact .deny _
  case storeStep => exact .counted (.withHold (.of_within (storeStep_within _) rfl))
  case storeCommit => exact .noParams (.withHold (.of_within (storeCommit_within p) rfl))
  case storeCancel => exact .noParams (.withHold (.of_within storeCancel_within rfl))
  case eraseProgram => exact .oneByte fun b => .withHold (.of_within (eraseProgram_within p b) rfl)
  case readProgram =>
    split
    · exact .withHold (.of_within (readProgram_within _ _) rfl)
    · exact .deny _
  case setParam =>
    split
    · exact .withHold fun _ => .then_setParam
    · exact .deny _
  case readParam => exact .oneByte fun b => .withHold (.of_within (readParam_within b) rfl)
  case saveSettings => exact .noParams (.withHold (.of_within (saveSettings_within p) rfl))

theorem otherAct_keepsPower (p : Port) (id : Byte) (params : List Byte) : ActKeepsPower (otherAct p id params) := by
  unfold otherAct
  refine .ite ?ackPrompt (.ite ?readPrompts (.ite ?takeHold (.ite ?releaseHold (.ite ?drainGen (.ite ?genReset
    (.ite ?readGen (.ite ?startDescale (.ite ?abortDescale (.ite ?startRinse (.ite ?readDescale (.ite ?readWater
    (.ite ?readLoads (.ite ?readSensors (.ite ?clearLimit (.ite ?readCause (.ite ?setCauseMask (.ite ?portReset
    (.deny _))))))))))))))))))
  case ackPrompt =>
    split
    · exact .withHold fun _ => .then_ackPrompt
    · exact .deny _
  case readPrompts => exact .noParams (.withHold (.of_within readPrompts_within rfl))
  case takeHold => exact .oneByte fun b => .withHold (.of_within (takeHold_within p b) rfl)
  case releaseHold => exact .oneByte fun b => .withHold (.of_within (releaseHold_within p b) rfl)
  case drainGen => exact .noParams (.withHold fun _ => .then_drainGen)
  case genReset => exact .noParams (.withHold fun _ => .then_genReset)
  case readGen => exact .noParams (.withHold (.of_within readGen_within rfl))
  case startDescale => exact .noParams (.withHold fun _ => .then_startDescale)
  case abortDescale => exact .noParams (.withHold fun _ => .then_abortDescale)
  case startRinse => exact .noParams (.withHold fun _ => .then_startRinse)
  case readDescale => exact .noParams (.withHold (.of_within readDescale_within rfl))
  case readWater => exact .noParams (.withHold (.of_within readWater_within rfl))
  case readLoads => exact .noParams (.withHold (.of_within readLoads_within rfl))
  case readSensors => exact .noParams (.withHold (.of_within readSensors_within rfl))
  case clearLimit => exact .oneCavity fun _ _ => .then_clearLimit
  case readCause => exact .noParams (.withHold (.of_within (readCause_within p) rfl))
  case setCauseMask =>
    split
    · exact .withHold (.of_within (setCauseMask_within p _) rfl)
    · exact .deny _
  case portReset => exact .noParams (.withHold (.of_within (portReset_within p) rfl))

theorem frameAct_keepsPower (p : Port) (id : Byte) (params : List Byte) : ActKeepsPower (frameAct p id params) :=
  .ite (runAct_keepsPower p id params) (.ite (storeAct_keepsPower p id params) (otherAct_keepsPower p id params))

section
variable {s : State} {p : Port}

theorem PowerSafe.then_takeFrame {q id : Byte} {act : Act} (h : PowerSafe s) (k : ActKeepsPower act) :
    PowerSafe (takeFrame p q id act s) := .ite h (.ite (.ite h h) (k s h))

theorem PowerSafe.then_frameEnd {n : Byte} {taken : List Byte} (h : PowerSafe s) : PowerSafe (frameEnd p n taken s) := by
  unfold frameEnd
  extract_lets body
  refine .ite ?_ h
  clear_value body
  split
  · exact h.then_takeFrame (frameAct_keepsPower _ _ _)
  · exact h

theorem PowerSafe.then_receiveByte {b : Byte} (h : PowerSafe s) : PowerSafe (receiveByte p b s) := by
  unfold receiveByte
  extract_lets port put
  have puts {x : Receiver} : PowerSafe (put x s) := h
  refine .ite h ?_
  split
  · exact puts
  · exact .ite puts puts
  · exact .ite puts puts.then_frameEnd

theorem PowerSafe.then_receiveBytes {bs : List Byte} (h : PowerSafe s) : PowerSafe (receiveBytes p bs s) := by
  induction bs generalizing s with
  | nil => exact h
  | cons b bs ih => exact ih h.then_receiveByte

theorem PowerSafe.then_byteAfterGap {b : Byte} (h : PowerSafe s) : PowerSafe (byteAfterGap p b s) :=
  PowerSafe.then_receiveByte (s := modPort p _ s) h

end

end Sys2Proof.Machine
end

section
/-! SUPPORT. Every step keeps the power chain safe: the end of a device reset, the passing of time, and the commands. -/

namespace Sys2Proof.Machine

section
variable {s t : State} {c : Cavity} {l : Load}

/-! ## The end of a device reset (R199, R200) -/

/-- Stored settings are read back where they are valid (R199). -/
theorem settingsValid_of_validStored {v : Settings} (stored : validStored s = some v) : settingsValid v = true := by
  unfold validStored at stored
  split at stored
  · split at stored
    · next found =>
      obtain rfl := Option.some.inj stored
      obtain ⟨-, valid⟩ := (Bool.and_eq_true _ _).mp found
      exact valid
    · exact absurd stored nofun
  · exact absurd stored nofun

/-- The settings of a start-up, stored ones or the defaults, meet R85 and R87 (R199). -/
theorem startSettings_safe (s : State) :
    ratingsWithin ((validStored s).getD Settings.default) = true
      ∧ chainOk ((validStored s).getD Settings.default).chain = true := by
  cases stored : validStored s with
  | none => exact ⟨by decide, by decide⟩
  | some v =>
    have valid := settingsValid_of_validStored stored
    simp only [settingsValid, Bool.and_eq_true] at valid
    obtain ⟨⟨-, chain⟩, ratings⟩ := valid
    exact ⟨ratings, chain⟩

theorem powerSafe_poweredState (inputs : StartInputs) (s : State) : PowerSafe (poweredState inputs s) := by
  obtain ⟨ratings, chain⟩ := startSettings_safe { s with store := storeAfterReset inputs s.store }
  have idle (l : Load) : (poweredState inputs s).arbiter.get l ≠ .granted := by
    rw [show (poweredState inputs s).arbiter = State.reset.arbiter from rfl, reset_status]
    decide
  exact powerSafe_of_no_grant ratings chain idle

theorem PowerSafe.then_examineSave {r : Option ProcRecord} (h : PowerSafe s) : PowerSafe (examineSave r s) := by
  unfold examineSave
  split
  · exact .ite (h.then_within (saveProcedure_within s) rfl) h
  · exact h

theorem PowerSafe.then_startGenerator (h : PowerSafe s) : PowerSafe (startGenerator s) := by
  unfold startGenerator
  extract_lets x drawn started
  have starts : PowerSafe started := .ite h h
  exact starts

theorem PowerSafe.then_startLimit {active : Bool} (h : PowerSafe s) : PowerSafe (startLimit c active s) :=
  .ite h.then_limitTrip h

theorem PowerSafe.then_startFault {x : Sensor} (h : PowerSafe s) : PowerSafe (startFault x s) :=
  .ite h.then_broadcast.then_handFault h

theorem PowerSafe.then_startEvents {inputs : StartInputs} (h : PowerSafe s) : PowerSafe (startEvents inputs s) := by
  unfold startEvents
  extract_lets limited powered
  have limits : PowerSafe limited := h.then_startLimit.then_startLimit
  have powers : PowerSafe powered := .ite limits.then_mainsLow limits
  exact powers.then_startFault.then_startFault.then_startFault.then_startFault.then_startFault

theorem powerSafe_deviceReset (inputs : StartInputs) (s : State) : PowerSafe (deviceReset inputs s) :=
  (powerSafe_poweredState inputs s).then_examineSave.then_startGenerator.then_startEvents

/-! ## The passing of a tenth of a second -/

theorem PowerSafe.then_whenDue {due : State → Bool} {f : State → State} (h : PowerSafe s)
    (k : ∀ {t}, PowerSafe t → PowerSafe (f t)) : PowerSafe (whenDue due f s) := .ite (k h) h

theorem PowerSafe.then_dueRun (h : PowerSafe s) : PowerSafe (dueRun c s) :=
  ((((h.then_whenDue .then_delayExpiry).then_whenDue .then_feederEnd).then_whenDue .then_doorTimeoutEnd).then_whenDue
    .then_stepTimeEnd).then_whenDue .then_regulationUpdate

theorem PowerSafe.then_duePrompt {o : Owner} (h : PowerSafe s) : PowerSafe (duePrompt o s) :=
  h.then_whenDue .then_promptTimeout

theorem PowerSafe.then_dueTimer (h : PowerSafe s) : PowerSafe (dueTimer l s) := by
  unfold dueTimer
  extract_lets zero onEnded offEnded
  have ended : PowerSafe offEnded := (h.then_whenDue .then_onExpiry).then_whenDue .then_offExpiry
  split
  · exact ended.then_whenDue .then_pairOffEnd
  all_goals exact ended

theorem PowerSafe.then_dueTimers {ls : List Load} (h : PowerSafe s) : PowerSafe (dueTimers ls s) := by
  induction ls generalizing s with
  | nil => exact h
  | cons l ls ih => exact ih h.then_dueTimer

theorem PowerSafe.then_dueGen (h : PowerSafe s) : PowerSafe (dueGen s) :=
  ((((((((h.then_whenDue .then_soakUpdate).then_whenDue .then_soakEnd).then_whenDue .then_watchdogStall).then_whenDue
    .then_drainComplete).then_whenDue .then_drainFail).then_whenDue .then_heatSlow).then_whenDue
    .then_windowEnd).then_whenDue .then_idleDrain).then_whenDue fun k => k.then_within (quietEnd_within _) rfl

theorem PowerSafe.then_dueHold {x : HoldObject} (h : PowerSafe s) : PowerSafe (dueHold x s) :=
  h.then_whenDue fun k => k.then_within (holdExpiry_within x _) rfl

theorem PowerSafe.then_takeDue (h : PowerSafe s) : PowerSafe (takeDue s) :=
  (h.then_whenDue .then_mainsLowExpiry).then_dueRun.then_dueRun.then_duePrompt.then_duePrompt.then_dueTimers.then_dueGen
    |>.then_dueHold.then_dueHold.then_dueHold

/-- No count that advances is one of the power chain's. -/
theorem PowerSafe.then_advance (h : PowerSafe s) : PowerSafe (advance s) := h.of_same rfl rfl rfl

theorem PowerSafe.then_tick (h : PowerSafe s) : PowerSafe (tick s) := .ite h h.then_advance.then_takeDue

/-! ## Every step -/

/-- An event keeps the power chain safe when its effect does. -/
theorem PowerSafe.of_event {f : State → State} (safe : PowerSafe s) (h : PowerSafe (f s)) (e : event f s = .next t) :
    PowerSafe t := by
  unfold event at e
  split at e
  · obtain rfl := Host.Outcome.next.inj e; exact safe
  · obtain rfl := Host.Outcome.next.inj e; exact h

/-- An event that reaches neither the settings, nor the arbiter, nor mains sense. -/
theorem PowerSafe.of_event_within {g : Parts} {f : State → State} (safe : PowerSafe s) (w : Within g s (f s))
    (k : Parts.offPower.covers g = true) (e : event f s = .next t) : PowerSafe t :=
  safe.of_event (f := f) (safe.then_within w k) e

theorem exec_order_powerSafe {i : Instr} {p : Port} {q id : Byte} (hk : orderKey i = some (p, q, id))
    (safe : PowerSafe s) (e : exec i s = .next t) : PowerSafe t := by
  rw [exec_eq_takeFrame i p q id hk] at e
  exact safe.of_event (f := takeFrame p q id (frameAct p id (orderParams i)))
    (safe.then_takeFrame (frameAct_keepsPower _ _ _)) e

theorem exec_event_powerSafe {i : Instr} (hk : orderKey i = none) (safe : PowerSafe s) (e : exec i s = .next t) :
    PowerSafe t := by
  cases i
  case frameReceived => exact safe.of_event safe.then_receiveBytes e
  case interByteGap => exact safe.of_event safe.then_byteAfterGap e
  case replySent => exact safe.of_event_within (replySent_within _ s) rfl e
  case lineBreak => exact safe.of_event_within (lineBreak_within _ s) rfl e
  case lineReturnToMark => exact safe.of_event_within (lineReturnToMark_within _ s) rfl e
  case deviceReset inputs => obtain rfl := Host.Outcome.next.inj e; exact powerSafe_deviceReset inputs s
  case resetHeld => obtain rfl := Host.Outcome.next.inj e; exact safe
  case delayExpiry => exact safe.of_event safe.then_delayExpiry e
  case stepTimeExpiry => exact safe.of_event safe.then_stepTimeEnd e
  case feederTimeout => exact safe.of_event safe.then_feederEnd e
  case doorTimeout => exact safe.of_event safe.then_doorTimeoutEnd e
  case regulationUpdate => exact safe.of_event safe.then_regulationUpdate e
  case offIntervalExpiry => exact safe.of_event safe.then_offExpiry e
  case onIntervalExpiry => exact safe.of_event safe.then_onExpiry e
  case pairOffExpiry => exact safe.of_event safe.then_pairOffEnd e
  case soakUpdate => exact safe.of_event safe.then_soakUpdate e
  case soakTimeExpiry => exact safe.of_event safe.then_soakEnd e
  case sensorSample => exact safe.of_event safe.then_sensorSample e
  case probeInsertion => exact safe.of_event safe.then_probeInsertion e
  case probeRemoval => exact safe.of_event safe.then_probeRemoval e
  case doorOpen => exact safe.of_event safe.then_doorOpen e
  case doorClose => exact safe.of_event safe.then_doorClose e
  case tankRemoval => exact safe.of_event safe.then_tankRemoval e
  case tankInsertion => exact safe.of_event safe.then_tankInsertion e
  case limitTrip => exact safe.of_event safe.then_limitTrip e
  case limitRelease => exact safe.of_event safe.then_limitRelease e
  case mainsLow => exact safe.of_event safe.then_mainsLow e
  case mainsBack => exact safe.of_event safe.then_mainsBack e
  case mainsLowExpiry => exact safe.of_event safe.then_mainsLowExpiry e
  case holdExpiry => exact safe.of_event_within (holdExpiry_within _ s) rfl e
  case storeWriteComplete => exact safe.of_event_within (storeWriteComplete_within _ s) rfl e
  case promptTimeout => exact safe.of_event safe.then_promptTimeout e
  case levelHighWet => exact safe.of_event safe.then_highWet e
  case levelLowDry => exact safe.of_event safe.then_levelLowDry e
  case levelLowWet => exact safe.of_event_within (levelLowWets_within _ s) rfl e
  case fillWatchdogStall => exact safe.of_event safe.then_watchdogStall e
  case windowEnd => exact safe.of_event safe.then_windowEnd e
  case idleDrain => exact safe.of_event safe.then_idleDrain e
  case drainComplete => exact safe.of_event safe.then_drainComplete e
  case drainFail => exact safe.of_event safe.then_drainFail e
  case heatSlow => exact safe.of_event safe.then_heatSlow e
  case flowPulse => exact safe.of_event safe.then_flowPulse e
  case quietTimeExpiry => exact safe.of_event_within (quietEnd_within s) rfl e
  all_goals exact absurd hk nofun

/-- Every command keeps the power chain safe. -/
theorem exec_powerSafe {i : Instr} (safe : PowerSafe s) (e : exec i s = .next t) : PowerSafe t := by
  cases hk : orderKey i with
  | none => exact exec_event_powerSafe hk safe e
  | some key =>
    obtain ⟨p, q, id⟩ := key
    exact exec_order_powerSafe hk safe e

end

/-- Settles O7: the front command keeps the power chain safe, and so does the passing of time. -/
theorem everyStepKeepsThePowerChainSafe : Obligations.EveryStepKeepsThePowerChainSafe := by
  unfold Obligations.EveryStepKeepsThePowerChainSafe
  intro s t safe e
  unfold step at e
  split at e
  · obtain rfl := Host.Outcome.next.inj e
    exact safe.then_tick
  · next i rest _ => exact exec_powerSafe (s := { s with pending := rest }) safe e

end Sys2Proof.Machine
end

section
/-! SUPPORT. The steam generator's operations, one rule each: what a state entry, an abandoned fill, a drain and a device
prompt leave (R93, R97, R99, R101, R107, R155), and when its outputs are on. -/

namespace Sys2Proof.Machine

theorem Within.meter_eq {f : Parts} {s t : State} (w : Within f s t) (k : f.meter = false) : t.meter = s.meter := by
  obtain ⟨-, -, -, -, -, -, -, -, h, -⟩ := w
  exact h k

theorem Within.scale_eq {f : Parts} {s t : State} (w : Within f s t) (k : f.scale = false) : t.scale = s.scale := by
  obtain ⟨-, -, -, -, -, -, -, -, -, h, -⟩ := w
  exact h k

theorem Within.tankPresent_eq {f : Parts} {s t : State} (w : Within f s t) (k : f.tankPresent = false) :
    t.tankPresent = s.tankPresent := by
  obtain ⟨-, -, -, -, -, -, -, -, -, -, -, -, -, -, -, -, -, -, -, -, h, -⟩ := w
  exact h k

section
variable {s t : State} {g : GenState} {prep : Gen → Gen} {a : AfterDrain} {o : Owner} {code : Nat}

/-! ## Outputs (R93) -/

theorem fillRunning_of_no_fill (h : s.gen.fill = none) : fillRunning s = false := by
  simp [fillRunning, h]

theorem tankPump_of_not_running (h : fillRunning s = false) : tankPump s = false := by
  simp [tankPump, h]

theorem inletValve_of_not_running (h : fillRunning s = false) : inletValve s = false := by
  simp [inletValve, h]

theorem fillRunning_of_waterWait (h : s.gen.state = .waterWait) : fillRunning s = false := by
  simp [fillRunning, h]

theorem fillRunning_iff :
    fillRunning s = true ↔ (s.gen.state = .filling ∨ s.gen.state = .descale) ∧ s.gen.fill.isSome = true := by
  simp [fillRunning]

theorem inletValve_of_plumbed {f : Fill} (held : s.resetHeld = false)
    (state : s.gen.state = .filling ∨ s.gen.state = .descale) (filling : s.gen.fill = some f)
    (source : f.source = .plumbed) : inletValve s = true := by
  have running : fillRunning s = true := fillRunning_iff.mpr ⟨state, by rw [filling]; rfl⟩
  simp [inletValve, held, running, filling, source]

theorem drainRunning_of_draining (h : s.gen.state = .draining) : drainRunning s = true := by
  simp [drainRunning, h]

theorem drainRunning_of_descale (h : s.gen.state = .descale) : drainRunning s = s.gen.afterDrain.isSome := by
  simp [drainRunning, h]

theorem drainRunning_of_other (draining : s.gen.state ≠ .draining) (descale : s.gen.state ≠ .descale) :
    drainRunning s = false := by
  simp [drainRunning, draining, descale]

theorem drainPump_of_running (held : s.resetHeld = false) (h : drainRunning s = true) : drainPump s = true := by
  simp [drainPump, held, h]

theorem drainPump_of_not_running (h : drainRunning s = false) : drainPump s = false := by
  simp [drainPump, h]

/-! ## State entries (R91, R101) -/

/-- What a generator state entry can change. -/
def Parts.entry : Parts := { gen := true, timers := true, arbiter := true, runs := true, attention := true }

theorem enterGen_entry (g : GenState) (prep : Gen → Gen) (s : State) : Within .entry s (enterGen g prep s) := by
  have entered : Within .entry s (modGen (fun x => prep (genFields g x)) s) := (within_modGen _ rfl).mpr (.refl _ s)
  have heated : Within .entry s (enteredGen g prep s) := entered.trans ((heatInstruction_within g _).mono rfl)
  exact heated.trans ((enterGen_from_entered g prep s).mono rfl)

@[simp] theorem enterGen_meter : (enterGen g prep s).meter = s.meter := (enterGen_entry g prep s).meter_eq rfl
@[simp] theorem enterGen_scale : (enterGen g prep s).scale = s.scale := (enterGen_entry g prep s).scale_eq rfl
@[simp] theorem enterGen_prompts : (enterGen g prep s).prompts = s.prompts := (enterGen_entry g prep s).prompts_eq rfl
@[simp] theorem enterGen_tankPresent : (enterGen g prep s).tankPresent = s.tankPresent :=
  (enterGen_entry g prep s).tankPresent_eq rfl

theorem holdsOf_restartTimer (l : Load) (m n : Nat) (s : State) : holdsOf l (restartTimer l m n s) = (m, n) := by
  have written : HoldsKept l (setHolds l m n s) (setHolds l m n s) := .refl l _
  have kept : HoldsKept l (setHolds l m n s) (restartTimer l m n s) := .ite written.then_beginOn written
  exact kept.trans (holdsOf_setHolds l m n s)

/-- The heater's holds in a generator state that sets them at its entry (R68). -/
def heatHolds : GenState → Nat × Nat
  | .heating | .delivering => (200, 0)
  | .ready => (60, 140)
  | .empty | .filling | .waterWait | .draining | .descale | .rinseOwed | .fault => (0, 0)

theorem enterGen_holds (g : GenState) (prep : Gen → Gen) (s : State) :
    holdsOf .genHeat (enterGen g prep s) = heatHolds g := by
  rw [(enterGen_from_entered g prep s).holdsOf_eq rfl]
  cases g
  case heating | delivering => exact holdsOf_restartTimer _ _ _ _
  case ready => exact holdsOf_writeHolds _ _ _ _
  all_goals exact holdsOf_stopTimer _ _

/-! ## An abandoned fill and a drain (R97, R99, R107) -/

/-- What is left where a fill in progress, if any, is given up (R97, R99). -/
structure FillAbandoned (s t : State) : Prop where
  gen : t.gen = { s.gen with fill := none }
  meter : s.gen.fill ≠ none → t.meter = { s.meter with fill := none }
  prompt : s.gen.fill ≠ none → t.prompts.generator = none
  still : s.gen.fill = none → t.meter = s.meter ∧ t.prompts = s.prompts
  scale : t.scale = s.scale

theorem abandonFill_abandoned (s : State) : FillAbandoned s (abandonFill s) := by
  have cancelled := cancelPrompt_within .generator (meterIncomplete s)
  unfold abandonFill
  split
  · next opened =>
    exact ⟨congrArg (fun g : Gen => { g with fill := none }) (cancelled.gen_eq rfl), fun _ => cancelled.meter_eq rfl,
      fun _ => cancelPrompt_get .generator _, fun empty => absurd empty (Option.ne_none_iff_isSome.mpr opened),
      cancelled.scale_eq rfl⟩
  · next closed =>
    have empty : s.gen.fill = none := Option.not_isSome_iff_eq_none.mp closed
    have same : s.gen = { s.gen with fill := none } := by rw [← empty]
    exact ⟨same, fun opened => absurd empty opened, fun opened => absurd empty opened, fun _ => ⟨rfl, rfl⟩, rfl⟩

/-- What the entry to DRAINING leaves (R107). -/
structure DrainBegun (a : AfterDrain) (s t : State) : Prop where
  gen : t.gen = { genFields .draining s.gen with afterDrain := some a, drainTime := some 0, dryTime := some 0 }
  holds : holdsOf .genHeat t = (0, 0)
  meter : s.gen.fill ≠ none → t.meter = { s.meter with fill := none }
  prompt : s.gen.fill ≠ none → t.prompts.generator = none
  still : s.gen.fill = none → t.meter = s.meter ∧ t.prompts = s.prompts
  scale : t.scale = s.scale
  within : Within .steam s t

theorem startDrain_begun (a : AfterDrain) (s : State) : DrainBegun a s (startDrain a s) := by
  have abandoned := abandonFill_abandoned s
  refine ⟨?_, enterGen_holds .draining _ _, fun opened => enterGen_meter.trans (abandoned.meter opened),
    fun opened => ?_, fun empty => ?_, enterGen_scale.trans abandoned.scale, startDrain_within a s⟩
  · rw [startDrain, enterGen_gen, abandoned.gen]
    rfl
  · rw [startDrain, enterGen_prompts, abandoned.prompt opened]
  · rw [startDrain, enterGen_meter, enterGen_prompts]
    exact abandoned.still empty

theorem DrainBegun.state (h : DrainBegun a s t) : t.gen.state = .draining := by rw [h.gen]; rfl

theorem DrainBegun.afterDrain (h : DrainBegun a s t) : t.gen.afterDrain = some a := by rw [h.gen]

theorem DrainBegun.fill (h : DrainBegun a s t) : t.gen.fill = none := by rw [h.gen]; rfl

theorem DrainBegun.drainPump_eq (h : DrainBegun a s t) (held : s.resetHeld = false) : drainPump t = true :=
  drainPump_of_running ((h.within.resetHeld_eq rfl).trans held) (drainRunning_of_draining h.state)

theorem DrainBegun.tankPump_eq (h : DrainBegun a s t) : tankPump t = false :=
  tankPump_of_not_running (fillRunning_of_no_fill h.fill)

/-! ## A device prompt (R155) -/

/-- An owner's entry is a prompt with this code, marked where the tank is absent. -/
def Raised (o : Owner) (code : Nat) (marked : Bool) (t : State) : Prop :=
  ∃ e, t.prompts.get o = some e ∧ e.code = code ∧ e.tankRemoved = marked

theorem raiseDevice_raised (o : Owner) (code : Nat) (s : State) :
    Raised o code (!s.tankPresent) (raiseDevice o code s) := by
  unfold raiseDevice raisePrompt
  extract_lets removed id entered counted
  have tank : removed.tankPresent = s.tankPresent := (removePrompt_within o .replaced s).tankPresent_eq rfl
  exact ⟨_, PerOwner.get_set_self removed.prompts o _, rfl, congrArg (!·) tank⟩

end

end Sys2Proof.Machine
end

section
/-! SUPPORT. The scale account (R121, R122, R126): the threshold test, what new points bring, and which causes stay posted
meanwhile. -/

namespace Sys2Proof.Machine

section
variable {s t u : State} {n : Nat} {c : Cavity} {g : GenState} {prep : Gen → Gen} {r : ScaleReason}

/-! ## Causes that a state entry leaves (R96, R113) -/

theorem CodeKept.then_refuse (h : CodeKept n s t) (ne : n ≠ 19) : CodeKept n s (refuse c t) := by
  unfold refuse
  split
  · exact h
  · next reason _ =>
    have denied : CodeKept n s (modRun c (fun r => { r with denial := some reason }) t) := h
    extract_lets run
    split
    · exact h
    · split
      · exact denied
      · exact denied.then_broadcast ne.symm

theorem CodeKept.then_refuseBoth (h : CodeKept n s t) (ne : n ≠ 19) : CodeKept n s (refuseBoth t) :=
  (h.then_refuse ne).then_refuse ne

theorem CodeKept.then_enterGen (h : CodeKept n s t) (state : n ≠ 4) (denial : n ≠ 19) :
    CodeKept n s (enterGen g prep t) := by
  unfold enterGen
  extract_lets left before instructed told
  have instructs : CodeKept n s instructed := h.then_same ((heatInstruction_within g _).attention_eq rfl)
  have tells : CodeKept n s told := instructs.then_broadcast state.symm
  split
  · exact tells
  · exact tells.then_refuseBoth denial

theorem CodeKept.then_cancelPrompt {o : Owner} (h : CodeKept n s t) (ne : n ≠ 25) : CodeKept n s (cancelPrompt o t) := by
  unfold cancelPrompt removePrompt
  split
  · exact CodeKept.then_broadcast (t := setPrompt o none t) h ne.symm
  · exact h

/-! ## The threshold test (R122) -/

/-- The flags and causes a threshold test of the points in force leaves (R122). -/
structure Tested (r : ScaleReason) (s t : State) : Prop where
  scale : t.scale = { s.scale with
    warn := s.scale.warn || decide (s.settings.scaleWarn ≤ s.scale.points)
    lock := s.scale.lock || decide (s.settings.scaleLock ≤ s.scale.points) }
  warned : s.scale.warn = false → t.scale.warn = true →
    ∀ p, Posted (.scaleWarn r s.scale.points s.settings.scaleWarn) p t
  locked : s.scale.lock = false → t.scale.lock = true →
    ∀ p, Posted (.scaleLock r s.scale.points s.settings.scaleLock) p t

/-- The warn part of the test. -/
def warnTest (r : ScaleReason) (s : State) : State :=
  if s.scale.warn = false ∧ s.settings.scaleWarn ≤ s.scale.points then
    broadcast (.scaleWarn r s.scale.points s.settings.scaleWarn) (modScale (fun a => { a with warn := true }) s)
  else s

theorem or_decide_of_not {b : Bool} {p : Prop} [Decidable p] (h : ¬ (b = false ∧ p)) : (b || decide p) = b := by
  cases b with
  | true => rfl
  | false => exact decide_eq_false (fun holds => h ⟨rfl, holds⟩)

theorem warnTest_scale (r : ScaleReason) (s : State) :
    (warnTest r s).scale = { s.scale with warn := s.scale.warn || decide (s.settings.scaleWarn ≤ s.scale.points) } := by
  unfold warnTest
  split
  · next due =>
    obtain ⟨-, reached⟩ := due
    simp [reached]
  · next idle => rw [or_decide_of_not idle]

theorem warnTest_posted (before : s.scale.warn = false) (after : (warnTest r s).scale.warn = true) (p : Port) :
    Posted (.scaleWarn r s.scale.points s.settings.scaleWarn) p (warnTest r s) := by
  unfold warnTest at after ⊢
  split at after
  · next due => rw [if_pos due]; exact posted_broadcast _ p _
  · exact absurd (before.symm.trans after) (by decide)

/-- The lock part of the test, and the refusal it brings (R96). -/
def lockTest (r : ScaleReason) (s : State) : State :=
  if s.scale.lock = false ∧ s.settings.scaleLock ≤ s.scale.points then
    let l := broadcast (.scaleLock r s.scale.points s.settings.scaleLock) (modScale (fun a => { a with lock := true }) s)
    if denialReason l = some .lock then refuseBoth l else l
  else s

theorem thresholdTest_eq (r : ScaleReason) (s : State) : thresholdTest r s = lockTest r (warnTest r s) := rfl

theorem lockTest_scale (r : ScaleReason) (s : State) :
    (lockTest r s).scale = { s.scale with lock := s.scale.lock || decide (s.settings.scaleLock ≤ s.scale.points) } := by
  unfold lockTest
  split
  · next due =>
    obtain ⟨-, reached⟩ := due
    extract_lets l
    have locks : l.scale = { s.scale with lock := s.scale.lock || decide (s.settings.scaleLock ≤ s.scale.points) } := by
      simp [l, reached]
    split
    · exact ((refuseBoth_within l).scale_eq rfl).trans locks
    · exact locks
  · next idle => rw [or_decide_of_not idle]

theorem lockTest_posted (before : s.scale.lock = false) (after : (lockTest r s).scale.lock = true) (p : Port) :
    Posted (.scaleLock r s.scale.points s.settings.scaleLock) p (lockTest r s) := by
  unfold lockTest at after ⊢
  split at after
  · next due =>
    rw [if_pos due]
    extract_lets l
    have told : Posted (.scaleLock r s.scale.points s.settings.scaleLock) p l := posted_broadcast _ p _
    split
    · exact told.of_codeKept ((CodeKept.refl _ l).then_refuseBoth (by decide : (18 : Nat) ≠ 19))
    · exact told
  · exact absurd (before.symm.trans after) (by decide)

theorem CodeKept.then_lockTest (h : CodeKept n s t) (lock : n ≠ 18) (denial : n ≠ 19) : CodeKept n s (lockTest r t) := by
  unfold lockTest
  split
  · extract_lets l
    have locks : CodeKept n s l := CodeKept.then_broadcast (t := modScale _ t) h lock.symm
    split
    · exact locks.then_refuseBoth denial
    · exact locks
  · exact h

theorem warnTest_settings (r : ScaleReason) (s : State) : (warnTest r s).settings = s.settings := by
  unfold warnTest
  split
  · rfl
  · rfl

theorem thresholdTest_tested (r : ScaleReason) (s : State) : Tested r s (thresholdTest r s) := by
  have warn := warnTest_scale r s
  have lock := lockTest_scale r (warnTest r s)
  rw [warn, warnTest_settings] at lock
  rw [thresholdTest_eq]
  refine ⟨lock, fun before after p => ?_, fun before after p => ?_⟩
  · have posted : Posted (.scaleWarn r s.scale.points s.settings.scaleWarn) p (warnTest r s) :=
      warnTest_posted before (by rw [lock] at after; rwa [warn]) p
    exact posted.of_codeKept ((CodeKept.refl 17 (warnTest r s)).then_lockTest (by decide) (by decide))
  · have posted := lockTest_posted (r := r) (s := warnTest r s) (by rwa [warn]) after p
    rwa [warn, warnTest_settings] at posted

/-! ## New points (R121, R126) -/

/-- The account after new points and a new carry: the test of the thresholds, and a save where the points cross a multiple
of 256 (R121, R122, R126). -/
structure PointsSet (r : ScaleReason) (m k : Nat) (s t : State) : Prop where
  scale : t.scale = { s.scale with
    points := m, carry := k
    warn := s.scale.warn || decide (s.settings.scaleWarn ≤ m)
    lock := s.scale.lock || decide (s.settings.scaleLock ≤ m)
    savedPoints := if m / 256 = s.scale.points / 256 then s.scale.savedPoints else some m }
  warned : s.scale.warn = false → t.scale.warn = true → ∀ p, Posted (.scaleWarn r m s.settings.scaleWarn) p t
  locked : s.scale.lock = false → t.scale.lock = true → ∀ p, Posted (.scaleLock r m s.settings.scaleLock) p t

/-- A save notes the points it hands over (R126). -/
theorem saveScale_scale (s : State) : (saveScale s).scale = { s.scale with savedPoints := some s.scale.points } := by
  unfold saveScale
  extract_lets noted
  exact (handSave_within _ noted).scale_eq rfl

theorem setPoints_set (m k : Nat) (r : ScaleReason) (s : State) : PointsSet r m k s (setPoints m k r s) := by
  have tested := thresholdTest_tested r (modScale (fun a => { a with points := m, carry := k }) s)
  unfold setPoints
  extract_lets old t
  obtain ⟨scale, warned, locked⟩ := tested
  change t.scale = _ at scale
  split
  · next same => exact ⟨by rw [scale, if_pos same]; rfl, warned, locked⟩
  · next crossed =>
    have kept (n : Nat) : CodeKept n t (saveScale t) :=
      (CodeKept.refl n t).then_same ((saveScale_within t).attention_eq rfl)
    have saves := saveScale_scale t
    refine ⟨by rw [saves, scale, if_neg crossed]; rfl, fun before after p => ?_, fun before after p => ?_⟩
    · exact (warned before (by rwa [saves] at after) p).of_codeKept (kept _)
    · exact (locked before (by rwa [saves] at after) p).of_codeKept (kept _)

end

end Sys2Proof.Machine
end

section
/-! SUPPORT. A steam fill (R95, R97 to R99, R118): its record, its completion into HEATING, its wait for water, and the
three ways it can start. -/

namespace Sys2Proof.Machine

section
variable {s t u : State} {m : MeterFill}

/-! ## The record of a fill (R118, R121) -/

/-- The volume of a completed fill (R116, R118). -/
def filledVolume (m : MeterFill) (s : State) : Nat := min 65535 (m.pulses * 100 / s.settings.flowCal)

/-- Hardness times volume with the carry before it (R121). -/
def scaleSum (m : MeterFill) (s : State) : Nat := filledVolume m s * s.settings.hardness + s.scale.carry

/-- What the completion of the open fill `m` leaves at the meter (R118); a fill not for steam accrues nothing (R121). -/
structure FillRecorded (m : MeterFill) (s t : State) : Prop where
  fill : t.meter.fill = none
  latest : t.meter.latest = some { volume := filledVolume m s, source := m.source, purpose := m.purpose }
  other : m.purpose ≠ .steam → t.meter.total = s.meter.total ∧ t.scale = s.scale
  total : m.purpose = .steam → t.meter.total = min 4294967295 (s.meter.total + filledVolume m s)

/-- What the completion of a steam fill accrues (R121). -/
def Accrued (m : MeterFill) (s t : State) : Prop :=
  PointsSet .accrual (min 65535 (s.scale.points + scaleSum m s / 100)) (scaleSum m s % 100) s t

/-- The meter with the record of the completed fill. -/
def recordedMeter (m : MeterFill) (s : State) : Meter :=
  { s.meter with
    fill := none, latest := some { volume := filledVolume m s, source := m.source, purpose := m.purpose } }

/-- The accrual of a volume (R121). -/
theorem accrue_set (n : Nat) (s : State) :
    PointsSet .accrual (min 65535 (s.scale.points + (n * s.settings.hardness + s.scale.carry) / 100))
      ((n * s.settings.hardness + s.scale.carry) % 100) s (accrue n s) := setPoints_set _ _ .accrual s

theorem meterComplete_of_steam (opened : s.meter.fill = some m) (steam : m.purpose = .steam) :
    meterComplete s = accrue (filledVolume m s) { s with
      meter := { recordedMeter m s with total := min 4294967295 (s.meter.total + filledVolume m s) } } := by
  rw [meterComplete, opened]
  exact if_pos steam

theorem meterComplete_of_other (opened : s.meter.fill = some m) (other : m.purpose ≠ .steam) :
    meterComplete s = { s with meter := recordedMeter m s } := by
  rw [meterComplete, opened]
  exact if_neg other

theorem meterComplete_recorded (opened : s.meter.fill = some m) : FillRecorded m s (meterComplete s) := by
  by_cases steam : m.purpose = .steam
  · rw [meterComplete_of_steam opened steam]
    have meter := (accrue_within (filledVolume m s) { s with
      meter := { recordedMeter m s with total := min 4294967295 (s.meter.total + filledVolume m s) } }).meter_eq rfl
    exact ⟨by rw [meter]; rfl, by rw [meter]; rfl, fun other => absurd steam other, fun _ => by rw [meter]⟩
  · rw [meterComplete_of_other opened steam]
    exact ⟨rfl, rfl, fun _ => ⟨rfl, rfl⟩, fun is => absurd is steam⟩

theorem meterComplete_accrued (opened : s.meter.fill = some m) (steam : m.purpose = .steam) :
    Accrued m s (meterComplete s) := by
  rw [meterComplete_of_steam opened steam]
  obtain ⟨scale, warned, locked⟩ := accrue_set (filledVolume m s) { s with
    meter := { recordedMeter m s with total := min 4294967295 (s.meter.total + filledVolume m s) } }
  exact ⟨scale, warned, locked⟩

/-- New points stay as they are while the account and the causes of its thresholds do. -/
theorem PointsSet.then_same {r : ScaleReason} {n k : Nat} (h : PointsSet r n k s t) (scale : u.scale = t.scale)
    (warn : CodeKept 17 t u) (lock : CodeKept 18 t u) : PointsSet r n k s u :=
  ⟨scale.trans h.scale, fun before after p => (h.warned before (by rwa [← scale]) p).of_codeKept warn,
    fun before after p => (h.locked before (by rwa [← scale]) p).of_codeKept lock⟩

theorem FillRecorded.then_same (h : FillRecorded m s t) (meter : u.meter = t.meter) (scale : u.scale = t.scale) :
    FillRecorded m s u := by
  refine ⟨by rw [meter, h.fill], by rw [meter, h.latest], fun other => ?_, fun steam => by rw [meter, h.total steam]⟩
  rw [meter, scale]
  exact h.other other

/-! ## Completion (R97, R101) -/

/-- What a completed steam fill leaves (R97): its record, and HEATING. -/
structure SteamFilled (m : MeterFill) (s t : State) : Prop where
  gen : t.gen = genFields .heating s.gen
  prompt : t.prompts.generator = none
  holds : holdsOf .genHeat t = (200, 0)
  record : FillRecorded m s t
  accrued : m.purpose = .steam → Accrued m s t
  within : Within .steam s t

theorem completeSteamFill_filled (opened : s.meter.fill = some m) : SteamFilled m s (completeSteamFill s) := by
  have cancel := cancelPrompt_within .generator (meterComplete s)
  have kept (n : Nat) (state : n ≠ 4) (denial : n ≠ 19) (clear : n ≠ 25) :
      CodeKept n (meterComplete s) (completeSteamFill s) :=
    .then_enterGen (.then_cancelPrompt (.refl n _) clear) state denial
  have meter : (completeSteamFill s).meter = (meterComplete s).meter := enterGen_meter.trans (cancel.meter_eq rfl)
  have scale : (completeSteamFill s).scale = (meterComplete s).scale := enterGen_scale.trans (cancel.scale_eq rfl)
  refine ⟨?_, ?_, enterGen_holds .heating _ _, (meterComplete_recorded opened).then_same meter scale, fun steam => ?_,
    completeSteamFill_within s⟩
  · rw [completeSteamFill, enterGen_gen, cancel.gen_eq rfl, (meterComplete_within s).gen_eq rfl]
    rfl
  · rw [completeSteamFill, enterGen_prompts]
    exact cancelPrompt_get .generator _
  · exact (meterComplete_accrued opened steam).then_same scale
      (kept 17 (by decide) (by decide) (by decide)) (kept 18 (by decide) (by decide) (by decide))

theorem SteamFilled.state (h : SteamFilled m s t) : t.gen.state = .heating := by rw [h.gen]; rfl

theorem SteamFilled.fill (h : SteamFilled m s t) : t.gen.fill = none := by rw [h.gen]; rfl

/-! ## Waiting for water (R99) -/

/-- The generator waits for water (R99): the fill kept with its watchdog at 0, REFILL_TANK raised. -/
structure WaterWaits (s t : State) : Prop where
  state : t.gen.state = .waterWait
  fill : t.gen.fill = s.gen.fill.map (fun f => { f with watchdog := 0 })
  meter : t.meter = s.meter
  raised : Raised .generator 240 (!s.tankPresent) t
  prompt : t.gen.waitPrompt = t.prompts.generator.map (·.id)
  credit : t.gen.credit = s.gen.credit
  demand : t.gen.demand = s.gen.demand
  within : Within .steam s t

/-- WATER_WAIT entered, before the demand is looked at. -/
def waterWaiting (s : State) : State :=
  let w := raiseDevice .generator 240
    (enterGen .waterWait (fun g => { g with fill := g.fill.map (fun f => { f with watchdog := 0 }) }) s)
  modGen (fun g => { g with waitPrompt := promptIdOf .generator w }) w

theorem enterWaterWait_eq (s : State) : enterWaterWait s = dropWait (waterWaiting s) := rfl

theorem waterWaiting_waits (s : State) : WaterWaits s (waterWaiting s) := by
  have raised := raiseDevice_raised .generator 240
    (enterGen .waterWait (fun g => { g with fill := g.fill.map (fun f => { f with watchdog := 0 }) }) s)
  have raise := raiseDevice_within .generator 240
    (enterGen .waterWait (fun g => { g with fill := g.fill.map (fun f => { f with watchdog := 0 }) }) s)
  have gen := raise.gen_eq rfl
  rw [enterGen_gen] at gen
  rw [enterGen_tankPresent] at raised
  unfold waterWaiting
  extract_lets w
  change w.gen = _ at gen
  refine ⟨?_, ?_, (raise.meter_eq rfl).trans enterGen_meter, raised, rfl, ?_, ?_, ?_⟩
  · rw [modGen_gen, gen]; rfl
  · rw [modGen_gen, gen]; rfl
  · rw [modGen_gen, gen]; rfl
  · rw [modGen_gen, gen]; rfl
  · exact (within_modGen _ rfl).mpr ((enterGen_within _ _ s).trans (raise.mono rfl))

theorem anyDemand_of_demand (h : t.gen.demand = s.gen.demand) : anyDemand t = anyDemand s := by
  simp [anyDemand, wantsSteam, h]

/-- With a demand the fill waits. -/
theorem enterWaterWait_waits (wanted : anyDemand s = true) : WaterWaits s (enterWaterWait s) := by
  have waits := waterWaiting_waits s
  have stays : dropWait (waterWaiting s) = waterWaiting s := by
    refine if_neg ?_
    rintro ⟨-, gone⟩
    exact absurd (gone.symm.trans ((anyDemand_of_demand waits.demand).trans wanted)) (by decide)
  rw [enterWaterWait_eq, stays]
  exact waits

/-- Without a demand it is given up at once. -/
theorem enterWaterWait_givenUp (unwanted : anyDemand s = false) :
    DrainBegun .empty (waterWaiting s) (enterWaterWait s) := by
  have waits := waterWaiting_waits s
  have gone : anyDemand (waterWaiting s) = false := (anyDemand_of_demand waits.demand).trans unwanted
  rw [enterWaterWait_eq, show dropWait (waterWaiting s) = startDrain .empty (waterWaiting s) from
    if_pos ⟨waits.state, gone⟩]
  exact startDrain_begun .empty _

/-! ## The start of a steam fill (R95, R97, R98) -/

/-- The fill in progress of a steam fill at its start. -/
def freshFill (s : State) : Fill := { purpose := .steam, source := s.settings.waterSource, watchdog := 0 }

/-- The open fill of the meter at the start of a steam fill (R116). -/
def freshCount (s : State) : MeterFill :=
  { source := s.settings.waterSource, purpose := .steam, pulses := 0, period := none, quiet := 0, measuring := false }

/-- FILLING entered, before LEVEL_HIGH and the tank are looked at. -/
def steamFillBegun (s : State) : State :=
  meterBegin s.settings.waterSource .steam (enterGen .filling (fun g => { g with fill := some (freshFill s) }) s)

theorem steamFillBegun_gen (s : State) :
    (steamFillBegun s).gen = { genFields .filling s.gen with fill := some (freshFill s) } := enterGen_gen _ _ s

theorem steamFillBegun_meter (s : State) : (steamFillBegun s).meter = { s.meter with fill := some (freshCount s) } :=
  congrArg (fun m : Meter => { m with fill := some (freshCount s) }) enterGen_meter

theorem steamFillBegun_within (s : State) : Within .steam s (steamFillBegun s) :=
  (enterGen_within _ _ s).trans ((meterBegin_within _ _ _).mono rfl)

theorem startSteamFill_eq (s : State) :
    startSteamFill s
      = if (steamFillBegun s).gen.levelHighWet then completeSteamFill (steamFillBegun s)
        else waitIfAbsent (steamFillBegun s) := rfl

/-- With LEVEL_HIGH wet the fill is complete with nothing counted (R97). -/
theorem startSteamFill_full (full : s.gen.levelHighWet = true) :
    SteamFilled (freshCount s) (steamFillBegun s) (startSteamFill s) := by
  have wet : (steamFillBegun s).gen.levelHighWet = true := by rw [steamFillBegun_gen]; exact full
  rw [startSteamFill_eq, if_pos wet]
  exact completeSteamFill_filled (by rw [steamFillBegun_meter])

theorem startSteamFill_of_dry (dry : s.gen.levelHighWet = false) :
    startSteamFill s = waitIfAbsent (steamFillBegun s) := by
  have wet : (steamFillBegun s).gen.levelHighWet ≠ true := by
    rw [steamFillBegun_gen]
    exact (Bool.eq_false_iff).mp dry
  rw [startSteamFill_eq, if_neg wet]

/-- With the tank absent the fill waits for water (R98). -/
theorem startSteamFill_waits (dry : s.gen.levelHighWet = false) (source : s.settings.waterSource = .tank)
    (absent : s.tankPresent = false) (wanted : anyDemand s = true) :
    WaterWaits (steamFillBegun s) (startSteamFill s) := by
  have gen := steamFillBegun_gen s
  have stalls : (steamFillBegun s).gen.fill.map (·.source) = some .tank ∧ (steamFillBegun s).tankPresent = false := by
    rw [gen, (steamFillBegun_within s).tankPresent_eq rfl]
    exact ⟨congrArg some source, absent⟩
  rw [startSteamFill_of_dry dry, waitIfAbsent, if_pos stalls]
  exact enterWaterWait_waits ((anyDemand_of_demand (by rw [gen]; rfl)).trans wanted)

/-- Otherwise the fill runs in FILLING (R97). -/
theorem startSteamFill_runs (dry : s.gen.levelHighWet = false)
    (supplied : s.settings.waterSource = .plumbed ∨ s.tankPresent = true) : startSteamFill s = steamFillBegun s := by
  rw [startSteamFill_of_dry dry, waitIfAbsent]
  refine if_neg ?_
  rintro ⟨tank, absent⟩
  rw [steamFillBegun_gen] at tank
  rw [(steamFillBegun_within s).tankPresent_eq rfl] at absent
  have source : s.settings.waterSource = .tank := Option.some.inj tank
  rcases supplied with piped | present
  · exact absurd (source.symm.trans piped) (by decide)
  · exact absurd (absent.symm.trans present) (by decide)

/-- The volume of a fill in which nothing was counted. -/
theorem filledVolume_of_no_pulses (h : m.pulses = 0) : filledVolume m s = 0 := by
  simp [filledVolume, h]

end

end Sys2Proof.Machine
end

section
/-! SUPPORT. DRAIN_GEN and GEN_RESET (R108, R110), by the generator's state. -/

namespace Sys2Proof.Machine

section
variable {s : State}

theorem drainGen_of_water (h : s.gen.state ∈ [.filling, .waterWait, .heating, .ready, .delivering]) :
    drainGen s = if anyDemand s then deny .steamInUse s else doneAfter (startDrain .empty) s := by
  simp only [List.mem_cons, List.not_mem_nil, or_false] at h
  unfold drainGen
  rcases h with state | state | state | state | state
  all_goals rw [state]

theorem drainGen_of_draining (h : s.gen.state = .draining) : drainGen s = (s, .done, .none) := by
  rw [drainGen, h]
  rfl

theorem drainGen_of_dry (h : s.gen.state ∈ [.empty, .rinseOwed, .fault]) : drainGen s = (s, .state, .none) := by
  simp only [List.mem_cons, List.not_mem_nil, or_false] at h
  unfold drainGen
  rcases h with state | state | state
  all_goals rw [state]; rfl

theorem drainGen_of_descale (h : s.gen.state = .descale) : drainGen s = (s, .genBusy, .none) := by
  rw [drainGen, h]
  rfl

theorem genReset_of_fault (fault : s.gen.state = .fault) (sound : s.sensors.genTemp.status ≠ .faulted) :
    genReset s = (startDrain (if s.proc.rinseOwed then .rinseOwed else .empty) s, .done, .none) :=
  if_pos ⟨fault, decide_eq_false sound⟩

theorem genReset_of_refused (h : s.gen.state ≠ .fault ∨ s.sensors.genTemp.status = .faulted) :
    genReset s = (s, .state, .none) := by
  refine if_neg ?_
  rintro ⟨fault, sound⟩
  rcases h with working | faulted
  · exact working fault
  · exact of_decide_eq_false sound faulted

end

/-- Settles O48: each order by the state it is taken in; the drain is `startDrain_begun`. -/
theorem generatorOrdersAnswerByState : Obligations.GeneratorOrdersAnswerByState := by
  unfold Obligations.GeneratorOrdersAnswerByState
  intro p q s accepts holdsWater
  refine ⟨fun water wanted => ?inUse, fun water unwanted => ?drains,
    fun draining => order_answered q 0x30 accepts (drainGen_of_draining draining),
    fun dry => order_answered q 0x30 accepts (drainGen_of_dry dry),
    fun descale => order_answered q 0x30 accepts (drainGen_of_descale descale),
    fun refused => order_answered q 0x31 accepts (genReset_of_refused refused), fun fault sound => ?reset⟩
  case inUse =>
    exact order_answered q 0x30 accepts ((drainGen_of_water water).trans (if_pos wanted))
  case drains =>
    have begun := startDrain_begun .empty s
    have acts := (drainGen_of_water water).trans (if_neg (Bool.eq_false_iff.mp unwanted))
    exact ⟨_, order_answered q 0x30 accepts acts, begun.state, begun.afterDrain, begun.fill,
      fun opened => ⟨by rw [begun.meter opened], begun.prompt opened⟩, begun.within⟩
  case reset =>
    have begun := startDrain_begun (if s.proc.rinseOwed then .rinseOwed else .empty) s
    refine ⟨_, order_answered q 0x31 accepts (genReset_of_fault fault sound), begun.state, ?_, ?_, begun.afterDrain,
      begun.within⟩
    all_goals rw [begun.gen]; rfl

end Sys2Proof.Machine
end

section
/-! SUPPORT. The window end (R104): the gains, the cavity chosen, and its service. -/

namespace Sys2Proof.Machine

section
variable {s t : State} {c : Cavity}

/-- A cavity's credit after its gain (R104, step 1). -/
def gainOf (c : Cavity) (s : State) : Nat :=
  if (s.gen.demand.get c).status = .present then min 200 (s.gen.credit.get c + (s.gen.demand.get c).level)
  else s.gen.credit.get c

/-- A cavity can be served after the gains (R104, step 2). -/
def Fit (c : Cavity) (s : State) : Prop := (s.gen.demand.get c).status = .present ∧ 100 ≤ gainOf c s

theorem gainCredit_eq (c : Cavity) (s : State) : gainCredit c s = setCredit c (gainOf c s) s := by
  unfold gainCredit gainOf
  extract_lets d
  split
  · rfl
  · simp [setCredit, modGen]

/-- The window's end with its gains, before a cavity is chosen. -/
def gained (s : State) : State := gainCredit .B (gainCredit .A (modGen (fun g => { g with windowTime := some 0 }) s))

theorem gained_eq (s : State) :
    gained s = { s with gen := { s.gen with windowTime := some 0, credit := ⟨gainOf .A s, gainOf .B s⟩ } } := by
  rw [gained, gainCredit_eq, gainCredit_eq]
  rfl

theorem gained_within (s : State) : Within .steam s (gained s) := by
  rw [gained_eq]
  exact (within_set_gen _ rfl).mpr (.refl _ s)

theorem gained_credit (c : Cavity) (s : State) : (gained s).gen.credit.get c = gainOf c s := by
  rw [gained_eq]
  cases c
  · rfl
  · rfl

theorem eligible_gained_iff (c : Cavity) (s : State) : eligible c (gained s) = true ↔ Fit c s := by
  rw [eligible, Bool.and_eq_true, decide_eq_true_iff, decide_eq_true_iff, gained_credit, gained_eq]
  rfl

theorem windowEnd_of_window (h : s.gen.state = .ready ∨ s.gen.state = .delivering) :
    windowEnd s = match chosen (gained s) with
      | some c => serve c (gained s)
      | none => if (gained s).gen.state = .delivering then enterGen .ready id (gained s) else gained s := if_pos h

/-! ## The choice (R104, step 3) -/

theorem chosen_of_one (fit : Fit c s) (other : ¬ Fit (otherCavity c) s) : chosen (gained s) = some c := by
  rw [← eligible_gained_iff, Bool.not_eq_true] at other
  rw [← eligible_gained_iff] at fit
  cases c
  · simp [chosen, fit, show eligible .B (gained s) = false from other]
  · simp [chosen, fit, show eligible .A (gained s) = false from other]

theorem chosen_of_both (a : Fit .A s) (b : Fit .B s) :
    chosen (gained s) = some (match s.gen.lastServed with | some c => otherCavity c | none => .A) := by
  rw [← eligible_gained_iff] at a b
  have last : (gained s).gen.lastServed = s.gen.lastServed := by rw [gained_eq]
  rw [chosen, a, b, last]
  cases s.gen.lastServed
  · rfl
  · rfl

theorem chosen_of_none (a : ¬ Fit .A s) (b : ¬ Fit .B s) : chosen (gained s) = none := by
  rw [← eligible_gained_iff, Bool.not_eq_true] at a b
  simp [chosen, a, b]

/-! ## The service (R104, step 4) -/

/-- What the service of a cavity leaves, on the gains. -/
structure Served (c : Cavity) (s t : State) : Prop where
  state : t.gen.state = .delivering
  serving : t.gen.serving = some c
  last : t.gen.lastServed = some c
  window : t.gen.windowTime = some 0
  credit : t.gen.credit = (gained s).gen.credit.set c (gainOf c s - 100)
  holds : s.gen.state = .ready → holdsOf .genHeat t = (200, 0)
  within : Within .steam s t

/-- The gains with the service noted, before the heater is told. -/
def picked (c : Cavity) (s : State) : State :=
  modGen (fun g => { g with lastServed := some c, serving := some c }) (setCredit c (gainOf c s - 100) (gained s))

theorem serve_gained (c : Cavity) (s : State) :
    serve c (gained s)
      = if (picked c s).gen.state = .delivering then picked c s else enterGen .delivering id (picked c s) := by
  rw [serve, gained_credit]
  rfl

theorem picked_gen (c : Cavity) (s : State) :
    (picked c s).gen = { s.gen with
      windowTime := some 0, lastServed := some c, serving := some c
      credit := (gained s).gen.credit.set c (gainOf c s - 100) } := by
  rw [picked, modGen_gen, setCredit, modGen_gen, gained_eq]

theorem serve_served (c : Cavity) (s : State) : Served c s (serve c (gained s)) := by
  have gen := picked_gen c s
  have within : Within .steam s (serve c (gained s)) := (gained_within s).trans (serve_within c _)
  rw [serve_gained] at within ⊢
  split at within
  · next delivering =>
    rw [if_pos delivering]
    have still : s.gen.state = .delivering := by rwa [gen] at delivering
    refine ⟨delivering, by rw [gen], by rw [gen], by rw [gen], by rw [gen], fun ready => ?_, within⟩
    exact absurd (ready.symm.trans still) (by decide)
  · next idle =>
    rw [if_neg idle]
    refine ⟨?_, ?_, ?_, ?_, ?_, fun _ => enterGen_holds .delivering _ _, within⟩
    all_goals rw [enterGen_gen, gen]; rfl

theorem steamValve_of_delivering (held : t.resetHeld = false) (state : t.gen.state = .delivering) (j : Cavity) :
    steamValve j t = decide (t.gen.serving = some j) := by
  simp [steamValve, held, state]

theorem steamValve_of_ready (state : t.gen.state = .ready) (j : Cavity) : steamValve j t = false := by
  simp [steamValve, state]

/-- With no cavity fit the generator is READY for a new window. -/
theorem windowEnd_unserved (window : s.gen.state = .ready ∨ s.gen.state = .delivering) (a : ¬ Fit .A s) (b : ¬ Fit .B s) :
    (windowEnd s).gen.state = .ready ∧ (windowEnd s).gen.windowTime = some 0
      ∧ (windowEnd s).gen.credit = ⟨gainOf .A s, gainOf .B s⟩ ∧ (windowEnd s).gen.lastServed = s.gen.lastServed
      ∧ (s.gen.state = .delivering → holdsOf .genHeat (windowEnd s) = (60, 140)) := by
  rw [windowEnd_of_window window, chosen_of_none a b]
  dsimp only
  have gen : (gained s).gen = { s.gen with windowTime := some 0, credit := ⟨gainOf .A s, gainOf .B s⟩ } := by
    rw [gained_eq]
  split
  · next delivering =>
    refine ⟨?_, ?_, ?_, ?_, fun _ => enterGen_ready_holds _ _⟩
    all_goals rw [enterGen_gen]
    · rfl
    · refine (if_pos delivering).trans ?_
      rw [gen]
    · rw [gen]; rfl
    · rw [gen]; rfl
  · next idle =>
    rw [gen] at idle ⊢
    have ready : s.gen.state = .ready := window.resolve_right idle
    exact ⟨ready, rfl, rfl, rfl, fun delivering => absurd delivering idle⟩

end

/-- Settles O46, by the cavity chosen. -/
theorem windowEndServesByCredit : Obligations.WindowEndServesByCredit := by
  unfold Obligations.WindowEndServesByCredit
  intro s held gain fit serves window
  have ends := event_of_not_held windowEnd held
  have served (c : Cavity) (choice : chosen (gained s) = some c) : serves c := by
    have did := serve_served c s
    have released := (did.within.resetHeld_eq rfl).trans held
    have valve := steamValve_of_delivering released did.state
    rw [did.serving] at valve
    refine ⟨_, ends.trans (by rw [windowEnd_of_window window, choice]), did.state, did.serving, did.last, did.window,
      ?_, ?_, ?_, ?_, did.holds, did.within⟩
    · rw [did.credit, PerCavity.get_set_self]
      rfl
    · rw [did.credit, PerCavity.get_other_set]
      exact gained_credit _ s
    · rw [valve]
      exact decide_eq_true rfl
    · rw [valve]
      exact decide_eq_false (fun same => otherCavity_ne c (Option.some.inj same).symm)
  refine ⟨fun c one other => served c (chosen_of_one one other), fun c a b last => served c ?_,
    fun a b last => served .A ?_, fun a b => ?_⟩
  · rw [chosen_of_both a b, last]
    cases c
    · rfl
    · rfl
  · rw [chosen_of_both a b, last]
  · obtain ⟨state, time, credit, last, holds⟩ := windowEnd_unserved window a b
    exact ⟨_, ends, state, time, credit, last, steamValve_of_ready state .A, steamValve_of_ready state .B, holds,
      windowEnd_within s⟩

end Sys2Proof.Machine
end

section
/-! SUPPORT. The descale controller's operations, one rule each (R129, R132 to R136, R139): the entry to a waiting phase
and to IDLE, a fill complete, stalled or begun, an abort, and the generator given back. -/

namespace Sys2Proof.Machine

section
variable {s t u : State} {m : MeterFill} {x : ProcPhase} {k : ProcKind} {o : Outcome} {reason : ProcAbort}
  {src : WaterSource} {purpose : Purpose}

/-! ## Phases (R129, R132) -/

/-- What a phase entry can change. -/
def Parts.phase : Parts := { proc := true, store := true, attention := true }

theorem enterPhase_phase (x : ProcPhase) (s : State) : Within .phase s (enterPhase x s) := enterPhase_within x s

/-- What the entry to a waiting phase leaves (R132): its prompt, kept by its id, and the generator as it was. -/
structure WaitingEntered (x : ProcPhase) (s t : State) : Prop where
  proc : t.proc = { s.proc with
    phase := x, soakTime := none, savedPhase := some x, promptId := t.prompts.descaler.map (·.id) }
  raised : Raised .descaler (if x = .waitSolution then 241 else 242) (!s.tankPresent) t
  gen : t.gen = s.gen
  meter : t.meter = s.meter
  scale : t.scale = s.scale
  others : ∀ j, j ≠ .descaler → t.prompts.get j = s.prompts.get j
  within : Within .descale s t

theorem enterWaiting_entered (x : ProcPhase) (s : State) : WaitingEntered x s (enterWaiting x s) := by
  have entry := enterPhase_phase x s
  have raise := raiseDevice_within .descaler (if x = .waitSolution then 241 else 242) (enterPhase x s)
  have raised := raiseDevice_raised .descaler (if x = .waitSolution then 241 else 242) (enterPhase x s)
  have others (j : Owner) (ne : j ≠ .descaler) := raisePrompt_prompts_of_ne ne (if x = .waitSolution then 241 else 242) 0
    .device false none (enterPhase x s)
  rw [entry.tankPresent_eq rfl] at raised
  refine ⟨?_, raised, (raise.gen_eq rfl).trans (entry.gen_eq rfl), (raise.meter_eq rfl).trans (entry.meter_eq rfl),
    (raise.scale_eq rfl).trans (entry.scale_eq rfl), fun j ne => ?_, enterWaiting_within x s⟩
  · have proc := raise.proc_eq rfl
    rw [enterPhase_proc] at proc
    rw [enterWaiting, modProc_proc, proc]
    rfl
  · exact (others j ne).trans (congrArg (·.get j) (entry.prompts_eq rfl))

/-- The procedure record after the entry to IDLE, saved (R129). -/
theorem enterIdle_proc (k : ProcKind) (o : Outcome) (s : State) :
    (enterIdle k o s).proc = { s.proc with
      phase := .idle, kind := none, rinseNumber := none, rinseSource := none, promptId := none, soakTime := none
      lastOutcome := some o, savedPhase := some .idle } := by
  unfold enterIdle
  extract_lets ended drawn
  unfold saveProcedure
  extract_lets saved
  exact (handSave_within _ saved).proc_eq rfl

theorem CodeKept.then_enterIdle {n : Nat} (h : CodeKept n s t) (ne : n ≠ 15) : CodeKept n s (enterIdle k o t) := by
  unfold enterIdle
  extract_lets ended drawn
  have told : CodeKept n s (broadcast (.descalePhase k .idle drawn.2 (some o)) drawn.1) :=
    CodeKept.then_broadcast (t := drawn.1) h ne.symm
  exact told.then_same ((saveProcedure_within _).attention_eq rfl)

/-! ## Drains (R107, R111) -/

/-- What a drain instruction can change. -/
theorem enterDrain_frame (x : ProcPhase) (s : State) :
    Within { Parts.phase with gen := true, timers := true, arbiter := true } s (enterDrain x s) := by
  have entry := enterPhase_phase x s
  exact ((entry.mono rfl).trans ((within_modGen _ rfl).mpr (.refl _ _))).trans ((stopTimer_within _ _).mono rfl)

/-! ## Fills (R97, R133, R134, R135) -/

/-- The state in which a fill in DESCALE is complete and recorded, before its phase is left. -/
def descaleRecorded (s : State) : State := meterComplete (modGen (fun g => { g with fill := none }) s)

theorem descaleRecorded_gen (s : State) : (descaleRecorded s).gen = { s.gen with fill := none } :=
  (meterComplete_within _).gen_eq rfl

theorem descaleRecorded_proc (s : State) : (descaleRecorded s).proc = s.proc := (meterComplete_within _).proc_eq rfl

theorem descaleRecorded_recorded (opened : s.meter.fill = some m) : FillRecorded m s (descaleRecorded s) := by
  obtain ⟨fill, latest, other, total⟩ :=
    meterComplete_recorded (s := modGen (fun g => { g with fill := none }) s) opened
  exact ⟨fill, latest, other, total⟩

/-- The solution is poured (R134): HEAT_SOAK, its volume noted, the heater at full. -/
structure SolutionPoured (m : MeterFill) (s t : State) : Prop where
  record : FillRecorded m s t
  gen : t.gen = { s.gen with fill := none }
  proc : t.proc = { s.proc with
    phase := .heatSoak, promptId := none, soakTime := none, savedPhase := some .heatSoak
    solutionVolume := some (filledVolume m s) }
  holds : holdsOf .genHeat t = (200, 0)
  within : Within .descale s t

/-- The recorded state with the solution's volume noted. -/
def solutionNoted (s : State) : State :=
  modProc (fun r => { r with solutionVolume := (descaleRecorded s).meter.latest.map (·.volume) }) (descaleRecorded s)

theorem descaleFillDone_of_solution (opened : s.meter.fill = some m) (phase : s.proc.phase = .fillSolution) :
    SolutionPoured m s (descaleFillDone s) := by
  have recorded := descaleRecorded_recorded opened
  have solution : (descaleRecorded s).proc.phase = .fillSolution := by rw [descaleRecorded_proc, phase]
  have done : descaleFillDone s = restartTimer .genHeat 200 0 (enterPhase .heatSoak (solutionNoted s)) := if_pos solution
  have frame : Within { Parts.phase with timers := true, arbiter := true } (solutionNoted s) (descaleFillDone s) := by
    rw [done]
    exact ((enterPhase_phase .heatSoak _).mono rfl).trans ((restartTimer_within _ _ _ _).mono rfl)
  refine ⟨recorded.then_same (frame.meter_eq rfl) (frame.scale_eq rfl), (frame.gen_eq rfl).trans (descaleRecorded_gen s),
    ?_, ?_, descaleFillDone_within s⟩
  · rw [done, (restartTimer_within _ _ _ _).proc_eq rfl, enterPhase_proc, solutionNoted, modProc_proc, recorded.latest,
      descaleRecorded_proc]
    rfl
  · rw [done]
    exact holdsOf_restartTimer _ _ _ _

/-- The rinse water is poured (R135): RINSE_DRAIN, its drain begun. -/
structure RinsePoured (m : MeterFill) (s t : State) : Prop where
  record : FillRecorded m s t
  gen : t.gen = { s.gen with
    fill := none, afterDrain := some .report, drainTime := some 0, dryTime := some 0, soakUpdate := none }
  proc : t.proc = { s.proc with phase := .rinseDrain, promptId := none, soakTime := none, savedPhase := some .rinseDrain }
  within : Within .descale s t

theorem descaleFillDone_of_rinse (opened : s.meter.fill = some m) (phase : s.proc.phase ≠ .fillSolution) :
    RinsePoured m s (descaleFillDone s) := by
  have rinse : (descaleRecorded s).proc.phase ≠ .fillSolution := by rwa [descaleRecorded_proc]
  have done : descaleFillDone s = enterDrain .rinseDrain (descaleRecorded s) := if_neg rinse
  have drained := enterDrain_entered .rinseDrain (descaleRecorded s)
  have frame := enterDrain_frame .rinseDrain (descaleRecorded s)
  rw [← done] at drained frame
  refine ⟨(descaleRecorded_recorded opened).then_same (frame.meter_eq rfl) (frame.scale_eq rfl), ?_, ?_,
    descaleFillDone_within s⟩
  · rw [drained.gen, descaleRecorded_gen]
  · rw [drained.proc, descaleRecorded_proc]

theorem RinsePoured.drainPump_eq (h : RinsePoured m s t) (held : s.resetHeld = false) (descale : s.gen.state = .descale) :
    drainPump t = true :=
  drainPump_of_running ((h.within.resetHeld_eq rfl).trans held)
    ((drainRunning_of_descale (by rw [h.gen]; exact descale)).trans (by rw [h.gen]; rfl))

/-- The state in which a fill in DESCALE has ended incomplete, before its phase is left (R133). -/
def descaleEnded (s : State) : State := meterIncomplete (modGen (fun g => { g with fill := none }) s)

theorem descaleStall_of_solution (phase : s.proc.phase = .fillSolution) :
    descaleStall s = enterWaiting .waitSolution (descaleEnded s) := if_pos phase

theorem descaleStall_of_rinse {f : Fill} (phase : s.proc.phase ≠ .fillSolution) (filling : s.gen.fill = some f) :
    descaleStall s = match f.source with
      | .tank => enterWaiting .waitRinse (descaleEnded s)
      | .plumbed => abortProcedure .noWater (descaleEnded s) := by
  have source : (s.gen.fill.map (·.source)).getD .tank = f.source := by rw [filling]; rfl
  rw [← source]
  exact if_neg phase

/-! ## The start of a fill (R133) -/

/-- The fill phase entered, its fill noted at the generator. -/
def fillNoted (x : ProcPhase) (src : WaterSource) (purpose : Purpose) (s : State) : State :=
  modGen (fun g => { g with fill := some { purpose := purpose, source := src, watchdog := 0 } }) (enterPhase x s)

/-- The fill instruction carried out, before LEVEL_HIGH and the tank are looked at. -/
def fillEntered (x : ProcPhase) (src : WaterSource) (purpose : Purpose) (s : State) : State :=
  meterBegin src purpose (stopTimer .genHeat (fillNoted x src purpose s))

theorem enterFill_eq (x : ProcPhase) (src : WaterSource) (purpose : Purpose) (s : State) :
    enterFill x src purpose s
      = if (fillEntered x src purpose s).gen.levelHighWet then descaleFillDone (fillEntered x src purpose s)
        else if src = .tank ∧ (fillEntered x src purpose s).tankPresent = false then
          descaleStall (fillEntered x src purpose s)
        else fillEntered x src purpose s := rfl

/-- What the entry to a fill phase leaves, before LEVEL_HIGH and the tank are looked at. -/
structure FillEntered (x : ProcPhase) (src : WaterSource) (purpose : Purpose) (s t : State) : Prop where
  gen : t.gen = { s.gen with fill := some { purpose := purpose, source := src, watchdog := 0 } }
  proc : t.proc = { s.proc with phase := x, promptId := none, soakTime := none, savedPhase := some x }
  count : t.meter.fill
    = some { source := src, purpose := purpose, pulses := 0, period := none, quiet := 0, measuring := false }
  scale : t.scale = s.scale
  prompts : t.prompts = s.prompts
  within : Within .descale s t

theorem fillEntered_entered (x : ProcPhase) (src : WaterSource) (purpose : Purpose) (s : State) :
    FillEntered x src purpose s (fillEntered x src purpose s) := by
  have entry := enterPhase_phase x s
  have noted : Within .descale s (fillNoted x src purpose s) := (within_modGen _ rfl).mpr (entry.mono rfl)
  have frame : Within { timers := true, arbiter := true, meter := true } (fillNoted x src purpose s)
      (fillEntered x src purpose s) :=
    ((stopTimer_within .genHeat _).mono rfl).trans ((meterBegin_within _ _ _).mono rfl)
  refine ⟨?_, (frame.proc_eq rfl).trans (enterPhase_proc x s), rfl,
    (frame.scale_eq rfl).trans (entry.scale_eq rfl), (frame.prompts_eq rfl).trans (entry.prompts_eq rfl),
    noted.trans (frame.mono rfl)⟩
  rw [frame.gen_eq rfl, fillNoted, modGen_gen, entry.gen_eq rfl]

/-- With LEVEL_HIGH dry and water at hand the fill runs. -/
theorem enterFill_runs (dry : s.gen.levelHighWet = false) (supplied : src = .plumbed ∨ s.tankPresent = true) :
    enterFill x src purpose s = fillEntered x src purpose s := by
  have entered := fillEntered_entered x src purpose s
  rw [enterFill_eq, if_neg (by rw [entered.gen]; exact Bool.eq_false_iff.mp dry)]
  refine if_neg ?_
  rintro ⟨tank, absent⟩
  rw [entered.within.tankPresent_eq rfl] at absent
  rcases supplied with piped | present
  · exact absurd (tank.symm.trans piped) (by decide)
  · exact absurd (absent.symm.trans present) (by decide)

theorem enterFill_of_full (full : s.gen.levelHighWet = true) :
    enterFill x src purpose s = descaleFillDone (fillEntered x src purpose s) := by
  rw [enterFill_eq, if_pos (by rw [(fillEntered_entered x src purpose s).gen]; exact full)]

theorem filledAtOnce_solution (descale : s.gen.state = .descale)
    (full : s.gen.levelHighWet = true) :
    FilledAtOnce .descaleSolution src (enterFill .fillSolution src .descaleSolution s) := by
  have entered := fillEntered_entered .fillSolution src .descaleSolution s
  have poured := descaleFillDone_of_solution entered.count (by rw [entered.proc])
  rw [← enterFill_of_full full] at poured
  refine ⟨?_, ?_, poured.record.fill, ?_, ?_⟩
  · rw [poured.gen, entered.gen]; exact descale
  · rw [poured.gen]
  · rw [poured.record.latest, filledVolume_of_no_pulses rfl]
  · rw [if_pos rfl, poured.proc, filledVolume_of_no_pulses rfl]
    exact ⟨rfl, rfl, poured.holds⟩

theorem filledAtOnce_rinse (held : s.resetHeld = false) (descale : s.gen.state = .descale)
    (full : s.gen.levelHighWet = true) :
    FilledAtOnce .rinse src (enterFill .rinseFill src .rinse s)
      ∧ (enterFill .rinseFill src .rinse s).proc.rinseNumber = s.proc.rinseNumber := by
  have entered := fillEntered_entered .rinseFill src .rinse s
  have poured := descaleFillDone_of_rinse entered.count 
    (by rw [entered.proc]; exact (by decide : ProcPhase.rinseFill ≠ .fillSolution))
  have pumps := poured.drainPump_eq ((entered.within.resetHeld_eq rfl).trans held) (by rw [entered.gen]; exact descale)
  rw [← enterFill_of_full full] at poured pumps
  refine ⟨⟨?_, ?_, poured.record.fill, ?_, ?_⟩, ?_⟩
  · rw [poured.gen, entered.gen]; exact descale
  · rw [poured.gen]
  · rw [poured.record.latest, filledVolume_of_no_pulses rfl]
  · rw [if_neg (by decide), poured.proc, poured.gen]
    exact ⟨rfl, rfl, pumps⟩
  · rw [poured.proc, entered.proc]

/-! ## Giving back and aborting (R111, R136) -/

/-- A rinse owed is drained toward RINSE_OWED. -/
theorem giveBack_of_owed (owed : s.proc.rinseOwed = true) : DrainBegun .rinseOwed (abandonFill s) (giveBack s) := by
  have kept : (abandonFill s).proc.rinseOwed = true := by rwa [(abandonFill_within s).proc_eq rfl]
  rw [show giveBack s = startDrain .rinseOwed (abandonFill s) from if_pos kept]
  exact startDrain_begun _ _

/-- With no rinse owed a dry vessel is EMPTY. -/
theorem giveBack_of_dry (clear : s.proc.rinseOwed = false) (dry : s.gen.levelLowWet = false) :
    giveBack s = enterEmpty (abandonFill s) := by
  have kept : (abandonFill s).proc.rinseOwed ≠ true := by
    rw [(abandonFill_within s).proc_eq rfl]
    exact Bool.eq_false_iff.mp clear
  have low : (abandonFill s).gen.levelLowWet ≠ true := by
    rw [(abandonFill_abandoned s).gen]
    exact Bool.eq_false_iff.mp dry
  exact (if_neg kept).trans (if_neg low)

/-- The entry to EMPTY, where no steam fill is wanted (R95). -/
theorem enterEmpty_rests (h : anyPresent s = false ∨ s.scale.lock = true) : enterEmpty s = enterGen .empty id s := by
  refine if_neg ?_
  rintro ⟨-, wanted, unlocked⟩
  rw [enterGen_scale] at unlocked
  rw [anyPresent, enterGen_gen] at wanted
  rcases h with none | locked
  · exact absurd (wanted.symm.trans none) (by decide)
  · exact absurd (unlocked.symm.trans locked) (by decide)

/-- The entry to EMPTY, where one is wanted. -/
theorem enterEmpty_fills (wanted : anyPresent s = true) (unlocked : s.scale.lock = false) :
    enterEmpty s = startSteamFill (enterGen .empty id s) := by
  have gen := enterGen_gen .empty id s
  refine if_pos ⟨by rw [gen]; rfl, ?_, by rwa [enterGen_scale]⟩
  rw [anyPresent, gen]
  exact wanted

/-- A rinse is owed after an abort by a rinse, and from FILL_SOLUTION on (R136). -/
theorem owedAfterAbort_eq {r : Procedure} (kind : r.kind = some k) (phase : r.phase ≠ .idle) :
    owedAfterAbort r = if k = .rinse ∨ r.phase ∉ [.prepDrain, .waitSolution] then true else r.rinseOwed := by
  obtain ⟨p, kd, _⟩ := r
  subst kind
  cases k
  · cases p
    case idle => exact absurd rfl phase
    all_goals rfl
  · rfl

/-- What an abort leaves of the procedure record `r`, but for the give-back (R136). -/
structure Aborted (reason : ProcAbort) (k : ProcKind) (r : Procedure) (t : State) : Prop where
  proc : t.proc = { r with
    phase := .idle, kind := none, rinseNumber := none, rinseSource := none, promptId := none, soakTime := none
    rinseOwed := owedAfterAbort r, lastOutcome := some (.aborted k reason r.phase), savedPhase := some .idle }
  prompt : t.prompts.descaler = none
  posted : ∀ p, Posted (.descaleAborted k reason r.phase) p t

theorem abortCore_aborted (reason : ProcAbort) (kind : s.proc.kind = some k) :
    Aborted reason k s.proc (abortCore reason s) := by
  unfold abortCore
  extract_lets named phase owed idle
  have name : named = k := congrArg (·.getD .descale) kind
  have cancel := cancelPrompt_within .descaler owed
  have entered : Within { Parts.phase with freeIndex := true } (cancelPrompt .descaler owed) idle :=
    enterIdle_within named (.aborted named reason phase) _
  have proc : idle.proc = _ := enterIdle_proc named (.aborted named reason phase) _
  rw [cancel.proc_eq rfl, name] at proc
  rw [name]
  exact ⟨proc, (congrArg (·.descaler) (entered.prompts_eq rfl)).trans (cancelPrompt_get .descaler owed),
    fun p => posted_broadcast _ p idle⟩

/-- What an abort can change but for the give-back: neither the generator nor its meter. -/
def Parts.abort : Parts := { Parts.phase with freeIndex := true, prompts := true, promptCounter := true }

theorem abortCore_frame (reason : ProcAbort) (s : State) : Within .abort s (abortCore reason s) := by
  unfold abortCore
  extract_lets named phase owed idle
  have owes : Within .phase s owed := (within_modProc _ rfl).mpr (.refl _ s)
  have cancel : Within .abort s (cancelPrompt .descaler owed) :=
    (owes.mono rfl).trans ((cancelPrompt_within .descaler owed).mono rfl)
  exact (within_broadcast _ rfl).mpr (cancel.trans ((enterIdle_within _ _ _).mono rfl))

end

end Sys2Proof.Machine
end

section
/-! SUPPORT. The level electrodes (R92, R97, R102, R107): what each event hands to the generator. -/

namespace Sys2Proof.Machine

section
variable {s t : State} {m : MeterFill} {f : Fill} {high : Bool}

/-! ## LEVEL_HIGH (R97, R133) -/

/-- LEVEL_HIGH's flag wet, before the fill is looked at. -/
def wetted (s : State) : State := modGen (fun g => { g with levelHighWet := true }) s

theorem wetted_within (s : State) : Within { gen := true } s (wetted s) := (within_modGen _ rfl).mpr (.refl _ s)

theorem highWet_of_wet (wet : s.gen.levelHighWet = true) : highWet s = s := if_pos wet

theorem highWet_of_no_fill (h : s.gen.fill = none) : highWet s = wetted s := by
  unfold highWet
  split
  · next wet =>
    have same : s.gen = { s.gen with levelHighWet := true } := by rw [← wet]
    exact congrArg (fun g => { s with gen := g }) same
  · exact if_pos (Option.isNone_iff_eq_none.mpr h)

theorem highWet_of_fill (dry : s.gen.levelHighWet = false) (filling : s.gen.fill = some f) :
    highWet s = if (wetted s).gen.state = .descale then descaleFillDone (wetted s)
      else if (wetted s).gen.state = .filling ∨ (wetted s).gen.state = .waterWait then completeSteamFill (wetted s)
      else wetted s := by
  have opened : (wetted s).gen.fill.isNone ≠ true := by
    rw [show (wetted s).gen.fill = some f from filling]
    exact Bool.false_ne_true
  exact (if_neg (Bool.eq_false_iff.mp dry)).trans (if_neg opened)

theorem highWet_of_steam (dry : s.gen.levelHighWet = false) (filling : s.gen.fill = some f)
    (state : s.gen.state = .filling ∨ s.gen.state = .waterWait) : highWet s = completeSteamFill (wetted s) := by
  rw [highWet_of_fill dry filling, if_neg]
  · exact if_pos state
  · intro descale
    have is : s.gen.state = .descale := descale
    rw [is] at state
    exact absurd state (by decide)

theorem highWet_of_descale (dry : s.gen.levelHighWet = false) (filling : s.gen.fill = some f)
    (descale : s.gen.state = .descale) : highWet s = descaleFillDone (wetted s) :=
  (highWet_of_fill dry filling).trans (if_pos descale)

/-- A steam fill completed by LEVEL_HIGH is in HEATING, its volume accrued (R97, R118, R121). -/
theorem highWet_filled (dry : s.gen.levelHighWet = false) (filling : s.gen.fill = some f) (opened : s.meter.fill = some m)
    (state : s.gen.state = .filling ∨ s.gen.state = .waterWait) : SteamFilled m (wetted s) (highWet s) := by
  rw [highWet_of_steam dry filling state]
  exact completeSteamFill_filled opened

theorem highWet_poursSolution (dry : s.gen.levelHighWet = false) (filling : s.gen.fill = some f)
    (opened : s.meter.fill = some m) (descale : s.gen.state = .descale) (phase : s.proc.phase = .fillSolution) :
    SolutionPoured m (wetted s) (highWet s) := by
  rw [highWet_of_descale dry filling descale]
  exact descaleFillDone_of_solution opened phase

theorem highWet_poursRinse (dry : s.gen.levelHighWet = false) (filling : s.gen.fill = some f)
    (opened : s.meter.fill = some m) (descale : s.gen.state = .descale) (phase : s.proc.phase = .rinseFill) :
    RinsePoured m (wetted s) (highWet s) := by
  rw [highWet_of_descale dry filling descale]
  refine descaleFillDone_of_rinse opened ?_
  rw [show (wetted s).proc.phase = .rinseFill from phase]
  decide

/-! ## LEVEL_LOW (R102, R107) -/

/-- LEVEL_HIGH's flag after its drying, where the command says so (log 12). -/
def driedHigh (high : Bool) (s : State) : Bool := if high then false else s.gen.levelHighWet

theorem dryHigh_eq (high : Bool) (s : State) :
    dryHigh high s = { s with gen := { s.gen with levelHighWet := driedHigh high s } } := by
  cases high
  · rfl
  · rfl

/-- Both flags after LEVEL_LOW's drying. -/
def lowDried (high : Bool) (s : State) : State :=
  { s with gen := { s.gen with levelLowWet := false, levelHighWet := driedHigh high s } }

theorem lowDried_within (high : Bool) (s : State) : Within { gen := true } s (lowDried high s) :=
  (within_set_gen _ rfl).mpr (.refl _ s)

theorem levelLowDry_of_dry (dry : s.gen.levelLowWet = false) : levelLowDry high s = dryHigh high s := by
  have kept : (dryHigh high s).gen.levelLowWet ≠ true := by
    rw [dryHigh_eq]
    exact Bool.eq_false_iff.mp dry
  exact if_neg kept

theorem levelLowDry_of_wet (wet : s.gen.levelLowWet = true) : levelLowDry high s = lowDry (lowDried high s) := by
  have kept : (dryHigh high s).gen.levelLowWet = true := by rwa [dryHigh_eq]
  refine (if_pos kept).trans ?_
  rw [dryHigh_eq]
  rfl

theorem lowDry_of_other (h : s.gen.state ∉ [.heating, .ready, .delivering]) : lowDry s = s := by
  refine if_neg ?_
  simpa only [List.mem_cons, List.not_mem_nil, or_false] using h

theorem lowDry_of_water (h : s.gen.state ∈ [.heating, .ready, .delivering]) :
    lowDry s = if s.scale.lock ∨ anyDemand s = false then startDrain .empty s else startSteamFill s := by
  refine if_pos ?_
  simpa only [List.mem_cons, List.not_mem_nil, or_false] using h

theorem lowDry_drains (h : s.gen.state ∈ [.heating, .ready, .delivering])
    (ends : s.scale.lock = true ∨ anyDemand s = false) : DrainBegun .empty s (lowDry s) := by
  rw [lowDry_of_water h, if_pos ends]
  exact startDrain_begun .empty s

theorem lowDry_refills (h : s.gen.state ∈ [.heating, .ready, .delivering]) (unlocked : s.scale.lock = false)
    (wanted : anyDemand s = true) : lowDry s = startSteamFill s := by
  rw [lowDry_of_water h, if_neg]
  rw [unlocked, wanted]
  decide

/-- Both flags after LEVEL_LOW's wetting. -/
def lowWetted (high : Bool) (s : State) : State :=
  { s with gen := { s.gen with levelLowWet := true, levelHighWet := driedHigh high s } }

theorem levelLowWets_of_wet (wet : s.gen.levelLowWet = true) : levelLowWets high s = lowWetted high s := by
  have kept : (dryHigh high s).gen.levelLowWet = true := by rwa [dryHigh_eq]
  rw [show levelLowWets high s = dryHigh high s from if_pos kept, dryHigh_eq, lowWetted, ← wet]

theorem levelLowWets_of_dry (dry : s.gen.levelLowWet = false) :
    levelLowWets high s
      = if drainRunning s then modGen (fun g => { g with dryTime := some 0 }) (lowWetted high s)
        else lowWetted high s := by
  unfold levelLowWets
  rw [dryHigh_eq]
  exact if_neg (Bool.eq_false_iff.mp dry)

theorem levelLowWets_eq (high : Bool) (s : State) :
    levelLowWets high s = { s with
      gen := { s.gen with
        levelLowWet := true
        levelHighWet := driedHigh high s
        dryTime := if drainRunning s = true ∧ s.gen.levelLowWet = false then some 0 else s.gen.dryTime } } := by
  cases flag : s.gen.levelLowWet with
  | true =>
    rw [levelLowWets_of_wet flag, if_neg (fun ⟨_, no⟩ => absurd no (by decide))]
    rfl
  | false =>
    rw [levelLowWets_of_dry flag]
    split
    · next running =>
      rw [if_pos ⟨running, rfl⟩]
      rfl
    · next idle =>
      rw [if_neg (fun ⟨running, _⟩ => idle running)]
      rfl

end

/-- Settles O44, electrode by electrode and by the generator's state. -/
theorem levelElectrodesDriveTheGenerator : Obligations.LevelElectrodesDriveTheGenerator := by
  unfold Obligations.LevelElectrodesDriveTheGenerator
  intro s held dried
  have wets := event_of_not_held highWet held
  have dries (high : Bool) := event_of_not_held (levelLowDry high) held
  have highWithin := highWet_within s
  refine ⟨fun wet => wets.trans (by rw [highWet_of_wet wet]),
    fun none => wets.trans (by rw [highWet_of_no_fill none]; rfl), fun f m dry filling opened => ?high, fun high dry => ?flag, fun high wet water => ?low, fun high wet other => ?rest,
    fun high => ?wetLow⟩
  case high =>
    intro v sum recorded
    have record {t : State} (r : FillRecorded m (wetted s) t) (fill : t.gen.fill = none)
        (wet : t.gen.levelHighWet = true) : recorded t :=
      ⟨fill, wet, r.fill, r.latest, tankPump_of_not_running (fillRunning_of_no_fill fill),
        inletValve_of_not_running (fillRunning_of_no_fill fill), r.other⟩
    refine ⟨fun state => ?steam, fun descale phase => ?solution, fun descale phase => ?rinse⟩
    case steam =>
      have filled := highWet_filled dry filling opened state
      refine ⟨_, wets, record filled.record filled.fill (by rw [filled.gen]; rfl), filled.state, by rw [filled.gen]; rfl,
        by rw [filled.gen]; rfl, filled.holds, filled.prompt, fun steam => ?_,
        ((wetted_within s).mono rfl).trans filled.within⟩
      obtain ⟨scale, warned, locked⟩ := filled.accrued steam
      rw [scale] at warned locked ⊢
      exact ⟨filled.record.total steam, rfl, rfl, rfl, rfl, rfl,
        fun p => ⟨fun before after => warned before after p, fun before after => locked before after p⟩⟩
    case solution =>
      have poured := highWet_poursSolution dry filling opened descale phase
      refine ⟨_, wets, record poured.record (by rw [poured.gen]) (by rw [poured.gen]; rfl), ?_, ?_, ?_, ?_, poured.holds,
        highWithin⟩
      · rw [poured.gen]; exact descale
      all_goals rw [poured.proc]
      rfl
    case rinse =>
      have poured := highWet_poursRinse dry filling opened descale phase
      refine ⟨_, wets, record poured.record (by rw [poured.gen]) (by rw [poured.gen]; rfl), ?_, ?_, ?_, ?_, ?_, ?_,
        poured.drainPump_eq held descale, highWithin⟩
      · rw [poured.gen]; exact descale
      · rw [poured.proc]
      · rw [poured.proc]; rfl
      all_goals rw [poured.gen]
  case flag => exact (dries high).trans (by rw [levelLowDry_of_dry dry, dryHigh_eq]; rfl)
  case low =>
    have acts : exec (.levelLowDry high) s = .next (lowDry (lowDried high s)) :=
      (dries high).trans (by rw [levelLowDry_of_wet wet])
    have frame {t : State} (w : Within .steam (lowDried high s) t) : Within .steam s t :=
      ((lowDried_within high s).mono rfl).trans w
    refine ⟨fun ends => ?drains, fun unlocked wanted full => ?full, fun unlocked wanted low source absent => ?waits,
      fun unlocked wanted low supplied => ?runs⟩
    case drains =>
      have begun := lowDry_drains (s := lowDried high s) water ends
      refine ⟨_, acts, begun.state, begun.afterDrain, ?_, ?_, begun.drainPump_eq held, frame begun.within⟩
      all_goals rw [begun.gen]; rfl
    all_goals have gen := steamFillBegun_gen (lowDried high s)
    all_goals rw [lowDry_refills (s := lowDried high s) water unlocked wanted] at acts
    case full =>
      have filled := startSteamFill_full (s := lowDried high s) full
      refine ⟨_, acts, filled.state, ?_, ?_, filled.fill, filled.record.fill, ?_, filled.holds, ?_,
        frame (startSteamFill_within _)⟩
      · rw [filled.gen, gen]; rfl
      · rw [filled.gen, gen]; exact full
      · rw [filled.gen]; rfl
      · rw [filled.record.latest, filledVolume_of_no_pulses rfl]; rfl
    case waits =>
      have waits := startSteamFill_waits (s := lowDried high s) low source absent wanted
      obtain ⟨e, entry, code, -⟩ := waits.raised
      refine ⟨_, acts, waits.state, ?_, ?_, (congrArg _ entry).trans (congrArg some code), waits.prompt,
        tankPump_of_not_running (fillRunning_of_waterWait waits.state), ?_, frame (startSteamFill_within _)⟩
      · rw [waits.fill, gen, ← source]; rfl
      · rw [waits.meter, steamFillBegun_meter]; rfl
      · rw [waits.credit, gen]; rfl
    case runs =>
      rw [startSteamFill_runs (s := lowDried high s) low supplied] at acts
      refine ⟨_, acts, ?_, ?_, ?_, ?_, ?_, ?_, frame (steamFillBegun_within _)⟩
      · rw [gen]; rfl
      · rw [gen]; rfl
      · rw [gen]; rfl
      · rw [gen]; rfl
      · rw [gen]; rfl
      · rw [steamFillBegun_meter]; rfl
  case rest =>
    exact (dries high).trans (by rw [levelLowDry_of_wet wet, lowDry_of_other (s := lowDried high s) other]; rfl)
  case wetLow => exact (event_of_not_held (levelLowWets high) held).trans (by rw [levelLowWets_eq]; rfl)

end Sys2Proof.Machine
end

section
/-! SUPPORT. A generator fault as a whole (R109, R137) and the ends of the drains (R106, R107, R132, R135, R139). -/

namespace Sys2Proof.Machine

section
variable {s t : State} {k : FaultKind} {kind : ProcKind} {n : Nat}

/-! ## A fault (R109) -/

theorem genFaultCore_gen (k : FaultKind) (s : State) :
    (genFaultCore k s).gen
      = { genFields .fault s.gen with faultKind := some k, faultFrom := some s.gen.state } := by
  rw [genFaultCore, broadcast_gen, enterGen_gen, (abandonFill_abandoned s).gen]
  rfl

theorem genFaultCore_meter (k : FaultKind) (opened : s.gen.fill ≠ none) :
    (genFaultCore k s).meter = { s.meter with fill := none } := by
  rw [genFaultCore, broadcast_meter, enterGen_meter, (abandonFill_abandoned s).meter opened]

/-- Outside FAULT and DESCALE a fault is the generator's alone. -/
theorem genFault_of_steam (fault : s.gen.state ≠ .fault) (descale : s.gen.state ≠ .descale) :
    genFault k s = genFaultCore k s := (if_neg fault).trans (if_neg descale)

/-- In DESCALE it aborts the procedure (R137). -/
theorem genFault_of_descale (descale : s.gen.state = .descale) : genFault k s = abortCore .fault (genFaultCore k s) := by
  refine (if_neg ?_).trans (if_pos descale)
  rw [descale]
  decide

/-- What a fault in DESCALE leaves: the generator in FAULT, the procedure aborted (R137). -/
structure FaultAborted (k : FaultKind) (kind : ProcKind) (s t : State) : Prop extends Aborted .fault kind s.proc t where
  gen : t.gen = { genFields .fault s.gen with faultKind := some k, faultFrom := some s.gen.state }
  meter : s.gen.fill ≠ none → t.meter = { s.meter with fill := none }

theorem genFault_aborted (k : FaultKind) (descale : s.gen.state = .descale) (named : s.proc.kind = some kind) :
    FaultAborted k kind s (genFault k s) := by
  have proc := (genFaultCore_within k s).proc_eq rfl
  have frame := abortCore_frame .fault (genFaultCore k s)
  have aborted := abortCore_aborted .fault (s := genFaultCore k s) (by rwa [proc])
  rw [proc] at aborted
  rw [genFault_of_descale descale]
  exact ⟨aborted, (frame.gen_eq rfl).trans (genFaultCore_gen k s),
    fun opened => (frame.meter_eq rfl).trans (genFaultCore_meter k opened)⟩

/-! ## Drains of the generator's own (R106, R107) -/

theorem idleDrain_of_busy (h : s.gen.state ≠ .ready ∨ anyDemand s = true) : idleDrain s = s := by
  refine if_neg ?_
  rintro ⟨ready, unwanted⟩
  rcases h with other | wanted
  · exact other ready
  · exact absurd (wanted.symm.trans unwanted) (by decide)

theorem drainComplete_of_idle (h : drainRunning s = false ∨ s.gen.levelLowWet = true ∨ s.mains.low = true) :
    drainComplete s = s := by
  refine if_neg ?_
  rintro ⟨running, dry, supplied⟩
  rcases h with idle | wet | low
  · exact absurd (idle.symm.trans running) (by decide)
  · exact absurd (wet.symm.trans dry) (by decide)
  · exact absurd (low.symm.trans supplied) (by decide)

theorem drainComplete_of_dry (running : drainRunning s = true) (dry : s.gen.levelLowWet = false)
    (supplied : s.mains.low = false) :
    drainComplete s = match s.gen.afterDrain with
      | some .report => descaleDrainDone s
      | some .rinseOwed => enterGen .rinseOwed id s
      | some .empty | none => enterEmpty s := if_pos ⟨running, dry, supplied⟩

theorem drainFail_of_idle (h : drainRunning s = false ∨ s.gen.levelLowWet = false ∨ s.mains.low = true) :
    drainFail s = s := by
  refine if_neg ?_
  rintro ⟨running, wet, supplied⟩
  rcases h with idle | dry | low
  · exact absurd (idle.symm.trans running) (by decide)
  · exact absurd (dry.symm.trans wet) (by decide)
  · exact absurd (low.symm.trans supplied) (by decide)

theorem drainFail_of_wet (running : drainRunning s = true) (wet : s.gen.levelLowWet = true)
    (supplied : s.mains.low = false) : drainFail s = genFault .drainFail s := if_pos ⟨running, wet, supplied⟩

theorem windowEnd_of_other (h : s.gen.state ∉ [.ready, .delivering]) : windowEnd s = s := by
  refine if_neg ?_
  simpa only [List.mem_cons, List.not_mem_nil, or_false] using h

/-! ## Drains of the descale controller (R132, R135, R139) -/

/-- The drain reported to the controller, its fields gone. -/
def drainReported (s : State) : State :=
  modGen (fun g => { g with afterDrain := none, drainTime := none, dryTime := none }) s

/-- The report with the number of the rinse to come. -/
def rinseCounted (n : Nat) (s : State) : State := modProc (fun r => { r with rinseNumber := some n }) (drainReported s)

theorem descaleDrainDone_of_prep (phase : s.proc.phase = .prepDrain) :
    descaleDrainDone s = enterWaiting .waitSolution (drainReported s) := by
  rw [descaleDrainDone, show (modGen _ s).proc.phase = .prepDrain from phase]
  rfl

theorem descaleDrainDone_of_solution (phase : s.proc.phase = .drainSolution) :
    descaleDrainDone s = enterRinse (rinseCounted 1 s) := by
  rw [descaleDrainDone, show (modGen _ s).proc.phase = .drainSolution from phase]
  rfl

theorem descaleDrainDone_of_rinse (phase : s.proc.phase = .rinseDrain) (number : s.proc.rinseNumber = some n) :
    descaleDrainDone s
      = if n < s.settings.rinseCount then enterRinse (rinseCounted (n + 1) s)
        else match s.proc.kind with
          | some .rinse => rinseComplete (drainReported s)
          | some .descale | none => descaleComplete (drainReported s) := by
  rw [descaleDrainDone, show (modGen _ s).proc.phase = .rinseDrain from phase]
  dsimp only
  rw [show (modGen _ s).proc.rinseNumber = some n from number]
  rfl

/-- A drain in DESCALE has ended and the generator keeps to the procedure of the kind `k` (R132). -/
structure Drained (k : ProcKind) (s t : State) : Prop where
  gen : ∃ fill, t.gen = { (drainReported s).gen with fill := fill }
  kind : t.proc.kind = some k
  scale : t.scale = s.scale

theorem Drained.state (h : Drained kind s t) (descale : s.gen.state = .descale) : t.gen.state = .descale := by
  obtain ⟨fill, gen⟩ := h.gen
  rw [gen]
  exact descale

theorem Drained.fields (h : Drained kind s t) :
    t.gen.afterDrain = none ∧ t.gen.drainTime = none ∧ t.gen.dryTime = none := by
  obtain ⟨fill, gen⟩ := h.gen
  rw [gen]
  exact ⟨rfl, rfl, rfl⟩

theorem Drained.drainPump_eq (h : Drained kind s t) (descale : s.gen.state = .descale) : drainPump t = false := by
  obtain ⟨afterDrain, -⟩ := h.fields
  exact drainPump_of_not_running (by rw [drainRunning_of_descale (h.state descale), afterDrain]; rfl)

/-- The prompt of a waiting phase is kept by its id (R132). -/
theorem WaitingEntered.asks {x : ProcPhase} (h : WaitingEntered x s t) :
    t.prompts.descaler.map (·.code) = some (if x = .waitSolution then 241 else 242)
      ∧ t.proc.promptId = t.prompts.descaler.map (·.id) := by
  obtain ⟨e, entry, code, -⟩ := h.raised
  have entry : t.prompts.descaler = some e := entry
  rw [h.proc, entry]
  exact ⟨congrArg some code, rfl⟩

/-- The generator given back to EMPTY, with no steam fill wanted. -/
structure GivenBack (s t : State) : Prop where
  state : t.gen.state = .empty
  scale : t.scale = s.scale
  proc : t.proc = s.proc
  codes : CodesKept s t

theorem GivenBack.drainPump_eq (h : GivenBack s t) : drainPump t = false := by
  refine drainPump_of_not_running (drainRunning_of_other ?_ ?_)
  all_goals rw [h.state]; decide

theorem giveBack_empties (clear : s.proc.rinseOwed = false) (dry : s.gen.levelLowWet = false)
    (rests : anyPresent s = false ∨ s.scale.lock = true) : GivenBack s (giveBack s) := by
  have abandoned := abandonFill_abandoned s
  have emptied : giveBack s = enterGen .empty id (abandonFill s) := by
    rw [giveBack_of_dry clear dry]
    refine enterEmpty_rests ?_
    rwa [anyPresent, abandoned.gen, abandoned.scale]
  have work : SteamWork s (giveBack s) := emptied ▸ (SteamWork.refl s).then_abandonFill.then_enterGen
  refine ⟨?_, ?_, (giveBack_within s).proc_eq rfl, work.codes⟩
  · rw [emptied, enterGen_gen]
    rfl
  · rw [emptied, enterGen_scale, abandoned.scale]

/-- A rinse's end before the generator is given back (R139). -/
def rinseEnded (s : State) : State :=
  enterIdle .rinse (.complete .rinse) (modProc (fun r => { r with rinseOwed := false }) s)

/-- What the end of a procedure of a kind leaves of its record (R139). -/
def completedProc (k : ProcKind) (r : Procedure) : Procedure :=
  { r with
    phase := .idle, kind := none, rinseOwed := false, rinseNumber := none, rinseSource := none, promptId := none
    soakTime := none, lastOutcome := some (.complete k), savedPhase := some .idle }

theorem rinseEnded_proc (s : State) : (rinseEnded s).proc = completedProc .rinse s.proc := enterIdle_proc _ _ _

theorem rinseEnded_within (s : State) : Within { Parts.phase with freeIndex := true } s (rinseEnded s) :=
  ((within_modProc _ rfl).mpr (.refl _ s)).trans (enterIdle_within _ _ _)

/-- A rinse complete gives the generator back (R139). -/
theorem rinseComplete_given (dry : s.gen.levelLowWet = false) (rests : anyPresent s = false ∨ s.scale.lock = true) :
    (rinseComplete s).proc = completedProc .rinse s.proc ∧ (rinseComplete s).scale = s.scale
      ∧ (rinseComplete s).gen.state = .empty ∧ drainPump (rinseComplete s) = false := by
  have w := rinseEnded_within s
  have proc := rinseEnded_proc s
  have given : GivenBack (rinseEnded s) (rinseComplete s) := by
    refine giveBack_empties (by rw [proc]; rfl) (by rwa [w.gen_eq rfl]) ?_
    rwa [anyPresent, w.gen_eq rfl, w.scale_eq rfl]
  exact ⟨given.proc.trans proc, given.scale.trans (w.scale_eq rfl), given.state, given.drainPump_eq⟩

/-- DONE entered, no rinse owed (R139). -/
def descaleFinished (s : State) : State := enterPhase .done (modProc (fun r => { r with rinseOwed := false }) s)

/-- DESCALE_DONE posted and the account zeroed (R125, R139). -/
def descaleTold (s : State) : State :=
  broadcast (.descaleDone (s.proc.solutionVolume.getD 0) (s.proc.rinseNumber.getD 0)) (zeroScale (descaleFinished s))

theorem descaleComplete_eq (s : State) :
    descaleComplete s = giveBack (enterIdle .descale (.complete .descale) (descaleTold s)) := by
  have proc := enterPhase_proc .done (modProc (fun r => { r with rinseOwed := false }) s)
  rw [descaleComplete, descaleTold, descaleFinished, proc]
  rfl

theorem zeroScale_scale (s : State) :
    (zeroScale s).scale
      = { s.scale with points := 0, carry := 0, warn := false, lock := false, savedPoints := some 0 } :=
  saveScale_scale (modScale (fun a => { a with points := 0, carry := 0, warn := false, lock := false }) s)

/-- A descale complete zeroes the account and gives the generator back (R125, R139). -/
theorem descaleComplete_given (dry : s.gen.levelLowWet = false) (unwanted : anyPresent s = false) :
    (descaleComplete s).proc = completedProc .descale s.proc
      ∧ (descaleComplete s).scale
        = { s.scale with points := 0, carry := 0, warn := false, lock := false, savedPoints := some 0 }
      ∧ (descaleComplete s).gen.state = .empty ∧ drainPump (descaleComplete s) = false
      ∧ ∀ p, Posted (.descaleDone (s.proc.solutionVolume.getD 0) (s.proc.rinseNumber.getD 0)) p (descaleComplete s) := by
  have entry : Within .phase s (descaleFinished s) :=
    ((within_modProc _ rfl).mpr (.refl _ s)).trans (enterPhase_phase .done _)
  have zero := zeroScale_within (descaleFinished s)
  have told : Within { Parts.phase with scale := true } s (descaleTold s) :=
    (within_broadcast _ rfl).mpr ((entry.mono rfl).trans (zero.mono rfl))
  have idle := enterIdle_within .descale (.complete .descale) (descaleTold s)
  generalize ended : enterIdle .descale (.complete .descale) (descaleTold s) = u at idle
  have proc : u.proc = completedProc .descale s.proc := by
    rw [← ended, enterIdle_proc, descaleTold, broadcast_proc, zero.proc_eq rfl, descaleFinished, enterPhase_proc]
    rfl
  have scale : u.scale
      = { s.scale with points := 0, carry := 0, warn := false, lock := false, savedPoints := some 0 } := by
    rw [idle.scale_eq rfl, descaleTold, broadcast_scale, zeroScale_scale, entry.scale_eq rfl]
  have gen : u.gen = s.gen := (idle.gen_eq rfl).trans (told.gen_eq rfl)
  have given : GivenBack u (descaleComplete s) := by
    rw [descaleComplete_eq, ended]
    exact giveBack_empties (by rw [proc]; rfl) (by rwa [gen]) (.inl (by rwa [anyPresent, gen]))
  refine ⟨given.proc.trans proc, given.scale.trans scale, given.state, given.drainPump_eq, fun p => ?_⟩
  have posted : Posted (.descaleDone (s.proc.solutionVolume.getD 0) (s.proc.rinseNumber.getD 0)) p (descaleTold s) :=
    posted_broadcast _ p _
  have kept : CodeKept 14 (descaleTold s) u := ended ▸ (CodeKept.refl 14 (descaleTold s)).then_enterIdle (by decide)
  exact (posted.of_codeKept kept).of_codeKept (given.codes 14 (by decide))

/-! ## Slow heating (R101, R123) -/

theorem heatSlow_of_idle (h : s.gen.state ≠ .heating ∨ s.arbiter.genHeat ≠ .granted ∨ s.gen.slowPosted = true) :
    heatSlow s = s := by
  refine if_neg ?_
  rintro ⟨heating, granted, unposted⟩
  rcases h with other | out | posted
  · exact other heating
  · exact out granted
  · exact absurd (posted.symm.trans unposted) (by decide)

/-- The account stopped and HEAT_SLOW posted, before the points are looked at. -/
def slowPosted (s : State) : State :=
  broadcast (.heatSlow 300 (genReading s)) (modGen (fun g => { g with heatAccount := some 3000, slowPosted := true }) s)

theorem slowPosted_within (s : State) : Within { gen := true, attention := true } s (slowPosted s) :=
  (within_broadcast _ rfl).mpr ((within_modGen _ rfl).mpr (.refl _ s))

theorem heatSlow_of_heating (heating : s.gen.state = .heating) (granted : s.arbiter.genHeat = .granted)
    (unposted : s.gen.slowPosted = false) : heatSlow s = slowReport (slowPosted s) :=
  if_pos ⟨heating, granted, unposted⟩

/-- A slow report raises the points below SCALE_WARN to it (R123). -/
theorem slowReport_scale (s : State) :
    (slowReport s).scale.points = max s.scale.points s.settings.scaleWarn ∧ (slowReport s).scale.carry = s.scale.carry
      ∧ (s.scale.points < s.settings.scaleWarn → (slowReport s).scale.warn = true) := by
  unfold slowReport
  split
  · next below =>
    have set := setPoints_set s.settings.scaleWarn s.scale.carry .heatSlow s
    rw [set.scale]
    exact ⟨(Nat.max_eq_right (Nat.le_of_lt below)).symm, rfl, fun _ => by simp⟩
  · next reached =>
    exact ⟨(Nat.max_eq_left (Nat.not_lt.mp reached)).symm, rfl, fun below => absurd below reached⟩

end

end Sys2Proof.Machine
end

section
/-! SUPPORT. The ends of the drains, state by state, and slow heating (R101, R106, R107, R123, R132, R135, R137, R139). -/

namespace Sys2Proof.Machine

section
variable {s t : State} {k : ProcKind} {n : Nat}

/-- The end of a drain to EMPTY with a steam fill wanted (R95, R107): the fill starts from EMPTY. -/
theorem drainComplete_fills (state : s.gen.state = .draining) (dry : s.gen.levelLowWet = false)
    (supplied : s.mains.low = false) (after : s.gen.afterDrain = some .empty) (wanted : anyPresent s = true)
    (unlocked : s.scale.lock = false) : drainComplete s = startSteamFill (enterGen .empty id s) := by
  rw [drainComplete_of_dry (drainRunning_of_draining state) dry supplied, after]
  exact enterEmpty_fills wanted unlocked

theorem drainPump_of_state {g : GenState} (state : t.gen.state = g) (other : g ∉ [.draining, .descale]) :
    drainPump t = false := by
  rw [List.mem_cons, List.mem_singleton, not_or] at other
  obtain ⟨draining, descale⟩ := other
  exact drainPump_of_not_running (drainRunning_of_other (state ▸ draining) (state ▸ descale))

theorem anyDemand_of_present (h : anyPresent s = true) : anyDemand s = true := by
  rw [anyPresent, Bool.or_eq_true, decide_eq_true_iff, decide_eq_true_iff] at h
  rw [anyDemand, Bool.or_eq_true]
  rcases h with a | b
  · exact .inl (decide_eq_true (by rw [show (s.gen.demand.get .A).status = .present from a]; decide))
  · exact .inr (decide_eq_true (by rw [show (s.gen.demand.get .B).status = .present from b]; decide))

/-- The generator at the entry to EMPTY. -/
theorem emptied_gen (s : State) : (enterGen .empty id s).gen = genFields .empty s.gen := enterGen_gen _ _ s

theorem emptied_settings (s : State) : (enterGen .empty id s).settings = s.settings :=
  (enterGen_entry .empty id s).settings_eq rfl

/-- The drains of a procedure under way, where the generator keeps to DESCALE. -/
theorem drainComplete_of_descale (descale : s.gen.state = .descale) (report : s.gen.afterDrain = some .report)
    (dry : s.gen.levelLowWet = false) (supplied : s.mains.low = false) : drainComplete s = descaleDrainDone s := by
  have running : drainRunning s = true := by rw [drainRunning_of_descale descale, report]; rfl
  rw [drainComplete_of_dry running dry supplied, report]

/-- The waiting phase after a drain. -/
theorem WaitingEntered.drained {x : ProcPhase} {u : State} (h : WaitingEntered x u t)
    (gen : u.gen = (drainReported s).gen) (kind : u.proc.kind = some k) (scale : u.scale = s.scale) : Drained k s t :=
  ⟨⟨s.gen.fill, h.gen.trans gen⟩, by rw [h.proc]; exact kind, h.scale.trans scale⟩

theorem enterRinse_of_tank (source : s.proc.rinseSource = some .tank) : enterRinse s = enterWaiting .waitRinse s := by
  rw [enterRinse, source]

theorem enterRinse_of_plumbed (source : s.proc.rinseSource = some .plumbed) :
    enterRinse s = enterFill .rinseFill .plumbed .rinse s := by
  rw [enterRinse, source]

/-- A drain of the procedure that fails is a fault that aborts it (R107, R137). -/
theorem drainFail_of_descale (descale : s.gen.state = .descale) (report : s.gen.afterDrain = some .report)
    (wet : s.gen.levelLowWet = true) (supplied : s.mains.low = false) :
    drainFail s = genFault .drainFail s :=
  drainFail_of_wet (by rw [drainRunning_of_descale descale, report]; rfl) wet supplied

end

/-- Settles O47: the generator's own drains, the procedure's, and slow heating. -/
theorem drainsEndAndSlowHeatingIsReported : Obligations.DrainsEndAndSlowHeatingIsReported := by
  unfold Obligations.DrainsEndAndSlowHeatingIsReported
  refine ⟨fun s held => ?own, fun s k held supplied descale report kind => ?procedure, fun s held => ?slow⟩
  case own =>
    have completes := event_of_not_held drainComplete held
    have fails := event_of_not_held drainFail held
    refine ⟨fun other => (event_of_not_held windowEnd held).trans (by rw [windowEnd_of_other other]),
      fun busy => (event_of_not_held idleDrain held).trans (by rw [idleDrain_of_busy busy]),
      fun ready unwanted => ?idle, fun idle => completes.trans (by rw [drainComplete_of_idle idle]),
      fun state dry supplied => ?ends, fun idle => fails.trans (by rw [drainFail_of_idle idle]),
      fun state wet supplied => ?fails⟩
    case idle =>
      have begun := startDrain_begun .empty s
      exact ⟨_, (event_of_not_held idleDrain held).trans (congrArg _ (if_pos ⟨ready, unwanted⟩)), begun.state,
        begun.afterDrain, by rw [begun.gen], by rw [begun.gen], begun.holds, begun.drainPump_eq held, begun.within⟩
    case fails =>
      have acts : drainFail s = genFaultCore .drainFail s := by
        rw [drainFail_of_wet (drainRunning_of_draining state) wet supplied, genFault_of_steam]
        all_goals rw [state]; decide
      have gen := genFaultCore_gen .drainFail s
      have fault : (genFaultCore .drainFail s).gen.state = .fault := by rw [gen]; rfl
      exact ⟨_, fails.trans (by rw [acts]), fault, by rw [gen], by rw [gen, state],
        drainPump_of_state fault (by decide), genFaultCore_within _ s⟩
    case ends =>
      have emptied := emptied_gen s
      have empty := enterGen_within .empty id s
      refine ⟨fun after => ?owed, fun after rests => ?empty, fun after wanted unlocked low supply => ?fills,
        fun after wanted unlocked full => ?full, fun after wanted unlocked low source absent => ?waits⟩
      case owed =>
        have acts : drainComplete s = enterGen .rinseOwed id s := by
          rw [drainComplete_of_dry (drainRunning_of_draining state) dry supplied, after]
        have gen := enterGen_gen .rinseOwed id s
        have owed : (enterGen .rinseOwed id s).gen.state = .rinseOwed := by rw [gen]; rfl
        exact ⟨_, completes.trans (by rw [acts]), owed, drainPump_of_state owed (by decide), by rw [gen]; rfl,
          enterGen_within _ _ s⟩
      case empty =>
        have acts : drainComplete s = enterGen .empty id s := by
          rw [drainComplete_of_dry (drainRunning_of_draining state) dry supplied, after]
          exact enterEmpty_rests rests
        have is : (enterGen .empty id s).gen.state = .empty := by rw [emptied]; rfl
        exact ⟨_, completes.trans (by rw [acts]), is, drainPump_of_state is (by decide), by rw [emptied]; rfl, empty⟩
      all_goals rw [drainComplete_fills state dry supplied after wanted unlocked] at completes
      all_goals
        have settings := emptied_settings s
        have gen := steamFillBegun_gen (enterGen .empty id s)
        have meter := steamFillBegun_meter (enterGen .empty id s)
        rw [freshFill, settings, emptied] at gen
        rw [freshCount, settings] at meter
      case fills =>
        have runs := startSteamFill_runs (s := enterGen .empty id s) (by rw [emptied]; exact low)
          (by rwa [settings, enterGen_tankPresent])
        rw [runs] at completes
        have state : (steamFillBegun (enterGen .empty id s)).gen.state = .filling := by rw [gen]; rfl
        exact ⟨_, completes, state, drainPump_of_state state (by decide), by rw [gen], by rw [meter]; rfl,
          empty.trans (steamFillBegun_within _)⟩
      case full =>
        have filled := startSteamFill_full (s := enterGen .empty id s) (by rw [emptied]; exact full)
        refine ⟨_, completes, filled.state, drainPump_of_state filled.state (by decide), filled.fill,
          filled.record.fill, ?_, filled.holds, empty.trans (startSteamFill_within _)⟩
        rw [filled.record.latest, filledVolume_of_no_pulses rfl, freshCount, settings]
      case waits =>
        have waits := startSteamFill_waits (s := enterGen .empty id s) (by rw [emptied]; exact low)
          (by rwa [settings]) (by rwa [enterGen_tankPresent])
          ((anyDemand_of_demand (by rw [emptied]; rfl)).trans (anyDemand_of_present wanted))
        obtain ⟨e, entry, code, -⟩ := waits.raised
        refine ⟨_, completes, waits.state, drainPump_of_state waits.state (by decide),
          tankPump_of_not_running (fillRunning_of_waterWait waits.state), ?_, ?_,
          (congrArg _ entry).trans (congrArg some code), empty.trans (startSteamFill_within _)⟩
        · rw [waits.fill, gen, source]; rfl
        · rw [waits.meter, meter]; rfl
  case procedure =>
    have completes := event_of_not_held drainComplete held
    intro dry drained held' asks rinses given
    have within : Within .descale s (drainComplete s) := drainComplete_within s
    have keeps {t : State} (ends : Drained k s t) : held' t := by
      obtain ⟨after, time, dryTime⟩ := ends.fields
      exact ⟨ends.state descale, after, time, dryTime, ends.drainPump_eq descale, ends.kind, ends.scale⟩
    have gives {t : State} (proc : t.proc = completedProc k (drainReported s).proc) (state : t.gen.state = .empty)
        (pump : drainPump t = false) : given t :=
      ⟨by rw [proc]; rfl, by rw [proc]; rfl, by rw [proc]; rfl, by rw [proc]; rfl, by rw [proc]; rfl, pump, state⟩
    have rinse (low : s.gen.levelLowWet = false) (n : Nat) (acts : descaleDrainDone s = enterRinse (rinseCounted n s)) :
        rinses n := by
      rw [drainComplete_of_descale descale report low supplied, acts] at completes within
      refine ⟨fun tank => ?_, fun piped high => ?_, fun piped high => ?_⟩
      · rw [enterRinse_of_tank (s := rinseCounted n s) tank] at completes within
        have entered := enterWaiting_entered .waitRinse (rinseCounted n s)
        exact ⟨_, ⟨completes, within⟩, keeps (entered.drained rfl kind rfl), entered.asks, by rw [entered.proc],
          by rw [entered.proc]; rfl⟩
      · rw [enterRinse_of_plumbed (s := rinseCounted n s) piped, enterFill_runs (s := rinseCounted n s) high (.inl rfl)]
          at completes within
        have entered := fillEntered_entered .rinseFill .plumbed .rinse (rinseCounted n s)
        have ends : Drained k s (fillEntered .rinseFill .plumbed .rinse (rinseCounted n s)) :=
          ⟨⟨_, entered.gen⟩, by rw [entered.proc]; exact kind, entered.scale⟩
        have pours := inletValve_of_plumbed ((within.resetHeld_eq rfl).trans held) (.inr (ends.state descale))
          (by rw [entered.gen]) rfl
        exact ⟨_, ⟨completes, within⟩, keeps ends, by rw [entered.proc], by rw [entered.proc]; rfl, pours,
          by rw [entered.gen], by rw [entered.count]; rfl⟩
      · rw [enterRinse_of_plumbed (s := rinseCounted n s) piped] at completes within
        obtain ⟨filled, number⟩ := filledAtOnce_rinse (s := rinseCounted n s) (src := .plumbed) held descale high
        exact ⟨_, ⟨completes, within⟩, filled, number⟩
    refine ⟨fun low phase => ?prep, fun low phase => ?first, fun n low phase number => ⟨fun more => ?next,
      fun last is rests => ?rinsed, fun last is unwanted => ?descaled⟩, fun wet phase => ?fails⟩
    case fails =>
      have failWithin : Within .descale s (drainFail s) := drainFail_within s
      have aborted := genFault_aborted .drainFail descale kind
      rw [← drainFail_of_descale descale report wet supplied] at aborted
      obtain ⟨⟨proc, prompt, posted⟩, gen, -⟩ := aborted
      have fault : (drainFail s).gen.state = .fault := by rw [gen]; rfl
      refine ⟨_, event_of_not_held drainFail held, fault, by rw [gen], by rw [gen, descale], by rw [gen]; rfl,
        drainPump_of_state fault (by decide), ?_, ?_, ?_, ?_, prompt, posted, failWithin⟩
      all_goals rw [proc]
      exact owedAfterAbort_eq kind phase
    all_goals rw [drainComplete_of_descale descale report low supplied] at completes within
    case prep =>
      rw [descaleDrainDone_of_prep phase] at completes within
      have entered := enterWaiting_entered .waitSolution (drainReported s)
      exact ⟨_, ⟨completes, within⟩, keeps (entered.drained rfl kind rfl), entered.asks, by rw [entered.proc],
        by rw [entered.proc]; rfl⟩
    case first => exact rinse low 1 (descaleDrainDone_of_solution phase)
    case next => exact rinse low (n + 1) ((descaleDrainDone_of_rinse phase number).trans (if_pos more))
    all_goals
      rw [descaleDrainDone_of_rinse phase number, if_neg (Nat.not_lt.mpr last), kind, is] at completes within
      subst is
    case rinsed =>
      obtain ⟨proc, scale, state, pump⟩ := rinseComplete_given (s := drainReported s) low rests
      exact ⟨_, ⟨completes, within⟩, gives proc state pump, scale⟩
    case descaled =>
      obtain ⟨proc, scale, state, pump, posted⟩ := descaleComplete_given (s := drainReported s) low unwanted
      have done : ∀ p, Posted (.descaleDone (s.proc.solutionVolume.getD 0) (s.proc.rinseNumber.getD 0)) p
        (descaleComplete (drainReported s)) := posted
      rw [number] at done
      refine ⟨_, ⟨completes, within⟩, gives proc state pump, ?_, ?_, ?_, ?_, ?_, done⟩
      all_goals rw [scale]
  case slow =>
    have slows := event_of_not_held heatSlow held
    refine ⟨fun idle => slows.trans (by rw [heatSlow_of_idle idle]), fun heating granted unposted => ?_⟩
    have posted := slowPosted_within s
    have report := slowReport_within (slowPosted s)
    obtain ⟨points, carry, warn⟩ := slowReport_scale (slowPosted s)
    rw [heatSlow_of_heating heating granted unposted] at slows
    exact ⟨_, slows, report.gen_eq rfl, points, carry, warn, (posted.mono rfl).trans (report.mono rfl)⟩

end Sys2Proof.Machine
end

section
/-! SUPPORT. A stalled fill and the tank (R98, R99, R109, R132, R133, R157, R167). -/

namespace Sys2Proof.Machine

section
variable {s t u : State} {f : Fill} {e : Prompt} {o : Owner} {x : ProcPhase} {k : ProcKind} {src : WaterSource}

/-! ## A stall (R98) -/

theorem watchdogStall_of_idle (h : fillRunning s = false ∨ s.mains.low = true) : watchdogStall s = s := by
  refine if_neg ?_
  rintro ⟨running, supplied⟩
  rcases h with idle | low
  · exact absurd (idle.symm.trans running) (by decide)
  · exact absurd (low.symm.trans supplied) (by decide)

theorem fillRunning_of_fill (state : s.gen.state = .filling ∨ s.gen.state = .descale) (filling : s.gen.fill = some f) :
    fillRunning s = true := fillRunning_iff.mpr ⟨state, by rw [filling]; rfl⟩

theorem watchdogStall_of_fill (state : s.gen.state = .filling ∨ s.gen.state = .descale) (filling : s.gen.fill = some f)
    (supplied : s.mains.low = false) : watchdogStall s = fillStall s :=
  if_pos ⟨fillRunning_of_fill state filling, supplied⟩

theorem fillStall_of_descale (descale : s.gen.state = .descale) : fillStall s = descaleStall s := if_pos descale

theorem fillStall_of_filling (state : s.gen.state = .filling) (filling : s.gen.fill = some f) :
    fillStall s = if f.source = .plumbed then genFault .noWater s else enterWaterWait s := by
  have steam : s.gen.state ≠ .descale := by rw [state]; decide
  rw [fillStall, if_neg steam, filling]

theorem fillStall_of_tank (state : s.gen.state = .filling) (filling : s.gen.fill = some f) (source : f.source = .tank) :
    fillStall s = enterWaterWait s := by
  rw [fillStall_of_filling state filling, source]
  exact if_neg (by decide)

/-- A stalled steam fill from the supply is a fault (R109). -/
theorem fillStall_of_plumbed (state : s.gen.state = .filling) (filling : s.gen.fill = some f)
    (source : f.source = .plumbed) : fillStall s = genFaultCore .noWater s := by
  rw [fillStall_of_filling state filling, if_pos source, genFault_of_steam]
  all_goals rw [state]; decide

/-- A stalled fill of the rinse from the supply aborts the procedure, a rinse owed, and the vessel is drained (R133,
R136). -/
theorem rinseStall_aborts (phase : s.proc.phase = .rinseFill) (kind : s.proc.kind = some k)
    (filling : s.gen.fill = some f) (source : f.source = .plumbed) :
    Aborted .noWater k s.proc (abortCore .noWater (descaleEnded s))
      ∧ DrainBegun .rinseOwed (abortCore .noWater (descaleEnded s)) (descaleStall s)
      ∧ (descaleStall s).proc = (abortCore .noWater (descaleEnded s)).proc ∧ owedAfterAbort s.proc = true := by
  have other : s.proc.phase ≠ .fillSolution := by rw [phase]; decide
  have stall : descaleStall s = giveBack (abortCore .noWater (descaleEnded s)) := by
    rw [descaleStall_of_rinse other filling, source]
    rfl
  have aborted := abortCore_aborted .noWater (s := descaleEnded s) kind
  have empty : (abortCore .noWater (descaleEnded s)).gen.fill = none := by
    rw [(abortCore_frame .noWater (descaleEnded s)).gen_eq rfl]
    rfl
  have late : s.proc.phase ∉ [.prepDrain, .waitSolution] := by rw [phase]; decide
  have owed : owedAfterAbort s.proc = true :=
    (owedAfterAbort_eq kind (by rw [phase]; decide)).trans (if_pos (.inr late))
  have begun := giveBack_of_owed (s := abortCore .noWater (descaleEnded s)) (by rw [aborted.proc]; exact owed)
  rw [show abandonFill (abortCore .noWater (descaleEnded s)) = abortCore .noWater (descaleEnded s) from
    if_neg (by rw [empty]; decide)] at begun
  rw [stall]
  exact ⟨aborted, begun, (giveBack_within _).proc_eq rfl, owed⟩

/-! ## The tank at the prompt table (R157) -/

/-- An entry marked as having seen the tank removed. -/
def markTank (e : Prompt) : Prompt := { e with tankRemoved := true }

/-- A removal of an entry leaves the other owners' entries -/
theorem removePrompt_prompts_of_ne {j : Owner} (ne : j ≠ o) (r : ClearReason) (s : State) :
    (removePrompt o r s).prompts.get j = s.prompts.get j := by
  unfold removePrompt
  split
  · exact PerOwner.get_set_of_ne _ _ ne
  · rfl

theorem tankMark_of_none (h : s.prompts.get o = none) : tankMark o s = s := by
  rw [tankMark, h]

theorem tankMark_of_ack (h : ∀ e, s.prompts.get o = some e → tankAck e = true) :
    tankMark o s = setPrompt o ((s.prompts.get o).map markTank) s := by
  unfold tankMark
  split
  · next e entry =>
    rw [if_pos (h e entry), entry]
    rfl
  · next none =>
    rw [none, setPrompt]
    exact congrArg (fun p => { s with prompts := p }) (none ▸ (PerOwner.set_get s.prompts o).symm)

/-- A mark that stands already changes nothing. -/
theorem tankMark_of_marked (entry : s.prompts.get o = some e) (marked : e.tankRemoved = true) : tankMark o s = s := by
  have same : { e with tankRemoved := true } = e := by rw [← marked]
  have kept : setPrompt o (some e) s = s := by
    rw [setPrompt, ← entry, PerOwner.set_get]
  rw [tankMark, entry]
  dsimp only
  rw [same, kept]
  exact ite_self s

theorem tankAck_of_code (low : 240 ≤ e.code) (high : e.code ≤ 242) : tankAck e = true := decide_eq_true ⟨low, high⟩

theorem tankAnswer_of_none (h : s.prompts.get o = none) : tankAnswer o s = s := by
  rw [tankAnswer, h]

theorem tankAnswer_of_marked (entry : s.prompts.get o = some e) (ack : tankAck e = true)
    (marked : e.tankRemoved = true) :
    tankAnswer o s = reportAnswer o e (removePrompt o .tank s) := by
  rw [tankAnswer, entry]
  dsimp only
  rw [if_pos ⟨ack, marked⟩, answerPrompt, entry]

/-! ## Removal and insertion (R167) -/

/-- The tank's state changed, before the generator and the prompt table are told. -/
def withTank (present : Bool) (s : State) : State := { s with tankPresent := present }

theorem withTank_within (present : Bool) (s : State) : Within { tankPresent := true } s (withTank present s) :=
  (within_set_tankPresent _ rfl).mpr (.refl _ s)

theorem tankRemoval_of_present (present : s.tankPresent = true) :
    tankRemoval s = tankMark .descaler (tankMark .generator (tankRemovedAtGen (withTank false s))) := if_pos present

theorem tankRemovedAtGen_of_tank (state : s.gen.state = .filling ∨ s.gen.state = .descale)
    (filling : s.gen.fill = some f) (source : f.source = .tank) : tankRemovedAtGen s = fillStall s := by
  refine if_pos ⟨fillRunning_of_fill state filling, ?_⟩
  rw [filling]
  exact congrArg some source

theorem tankRemovedAtGen_of_other (h : fillRunning s = false ∨ s.gen.fill.map (·.source) ≠ some .tank) :
    tankRemovedAtGen s = s := by
  refine if_neg ?_
  rintro ⟨running, tank⟩
  rcases h with idle | other
  · exact absurd (idle.symm.trans running) (by decide)
  · exact other tank

/-- A removal that stalls a fill, where the entries it leaves are marked or absent. -/
theorem tankRemoval_stalls (present : s.tankPresent = true) (state : s.gen.state = .filling ∨ s.gen.state = .descale)
    (filling : s.gen.fill = some f) (source : f.source = .tank)
    (marked : ∀ o e, o = .generator ∨ o = .descaler → (fillStall (withTank false s)).prompts.get o = some e →
      e.tankRemoved = true) : tankRemoval s = fillStall (withTank false s) := by
  have marks (o : Owner) (h : o = .generator ∨ o = .descaler) :
      tankMark o (fillStall (withTank false s)) = fillStall (withTank false s) := by
    cases entry : (fillStall (withTank false s)).prompts.get o with
    | none => exact tankMark_of_none entry
    | some e => exact tankMark_of_marked entry (marked o e h entry)
  rw [tankRemoval_of_present present, tankRemovedAtGen_of_tank (s := withTank false s) state filling source,
    marks .generator (.inl rfl), marks .descaler (.inr rfl)]

/-- A drain given up from WATER_WAIT had a fill to end. -/
theorem waterWaiting_fill (filling : s.gen.fill = some f) : (waterWaiting s).gen.fill ≠ none := by
  rw [(waterWaiting_waits s).fill, filling]
  exact Option.some_ne_none _

/-- REFILL_TANK is marked where the tank is absent at its raising (R155). -/
theorem enterWaterWait_marked (absent : s.tankPresent = false) (filling : s.gen.fill = some f)
    (entry : (enterWaterWait s).prompts.get .generator = some e) : e.tankRemoved = true := by
  cases demand : anyDemand s with
  | true =>
    obtain ⟨e', entry', -, mark⟩ := (enterWaterWait_waits demand).raised
    obtain rfl := Option.some.inj (entry'.symm.trans entry)
    rw [mark, absent]
    rfl
  | false =>
    have cleared := (enterWaterWait_givenUp demand).prompt (waterWaiting_fill filling)
    exact absurd (cleared.symm.trans entry) nofun

/-- A removal stalls a steam fill from the tank (R98). -/
theorem tankRemoval_stallsSteam (present : s.tankPresent = true) (state : s.gen.state = .filling)
    (filling : s.gen.fill = some f) (source : f.source = .tank) (descaler : s.prompts.descaler = none) :
    tankRemoval s = enterWaterWait (withTank false s) := by
  have stall := fillStall_of_tank (s := withTank false s) state filling source
  have work : SteamWork (withTank false s) (enterWaterWait (withTank false s)) := (SteamWork.refl _).then_enterWaterWait
  have clear : (enterWaterWait (withTank false s)).prompts.get .descaler = none :=
    (work.prompts .descaler (by decide)).trans descaler
  rw [tankRemoval_stalls present (.inl state) filling source, stall]
  rw [stall]
  intro o e owner entry
  rcases owner with rfl | rfl
  · exact enterWaterWait_marked (s := withTank false s) rfl filling entry
  · exact absurd (clear.symm.trans entry) nofun

/-- A removal stalls a fill from the tank in DESCALE, whose phase asks for water (R98, R133). -/
theorem tankRemoval_stallsDescale (present : s.tankPresent = true) (descale : s.gen.state = .descale)
    (filling : s.gen.fill = some f) (source : f.source = .tank) (generator : s.prompts.generator = none)
    (stall : descaleStall (withTank false s) = enterWaiting x (descaleEnded (withTank false s))) :
    tankRemoval s = enterWaiting x (descaleEnded (withTank false s)) := by
  have stalls := (fillStall_of_descale (s := withTank false s) descale).trans stall
  have entered := enterWaiting_entered x (descaleEnded (withTank false s))
  have clear := (entered.others .generator (by decide)).trans generator
  rw [tankRemoval_stalls present (.inr descale) filling source, stalls]
  rw [stalls]
  intro o e owner entry
  rcases owner with rfl | rfl
  · exact absurd (clear.symm.trans entry) nofun
  · obtain ⟨e', entry', -, mark⟩ := entered.raised
    obtain rfl := Option.some.inj (entry'.symm.trans entry)
    exact mark

theorem tankInsertion_of_absent (absent : s.tankPresent = false) :
    tankInsertion s = tankAnswer .descaler (tankAnswer .generator (withTank true s)) :=
  if_neg (Bool.eq_false_iff.mp absent)

/-- REFILL_TANK answered with the tank in place: the fill runs again (R99). -/
theorem refillAnswered_of_present (state : s.gen.state = .waterWait) (present : s.tankPresent = true) :
    refillAnswered s = enterGen .filling (fun g => { g with fill := g.fill.map (fun f => { f with watchdog := 0 }) }) s := by
  refine (if_pos state).trans (if_neg ?_)
  rintro ⟨-, absent⟩
  rw [enterGen_tankPresent, present] at absent
  exact absurd absent (by decide)

theorem descaleAnswered_of_solution (phase : s.proc.phase = .waitSolution) :
    descaleAnswered s = enterFill .fillSolution .tank .descaleSolution s := by
  rw [descaleAnswered, phase]

theorem descaleAnswered_of_rinse (phase : s.proc.phase = .waitRinse) (source : s.proc.rinseSource = some src) :
    descaleAnswered s = enterFill .rinseFill src .rinse s := by
  rw [descaleAnswered, phase, source]
  rfl

end

end Sys2Proof.Machine
end

section
/-! SUPPORT. What a stall and the tank leave, event by event, and the statement on them (R98, R99, R133, R157, R167). A
state `u` is the one a stall is found in: the watchdog's own, or that with the tank just removed. -/

namespace Sys2Proof.Machine

section
variable {s t u : State} {f : Fill} {e : Prompt} {x : ProcPhase} {k : ProcKind} {src : WaterSource}

/-! ## What a stall leaves (R98, R99, R133) -/

/-- The steam fill `f` of `s` waits for water. -/
def SteamWaits (f : Fill) (s t : State) : Prop :=
  t.gen.state = .waterWait ∧ t.gen.fill = some { f with watchdog := 0 } ∧ t.meter = s.meter
    ∧ t.prompts.generator.map (·.code) = some 240 ∧ t.gen.waitPrompt = t.prompts.generator.map (·.id)
    ∧ tankPump t = false

/-- The steam fill of `s` is given up into a drain. -/
def SteamGivenUp (s t : State) : Prop :=
  t.gen.state = .draining ∧ t.gen.afterDrain = some .empty ∧ t.gen.fill = none ∧ t.gen.waitPrompt = none
    ∧ t.meter = { s.meter with fill := none } ∧ t.prompts.generator = none ∧ tankPump t = false ∧ drainPump t = true

/-- The fill of `s` has ended incomplete. -/
def FillEnded (s t : State) : Prop :=
  t.gen.fill = none ∧ t.meter = { s.meter with fill := none } ∧ tankPump t = false ∧ inletValve t = false

/-- The fill of `s` has ended, and a waiting phase asks with a prompt. -/
def AsksIn (x : ProcPhase) (code : Nat) (s t : State) : Prop :=
  FillEnded s t ∧ t.gen.state = .descale ∧ t.proc.phase = x ∧ t.proc.rinseNumber = s.proc.rinseNumber
    ∧ t.prompts.descaler.map (·.code) = some code ∧ t.proc.promptId = t.prompts.descaler.map (·.id)
    ∧ t.proc.savedPhase = some x

theorem WaterWaits.steamWaits (w : WaterWaits u t) (filling : u.gen.fill = some f) : SteamWaits f u t := by
  obtain ⟨e, entry, code, -⟩ := w.raised
  have entry : t.prompts.generator = some e := entry
  refine ⟨w.state, by rw [w.fill, filling]; rfl, w.meter, by rw [entry]; exact congrArg some code, w.prompt, ?_⟩
  exact tankPump_of_not_running (fillRunning_of_waterWait w.state)

theorem DrainBegun.steamGivenUp (d : DrainBegun .empty (waterWaiting u) t) (filling : u.gen.fill = some f)
    (held : u.resetHeld = false) : SteamGivenUp u t := by
  have w := waterWaiting_waits u
  have opened := waterWaiting_fill filling
  exact ⟨d.state, d.afterDrain, d.fill, by rw [d.gen]; rfl, by rw [d.meter opened, w.meter], d.prompt opened,
    d.tankPump_eq, d.drainPump_eq ((w.within.resetHeld_eq rfl).trans held)⟩

theorem fillEnded_of_none (fill : t.gen.fill = none) (meter : t.meter = { s.meter with fill := none }) : FillEnded s t :=
  ⟨fill, meter, tankPump_of_not_running (fillRunning_of_no_fill fill),
    inletValve_of_not_running (fillRunning_of_no_fill fill)⟩

theorem descaleEnded_within (u : State) : Within { gen := true, meter := true } u (descaleEnded u) :=
  (within_meterIncomplete rfl).mpr ((within_modGen _ rfl).mpr (.refl _ u))

theorem WaitingEntered.asksIn (w : WaitingEntered x (descaleEnded u) t) (descale : u.gen.state = .descale) :
    AsksIn x (if x = .waitSolution then 241 else 242) u t := by
  obtain ⟨code, id⟩ := w.asks
  exact ⟨fillEnded_of_none (by rw [w.gen]; rfl) w.meter, by rw [w.gen]; exact descale, by rw [w.proc],
    by rw [w.proc]; rfl, code, id, by rw [w.proc]⟩

/-- A rinse's fill stalled at the supply has ended with the procedure aborted (R133, R136). -/
theorem rinseStall_ends (phase : s.proc.phase = .rinseFill) (kind : s.proc.kind = some k) (filling : s.gen.fill = some f)
    (source : f.source = .plumbed) :
    FillEnded s (descaleStall s) ∧ (descaleStall s).proc.phase = .idle ∧ (descaleStall s).proc.kind = none
      ∧ (descaleStall s).proc.rinseOwed = true
      ∧ (descaleStall s).proc.lastOutcome = some (.aborted k .noWater .rinseFill)
      ∧ (descaleStall s).prompts.descaler = none ∧ (descaleStall s).gen.state = .draining
      ∧ (descaleStall s).gen.afterDrain = some .rinseOwed := by
  obtain ⟨⟨aborted, prompt, -⟩, begun, proc, owed⟩ := rinseStall_aborts phase kind filling source
  have frame := abortCore_frame .noWater (descaleEnded s)
  obtain ⟨meter, prompts⟩ := begun.still (by rw [frame.gen_eq rfl]; rfl)
  refine ⟨fillEnded_of_none begun.fill (meter.trans (frame.meter_eq rfl)), ?_, ?_, ?_, ?_, by rw [prompts, prompt],
    begun.state, begun.afterDrain⟩
  all_goals rw [proc, aborted]
  · exact owed
  · rw [← phase]

/-! ## The removal (R167) -/

theorem tankRemoval_steamWaits (present : s.tankPresent = true) (state : s.gen.state = .filling)
    (filling : s.gen.fill = some f) (source : f.source = .tank) (descaler : s.prompts.descaler = none)
    (wanted : anyDemand s = true) :
    SteamWaits f s (tankRemoval s) ∧ (tankRemoval s).prompts.generator.map (·.tankRemoved) = some true := by
  have waits := enterWaterWait_waits (s := withTank false s) wanted
  obtain ⟨e, entry, -, mark⟩ := waits.raised
  have entry : (enterWaterWait (withTank false s)).prompts.generator = some e := entry
  rw [tankRemoval_stallsSteam present state filling source descaler]
  exact ⟨waits.steamWaits filling, by rw [entry]; exact congrArg some mark⟩

theorem tankRemoval_steamGivenUp (held : s.resetHeld = false) (present : s.tankPresent = true)
    (state : s.gen.state = .filling) (filling : s.gen.fill = some f) (source : f.source = .tank)
    (descaler : s.prompts.descaler = none) (unwanted : anyDemand s = false) : SteamGivenUp s (tankRemoval s) := by
  rw [tankRemoval_stallsSteam present state filling source descaler]
  exact (enterWaterWait_givenUp (s := withTank false s) unwanted).steamGivenUp filling held

theorem tankRemoval_steam_within (present : s.tankPresent = true) (state : s.gen.state = .filling)
    (filling : s.gen.fill = some f) (source : f.source = .tank) (descaler : s.prompts.descaler = none) :
    (tankRemoval s).tankPresent = false ∧ Within { Parts.steam with tankPresent := true } s (tankRemoval s) := by
  have w := enterWaterWait_within (withTank false s)
  rw [tankRemoval_stallsSteam present state filling source descaler]
  exact ⟨w.tankPresent_eq rfl, ((withTank_within false s).mono rfl).trans (w.mono rfl)⟩

theorem tankRemoval_asks (present : s.tankPresent = true) (descale : s.gen.state = .descale)
    (filling : s.gen.fill = some f) (source : f.source = .tank) (generator : s.prompts.generator = none)
    (stall : descaleStall (withTank false s) = enterWaiting x (descaleEnded (withTank false s))) :
    (tankRemoval s).tankPresent = false ∧ AsksIn x (if x = .waitSolution then 241 else 242) s (tankRemoval s)
      ∧ (tankRemoval s).prompts.descaler.map (·.tankRemoved) = some true
      ∧ Within { Parts.descale with tankPresent := true } s (tankRemoval s) := by
  have entered := enterWaiting_entered x (descaleEnded (withTank false s))
  have ended := descaleEnded_within (withTank false s)
  obtain ⟨e, entry, -, mark⟩ := entered.raised
  have entry : (enterWaiting x (descaleEnded (withTank false s))).prompts.descaler = some e := entry
  rw [tankRemoval_stallsDescale present descale filling source generator stall]
  exact ⟨entered.within.tankPresent_eq rfl, entered.asksIn descale, by rw [entry]; exact congrArg some mark,
    ((withTank_within false s).mono rfl).trans ((ended.mono rfl).trans (entered.within.mono rfl))⟩

/-- Without a stall the removal marks the standing entries that the tank answers. -/
theorem tankRemoval_marks (present : s.tankPresent = true)
    (still : fillRunning s = false ∨ s.gen.fill.map (·.source) ≠ some .tank)
    (generator : ∀ e, s.prompts.generator = some e → tankAck e = true)
    (descaler : ∀ e, s.prompts.descaler = some e → tankAck e = true) :
    tankRemoval s = { s with
      tankPresent := false
      prompts := { s.prompts with
        generator := s.prompts.generator.map markTank, descaler := s.prompts.descaler.map markTank } } := by
  rw [tankRemoval_of_present present, tankRemovedAtGen_of_other (s := withTank false s) still,
    tankMark_of_ack (o := .generator) (s := withTank false s) generator]
  exact tankMark_of_ack (o := .descaler) (s := setPrompt .generator _ (withTank false s)) descaler

/-! ## The insertion (R157, R167) -/

/-- The insertion answers a marked REFILL_TANK: the fill runs again with its watchdog at 0 (R99). -/
structure Refilled (f : Fill) (s t : State) : Prop where
  tank : t.tankPresent = true
  state : t.gen.state = .filling
  fill : t.gen.fill = some { f with watchdog := 0 }
  prompt : t.prompts.generator = none
  meter : t.meter = s.meter
  within : Within { Parts.steam with tankPresent := true } s t

theorem tankInsertion_refills (absent : s.tankPresent = false) (state : s.gen.state = .waterWait)
    (filling : s.gen.fill = some f) (entry : s.prompts.generator = some e) (code : e.code = 240)
    (marked : e.tankRemoved = true) (descaler : s.prompts.descaler = none) : Refilled f s (tankInsertion s) := by
  have ack : tankAck e = true := tankAck_of_code (by rw [code]) (by rw [code]; decide)
  have removed := removePrompt_within .generator .tank (withTank true s)
  have others := removePrompt_prompts_of_ne (o := .generator) (j := .descaler) (by decide) .tank (withTank true s)
  have cleared := removePrompt_get .generator .tank (withTank true s)
  have answered := tankAnswer_of_marked (o := .generator) (s := withTank true s) entry ack marked
  generalize removePrompt .generator .tank (withTank true s) = u at removed others cleared answered
  have gen : u.gen = s.gen := removed.gen_eq rfl
  have tank : u.tankPresent = true := removed.tankPresent_eq rfl
  have refills : reportAnswer .generator e u = enterGen .filling (fun g =>
      { g with fill := g.fill.map (fun f => { f with watchdog := 0 }) }) u :=
    refillAnswered_of_present (by rw [gen, state]) tank
  rw [refills] at answered
  have inserted : tankInsertion s = enterGen .filling (fun g =>
      { g with fill := g.fill.map (fun f => { f with watchdog := 0 }) }) u := by
    rw [tankInsertion_of_absent absent, answered]
    refine tankAnswer_of_none ?_
    rw [enterGen_prompts, others]
    exact descaler
  rw [inserted]
  refine ⟨enterGen_tankPresent.trans tank, ?_, ?_, ?_, ?_, ?_⟩
  · rw [enterGen_gen]; rfl
  · rw [enterGen_gen, gen]
    exact congrArg (Option.map _) filling
  · rw [enterGen_prompts]; exact cleared
  · exact enterGen_meter.trans (removed.meter_eq rfl)
  · exact ((withTank_within true s).mono rfl).trans ((removed.mono rfl).trans ((enterGen_within _ _ u).mono rfl))

/-- The tank in place and the controller's prompt answered, before the controller is told. -/
def descalerAnswered (s : State) : State := removePrompt .descaler .tank (withTank true s)

theorem descalerAnswered_within (s : State) :
    Within { Parts.table with tankPresent := true } s (descalerAnswered s) :=
  ((withTank_within true s).mono rfl).trans ((removePrompt_within .descaler .tank (withTank true s)).mono rfl)

theorem descalerAnswered_tank (s : State) : (descalerAnswered s).tankPresent = true :=
  (removePrompt_within .descaler .tank (withTank true s)).tankPresent_eq rfl

/-- The insertion answers the controller's marked prompt, and nothing else (R132). -/
theorem tankInsertion_descaler (absent : s.tankPresent = false) (entry : s.prompts.descaler = some e)
    (ack : tankAck e = true) (marked : e.tankRemoved = true) (generator : s.prompts.generator = none) :
    tankInsertion s = descaleAnswered (descalerAnswered s) := by
  rw [tankInsertion_of_absent absent, tankAnswer_of_none (o := .generator) (s := withTank true s) generator,
    tankAnswer_of_marked (o := .descaler) (s := withTank true s) entry ack marked]
  rfl

/-- The controller told of the tank begins its fill (R133). -/
structure Pours (x : ProcPhase) (src : WaterSource) (purpose : Purpose) (t : State) : Prop where
  prompt : t.prompts.descaler = none
  phase : t.proc.phase = x
  promptId : t.proc.promptId = none
  fill : t.gen.fill = some { purpose := purpose, source := src, watchdog := 0 }
  count : t.meter.fill.map (·.pulses) = some 0

/-- However the fill starts, it changes no more than a procedure does. -/
theorem descalerAnswered_fills (x : ProcPhase) (src : WaterSource) (purpose : Purpose) (s : State) :
    (enterFill x src purpose (descalerAnswered s)).tankPresent = true
      ∧ Within { Parts.descale with tankPresent := true } s (enterFill x src purpose (descalerAnswered s)) := by
  have w := enterFill_within x src purpose (descalerAnswered s)
  exact ⟨(w.tankPresent_eq rfl).trans (descalerAnswered_tank s),
    ((descalerAnswered_within s).mono rfl).trans (w.mono rfl)⟩

theorem descalerAnswered_pours (x : ProcPhase) (src : WaterSource) (purpose : Purpose)
    (dry : s.gen.levelHighWet = false) :
    Pours x src purpose (enterFill x src purpose (descalerAnswered s)) := by
  have told := descalerAnswered_within s
  have entered := fillEntered_entered x src purpose (descalerAnswered s)
  rw [enterFill_runs (by rwa [told.gen_eq rfl]) (.inr (descalerAnswered_tank s))]
  refine ⟨?_, by rw [entered.proc], by rw [entered.proc], by rw [entered.gen], by rw [entered.count]; rfl⟩
  rw [entered.prompts]
  exact removePrompt_get .descaler .tank (withTank true s)

end

/-- Settles O45: the watchdog and the removal stall the fill alike; the insertion answers the marked entries. -/
theorem stallsAndTankEventsMoveTheFill : Obligations.StallsAndTankEventsMoveTheFill := by
  unfold Obligations.StallsAndTankEventsMoveTheFill
  refine ⟨fun s f held filling => ?fill, fun s held => ?events⟩
  case fill =>
    have stalls := event_of_not_held watchdogStall held
    have removes := event_of_not_held tankRemoval held
    intro steamWaits steamGivenUp ended asks
    refine ⟨fun state => ?steam, fun descale phase => ?solution, fun descale phase => ?rinse⟩
    case steam =>
      refine ⟨fun source wanted supplied => ?_, fun source unwanted supplied => ?_, fun source supplied => ?_,
        fun source present descaler => ?_⟩
      · have waits := enterWaterWait_waits wanted
        rw [watchdogStall_of_fill (.inl state) filling supplied, fillStall_of_tank state filling source] at stalls
        exact ⟨_, stalls, waits.steamWaits filling, waits.within⟩
      · have begun := enterWaterWait_givenUp unwanted
        rw [watchdogStall_of_fill (.inl state) filling supplied, fillStall_of_tank state filling source] at stalls
        exact ⟨_, stalls, begun.steamGivenUp filling held, enterWaterWait_within s⟩
      · have gen := genFaultCore_gen .noWater s
        have meter := genFaultCore_meter .noWater (by rw [filling]; exact Option.some_ne_none _)
        have fill : (genFaultCore .noWater s).gen.fill = none := by rw [gen]; rfl
        rw [watchdogStall_of_fill (.inl state) filling supplied, fillStall_of_plumbed state filling source] at stalls
        exact ⟨_, stalls, by rw [gen]; rfl, by rw [gen], by rw [gen, state], fill, by rw [meter],
          inletValve_of_not_running (fillRunning_of_no_fill fill), by rw [gen]; rfl, genFaultCore_within _ s⟩
      · obtain ⟨absent, within⟩ := tankRemoval_steam_within present state filling source descaler
        exact ⟨_, removes, absent, tankRemoval_steamWaits present state filling source descaler,
          tankRemoval_steamGivenUp held present state filling source descaler, within⟩
    case solution =>
      refine ⟨fun supplied => ?_, fun source present generator => ⟨_, removes, ?_⟩⟩
      · have entered := enterWaiting_entered .waitSolution (descaleEnded s)
        rw [watchdogStall_of_fill (.inr descale) filling supplied, fillStall_of_descale descale,
          descaleStall_of_solution phase] at stalls
        exact ⟨_, stalls, entered.asksIn descale, ((descaleEnded_within s).mono rfl).trans entered.within⟩
      · exact tankRemoval_asks present descale filling source generator
          (descaleStall_of_solution (s := withTank false s) phase)
    case rinse =>
      have other : s.proc.phase ≠ .fillSolution := by rw [phase]; decide
      refine ⟨fun source supplied => ?_, fun source present generator => ⟨_, removes, ?_⟩,
        fun k source kind supplied => ?_⟩
      · have entered := enterWaiting_entered .waitRinse (descaleEnded s)
        have stall : descaleStall s = enterWaiting .waitRinse (descaleEnded s) := by
          rw [descaleStall_of_rinse other filling, source]
        rw [watchdogStall_of_fill (.inr descale) filling supplied, fillStall_of_descale descale, stall] at stalls
        exact ⟨_, stalls, entered.asksIn descale, ((descaleEnded_within s).mono rfl).trans entered.within⟩
      · refine tankRemoval_asks (x := .waitRinse) present descale filling source generator ?_
        rw [descaleStall_of_rinse (s := withTank false s) other filling, source]
      · obtain ⟨ends, idle, kind', owed, outcome, prompt, state, after⟩ := rinseStall_ends phase kind filling source
        rw [watchdogStall_of_fill (.inr descale) filling supplied, fillStall_of_descale descale] at stalls
        exact ⟨_, stalls, ends, idle, kind', owed, outcome, prompt, state, after, descaleStall_within s⟩
  case events =>
    have inserts := event_of_not_held tankInsertion held
    refine ⟨fun idle => (event_of_not_held watchdogStall held).trans (by rw [watchdogStall_of_idle idle]),
      fun absent => (event_of_not_held tankRemoval held).trans (congrArg _ (if_neg (Bool.eq_false_iff.mp absent))),
      fun present => inserts.trans (congrArg _ (if_pos present)),
      fun present still generator descaler => ?marks, fun absent generator descaler => ?alone,
      fun e f absent state filling entry code marked descaler => ?refills,
      fun e absent descale dry entry marked generator => ?pours,
      fun e absent descale full entry marked generator => ?full⟩
    case marks =>
      refine (event_of_not_held tankRemoval held).trans (congrArg _ (tankRemoval_marks present still ?_ ?_))
      · intro e entry
        exact tankAck_of_code (by rw [generator e entry]) (by rw [generator e entry]; decide)
      · intro e entry
        obtain ⟨low, high⟩ := descaler e entry
        exact tankAck_of_code low high
    case alone =>
      refine inserts.trans (congrArg _ ?_)
      rw [tankInsertion_of_absent absent, tankAnswer_of_none (o := .generator) (s := withTank true s) generator]
      exact tankAnswer_of_none (o := .descaler) (s := withTank true s) descaler
    case refills =>
      have refilled := tankInsertion_refills absent state filling entry code marked descaler
      exact ⟨_, inserts, refilled.tank, refilled.state, refilled.fill, refilled.prompt, refilled.meter, refilled.within⟩
    all_goals
      have told := descalerAnswered_within s
      have acts (code : 240 ≤ e.code ∧ e.code ≤ 242) : tankInsertion s = descaleAnswered (descalerAnswered s) :=
        tankInsertion_descaler absent entry (decide_eq_true code) marked generator
    case pours =>
      intro pours
      refine ⟨fun code phase => ?_, fun src code phase source => ?_⟩
      · have poured := descalerAnswered_pours .fillSolution .tank .descaleSolution dry
        obtain ⟨tank, within⟩ := descalerAnswered_fills .fillSolution .tank .descaleSolution s
        rw [acts (by rw [code]; decide), descaleAnswered_of_solution (by rw [told.proc_eq rfl, phase])] at inserts
        exact ⟨_, inserts, tank, poured.prompt, poured.phase, poured.promptId, poured.fill, poured.count, within⟩
      · have poured := descalerAnswered_pours .rinseFill src .rinse dry
        obtain ⟨tank, within⟩ := descalerAnswered_fills .rinseFill src .rinse s
        rw [acts (by rw [code]; decide), descaleAnswered_of_rinse (by rw [told.proc_eq rfl, phase])
          (by rw [told.proc_eq rfl, source])] at inserts
        exact ⟨_, inserts, tank, poured.prompt, poured.phase, poured.promptId, poured.fill, poured.count, within⟩
    case full =>
      refine ⟨fun code phase => ?_, fun src code phase source => ?_⟩
      · rw [acts (by rw [code]; decide), descaleAnswered_of_solution (by rw [told.proc_eq rfl, phase])] at inserts
        obtain ⟨tank, within⟩ := descalerAnswered_fills .fillSolution .tank .descaleSolution s
        exact ⟨_, inserts, tank, filledAtOnce_solution (by rwa [told.gen_eq rfl]) (by rwa [told.gen_eq rfl]), within⟩
      · rw [acts (by rw [code]; decide), descaleAnswered_of_rinse (by rw [told.proc_eq rfl, phase])
          (by rw [told.proc_eq rfl, source])] at inserts
        obtain ⟨tank, within⟩ := descalerAnswered_fills .rinseFill src .rinse s
        obtain ⟨filled, -⟩ := filledAtOnce_rinse (s := descalerAnswered s) (src := src)
          ((told.resetHeld_eq rfl).trans held) (by rwa [told.gen_eq rfl]) (by rwa [told.gen_eq rfl])
        exact ⟨_, inserts, tank, filled, within⟩

end Sys2Proof.Machine
end

section
/-! SUPPORT. FLOW_PULSE and QUIET_TIME_EXPIRY (R98, R100, R116, R117, R119): the count and the watchdog after a pulse,
the overfill test on the volume it brings, and the fault of an overfill. -/

namespace Sys2Proof.Machine

section
variable {s : State} {m : MeterFill} {gap : Nat}

/-! ## A pulse (R98, R116, R117, R119) -/

/-- The generator after a pulse: the watchdog of a running fill is at 0, but under mains-low (R98). -/
def fedGen (s : State) : Gen :=
  { s.gen with
    fill := if fillRunning s = true ∧ s.mains.low = false
      then s.gen.fill.map (fun f => { f with watchdog := 0 }) else s.gen.fill }

theorem feedWatchdog_eq (s : State) : feedWatchdog s = { s with gen := fedGen s } := by
  unfold feedWatchdog fedGen
  split
  · rfl
  · rfl

/-- A pulse gives a watchdog its 0, but neither opens nor ends a fill. -/
theorem fedGen_fill_ne_none (opened : s.gen.fill ≠ none) : (fedGen s).fill ≠ none := by
  unfold fedGen
  split
  · exact fun ended => opened (Option.map_eq_none_iff.mp ended)
  · exact opened

/-- The open fill after a pulse (R116, R117). -/
def pulsedFill (gap : Nat) (m : MeterFill) : MeterFill :=
  { m with
    pulses := min Config.max16 (m.pulses + 1)
    period := if m.measuring then some (max 1 (min Config.max16 gap)) else none
    quiet := 0
    measuring := true }

/-- The state after a pulse at the meter and the watchdog, before the overfill test. -/
def pulsed (gap : Nat) (s : State) : State := { s with meter := meterPulse gap s.meter, gen := fedGen s }

theorem flowPulse_eq (gap : Nat) (s : State) : flowPulse gap s = overfillTest (pulsed gap s) :=
  congrArg overfillTest (feedWatchdog_eq { s with meter := meterPulse gap s.meter })

theorem meterPulse_of_closed {r : Meter} (closed : r.fill = none) :
    meterPulse gap r = { r with stray := min Config.max16 (r.stray + 1) } := by
  rw [meterPulse, closed]

theorem meterPulse_of_open {r : Meter} (opened : r.fill = some m) :
    meterPulse gap r = { r with fill := some (pulsedFill gap m) } := by
  rw [meterPulse, opened]
  rfl

theorem pulsed_fill (opened : s.meter.fill = some m) : (pulsed gap s).meter.fill = some (pulsedFill gap m) :=
  congrArg (·.fill) (meterPulse_of_open opened)

theorem pulsed_latest (gap : Nat) (s : State) : (pulsed gap s).meter.latest = s.meter.latest := by
  unfold pulsed meterPulse
  split
  · rfl
  · rfl

theorem pulsed_within (gap : Nat) (s : State) : Within { gen := true, meter := true } s (pulsed gap s) := by
  simp [pulsed, Within]

/-! ## The overfill test (R100) -/

/-- The pulses of an open fill give a volume above 1500 ml, with LEVEL_HIGH dry. -/
def Overfull (pulses : Nat) (s : State) : Prop :=
  Config.overfill < pulseVolume s.settings.flowCal pulses ∧ s.gen.levelHighWet = false

theorem overfillTest_of_closed (closed : s.meter.fill = none) : overfillTest s = s := by
  rw [overfillTest, openVolume, closed]
  rfl

theorem overfillTest_of_over (opened : s.meter.fill = some m) (above : Overfull m.pulses s) :
    overfillTest s = genFault .overfill s := by
  rw [overfillTest, openVolume, opened]
  exact if_pos above

theorem overfillTest_of_not_over (opened : s.meter.fill = some m) (bounded : ¬ Overfull m.pulses s) :
    overfillTest s = s := by
  rw [overfillTest, openVolume, opened]
  exact if_neg bounded

/-- A stray pulse reaches the watchdog alone: without an open fill there is no volume to test. -/
theorem flowPulse_of_closed (closed : s.meter.fill = none) :
    flowPulse gap s
      = { s with meter := { s.meter with stray := min Config.max16 (s.meter.stray + 1) }, gen := fedGen s } := by
  have counted := meterPulse_of_closed (gap := gap) closed
  have still : (pulsed gap s).meter.fill = none := (congrArg (·.fill) counted).trans closed
  rw [flowPulse_eq, overfillTest_of_closed still, pulsed, counted]

theorem flowPulse_of_not_over (opened : s.meter.fill = some m) (bounded : ¬ Overfull (pulsedFill gap m).pulses s) :
    flowPulse gap s = { s with meter := { s.meter with fill := some (pulsedFill gap m) }, gen := fedGen s } := by
  rw [flowPulse_eq, overfillTest_of_not_over (pulsed_fill opened) bounded, pulsed, meterPulse_of_open opened]

theorem flowPulse_of_over (opened : s.meter.fill = some m) (above : Overfull (pulsedFill gap m).pulses s) :
    flowPulse gap s = genFault .overfill (pulsed gap s) := by
  rw [flowPulse_eq, overfillTest_of_over (pulsed_fill opened) above]

/-! ## The fault of an overfill (R100, R109, R119, R137) -/

/-- What becomes of the fill of `s`: its count is discarded, and no fill record comes of it (R119). -/
structure CountDiscarded (s t : State) : Prop where
  fill : t.gen.fill = none
  count : s.gen.fill ≠ none → t.meter.fill = none
  latest : t.meter.latest = s.meter.latest

theorem genFaultCore_discards (k : FaultKind) (s : State) : CountDiscarded s (genFaultCore k s) := by
  refine ⟨by rw [genFaultCore_gen]; rfl, fun filling => by rw [genFaultCore_meter k filling], ?_⟩
  by_cases idle : s.gen.fill = none
  · obtain ⟨meter, -⟩ := (abandonFill_abandoned s).still idle
    rw [genFaultCore, broadcast_meter, enterGen_meter, meter]
  · rw [genFaultCore_meter k idle]

/-- A fault discards the count in DESCALE too: the abort leaves the generator and the meter. -/
theorem genFault_discards {k : FaultKind} (working : s.gen.state ≠ .fault) : CountDiscarded s (genFault k s) := by
  have core := genFaultCore_discards k s
  by_cases descale : s.gen.state = .descale
  · have frame := abortCore_frame .fault (genFaultCore k s)
    have gen := frame.gen_eq rfl
    have meter := frame.meter_eq rfl
    rw [genFault_of_descale descale]
    exact ⟨by rw [gen, core.fill], fun filling => by rw [meter, core.count filling], by rw [meter, core.latest]⟩
  · rwa [genFault_of_steam working descale]

/-- An overfill is a fault of the state before the pulse. -/
theorem flowPulse_overfills (opened : s.meter.fill = some m) (above : Overfull (pulsedFill gap m).pulses s)
    (working : s.gen.state ≠ .fault) :
    GenFaulted .overfill s (flowPulse gap s) ∧ CountDiscarded s (flowPulse gap s) := by
  rw [flowPulse_of_over opened above]
  have fault := genFault_faulted (k := .overfill) (s := pulsed gap s) working
  have discarded := genFault_discards (k := .overfill) (s := pulsed gap s) working
  exact ⟨⟨fault.state, fault.kind, fault.left, fault.credit, fault.heater⟩, discarded.fill,
    fun filling => discarded.count (fedGen_fill_ne_none filling), discarded.latest.trans (pulsed_latest gap s)⟩

/-- Outside DESCALE the fault stays on the steam side. -/
theorem flowPulse_overfill_within (opened : s.meter.fill = some m) (above : Overfull (pulsedFill gap m).pulses s)
    (working : s.gen.state ≠ .fault) (steam : s.gen.state ≠ .descale) : Within .steam s (flowPulse gap s) := by
  rw [flowPulse_of_over opened above, genFault_of_steam (s := pulsed gap s) working steam]
  exact ((pulsed_within gap s).mono rfl).trans (genFaultCore_within _ _)

/-- In DESCALE it aborts the procedure. -/
theorem flowPulse_overfill_aborts {k : ProcKind} (opened : s.meter.fill = some m)
    (above : Overfull (pulsedFill gap m).pulses s) (descale : s.gen.state = .descale) (kind : s.proc.kind = some k) :
    Aborted .fault k s.proc (flowPulse gap s) := by
  rw [flowPulse_of_over opened above]
  exact (genFault_aborted (s := pulsed gap s) .overfill descale kind).toAborted

end

/-- Settles O49, by whether the meter has an open fill, the volume is an overfill, and the generator is in DESCALE. -/
theorem flowPulsesAreMetered : Obligations.FlowPulsesAreMetered := by
  unfold Obligations.FlowPulsesAreMetered
  intro gap s held fed
  have pulses := event_of_not_held (flowPulse gap) held
  refine ⟨fun closed => pulses.trans (congrArg _ (flowPulse_of_closed closed)), fun m opened => ?_,
    event_of_not_held quietEnd held⟩
  intro m' overfull faulted
  have faults (above : overfull) (working : s.gen.state ≠ .fault) : faulted (flowPulse gap s) := by
    obtain ⟨fault, discarded⟩ := flowPulse_overfills opened above working
    exact ⟨fault.state, fault.kind, fault.left, discarded.fill, discarded.count, discarded.latest⟩
  refine ⟨fun bounded => pulses.trans (congrArg _ (flowPulse_of_not_over opened bounded)), fun above other => ?steam,
    fun k above descale kind => ?descale⟩
  case steam =>
    rw [List.mem_cons, List.mem_singleton, not_or] at other
    obtain ⟨working, steam⟩ := other
    exact ⟨_, pulses, faults above working, flowPulse_overfill_within opened above working steam⟩
  case descale =>
    have aborted := flowPulse_overfill_aborts opened above descale kind
    exact ⟨_, pulses, faults above (by rw [descale]; decide), by rw [aborted.proc], by rw [aborted.proc],
      by rw [aborted.proc], aborted.prompt, flowPulse_within gap s⟩

end Sys2Proof.Machine
end

section
/-! SUPPORT. START_DESCALE, START_RINSE and ABORT_DESCALE (R111, R130, R131, R136, R138): the checks in order, the generator
taken over and given back. -/

namespace Sys2Proof.Machine

section
variable {s t : State} {k : ProcKind}

/-! ## The generator taken over (R111) -/

/-- What the generator taken over by the descale controller leaves: DESCALE, and no credit. -/
structure TakenOver (s t : State) : Prop where
  gen : t.gen = { genFields .descale s.gen with credit := ⟨0, 0⟩ }
  proc : t.proc = s.proc
  within : Within .steam s t

theorem takeOver_taken (s : State) : TakenOver s (takeOver s) := by
  refine ⟨?_, (takeOver_within s).proc_eq rfl, takeOver_within s⟩
  rw [takeOver, enterGen_gen, (abandonFill_abandoned s).gen]
  rfl

theorem TakenOver.state (h : TakenOver s t) : t.gen.state = .descale := by rw [h.gen]; rfl

theorem TakenOver.levelHighWet (h : TakenOver s t) : t.gen.levelHighWet = s.gen.levelHighWet := by rw [h.gen]; rfl

/-! ## START_DESCALE (R130) -/

/-- The generator taken over for a descale, its own fields set. -/
def descaleTaken (s : State) : State :=
  takeOver (modProc (fun r =>
    { r with
      kind := some .descale, rinseNumber := some 0, rinseSource := some s.settings.waterSource
      solutionVolume := none }) s)

theorem descaleTaken_within (s : State) : Within .descale s (descaleTaken s) :=
  ((within_modProc _ rfl).mpr (.refl _ s)).trans ((takeOver_within _).mono rfl)

theorem startDescale_of_underway (underway : s.proc.phase ≠ .idle) : startDescale s = (s, .state, .none) :=
  if_pos underway

theorem startDescale_of_idle (idle : s.proc.phase = .idle) :
    startDescale s
      = if s.gen.state ∉ [.empty, .ready, .rinseOwed] then (s, .genBusy, .none)
        else if steamInUse s then (s, .steamInUse, .none)
        else (enterDrain .prepDrain (descaleTaken s), .done, .none) := by
  simp only [List.mem_cons, List.not_mem_nil, or_false, not_or]
  exact if_neg (not_not_intro idle)

theorem startDescale_of_free (idle : s.proc.phase = .idle) (free : s.gen.state ∈ [.empty, .ready, .rinseOwed])
    (unused : steamInUse s = false) : startDescale s = (enterDrain .prepDrain (descaleTaken s), .done, .none) := by
  rw [startDescale_of_idle idle, if_neg (not_not_intro free), if_neg (Bool.eq_false_iff.mp unused)]

/-! ## START_RINSE (R131) -/

/-- The generator taken over for a rinse, its own fields set. -/
def rinseTaken (s : State) : State :=
  takeOver (modProc (fun r =>
    { r with kind := some .rinse, rinseNumber := some 1, rinseSource := some s.settings.waterSource }) s)

theorem startRinse_of_underway (underway : s.proc.phase ≠ .idle) : startRinse s = (s, .state, .none) := if_pos underway

theorem startRinse_of_idle (idle : s.proc.phase = .idle) :
    startRinse s
      = if s.gen.state ∉ [.empty, .rinseOwed] then (s, .genBusy, .none)
        else if s.gen.state = .empty ∧ steamInUse s = true then (s, .steamInUse, .none)
        else (enterRinse (rinseTaken s), .done, .none) := by
  simp only [List.mem_cons, List.not_mem_nil, or_false, not_or]
  exact if_neg (not_not_intro idle)

theorem startRinse_of_free (idle : s.proc.phase = .idle)
    (free : s.gen.state = .rinseOwed ∨ s.gen.state = .empty ∧ steamInUse s = false) :
    startRinse s = (enterRinse (rinseTaken s), .done, .none) := by
  rw [startRinse_of_idle idle]
  rcases free with owed | ⟨empty, unused⟩
  · simp [owed]
  · simp [empty, unused]

/-- What a rinse begins from (R131): the generator in DESCALE, the first rinse at the water source set. -/
structure RinseTaken (s t : State) : Prop where
  state : t.gen.state = .descale
  levelHighWet : t.gen.levelHighWet = s.gen.levelHighWet
  kind : t.proc.kind = some .rinse
  number : t.proc.rinseNumber = some 1
  source : t.proc.rinseSource = some s.settings.waterSource
  released : t.resetHeld = s.resetHeld
  within : Within .descale s t

theorem rinseTaken_taken (s : State) : RinseTaken s (rinseTaken s) := by
  have taken : TakenOver _ (rinseTaken s) := takeOver_taken _
  exact ⟨taken.state, taken.levelHighWet, congrArg (·.kind) taken.proc, congrArg (·.rinseNumber) taken.proc,
    congrArg (·.rinseSource) taken.proc, taken.within.resetHeld_eq rfl,
    ((within_modProc _ rfl).mpr (.refl _ s)).trans (taken.within.mono rfl)⟩

/-- A rinse's fill that is complete at its start keeps the procedure's kind. -/
theorem enterRinseFill_kind_of_full {src : WaterSource} (full : s.gen.levelHighWet = true) :
    (enterFill .rinseFill src .rinse s).proc.kind = s.proc.kind := by
  have entered := fillEntered_entered .rinseFill src .rinse s
  have rinse : (fillEntered .rinseFill src .rinse s).proc.phase ≠ .fillSolution := by
    rw [entered.proc]
    exact (by decide : ProcPhase.rinseFill ≠ .fillSolution)
  rw [enterFill_of_full full, (descaleFillDone_of_rinse entered.count rinse).proc, entered.proc]

/-! ## The generator given back (R111, R136) -/

theorem SteamWork.then_giveBack (h : SteamWork s t) : SteamWork s (giveBack t) := by
  unfold giveBack
  extract_lets abandoned
  have abandons : SteamWork s abandoned := h.then_abandonFill
  exact .ite abandons.then_startDrain (.ite abandons.then_startDrain abandons.then_enterGen.then_fillIfWanted)

/-- With no rinse owed a vessel that holds water is drained toward EMPTY. -/
theorem giveBack_of_wet (clear : s.proc.rinseOwed = false) (wet : s.gen.levelLowWet = true) :
    DrainBegun .empty (abandonFill s) (giveBack s) := by
  have kept : (abandonFill s).proc.rinseOwed ≠ true := by
    rw [(abandonFill_within s).proc_eq rfl]
    exact Bool.eq_false_iff.mp clear
  have low : (abandonFill s).gen.levelLowWet = true := by rwa [(abandonFill_abandoned s).gen]
  rw [show giveBack s = startDrain .empty (abandonFill s) from (if_neg kept).trans (if_pos low)]
  exact startDrain_begun _ _

/-! ## ABORT_DESCALE (R136, R138) -/

theorem abortDescale_of_idle (idle : s.proc.phase = .idle) : abortDescale s = (s, .state, .none) := if_pos idle

theorem abortDescale_of_underway (underway : s.proc.phase ≠ .idle) :
    abortDescale s = (abortProcedure .order s, .done, .none) := if_neg underway

/-- An abort keeps its record and its cleared prompt through the give-back. -/
theorem abortProcedure_aborted (reason : ProcAbort) (kind : s.proc.kind = some k) :
    Aborted reason k s.proc (abortProcedure reason s) := by
  obtain ⟨proc, prompt, posted⟩ := abortCore_aborted reason kind
  have work : SteamWork (abortCore reason s) (abortProcedure reason s) := (SteamWork.refl _).then_giveBack
  exact ⟨((giveBack_within _).proc_eq rfl).trans proc, (work.prompts .descaler (by decide)).trans prompt,
    fun p => (posted p).of_codeKept (work.codes 13 (by decide))⟩

/-- Where the generator is given back to (R111), by the rinse owed after the abort. -/
theorem abortProcedure_gives (reason : ProcAbort) (s : State) :
    ((abortProcedure reason s).proc.rinseOwed = true →
        (abortProcedure reason s).gen.state = .draining ∧ (abortProcedure reason s).gen.afterDrain = some .rinseOwed)
      ∧ ((abortProcedure reason s).proc.rinseOwed = false → s.gen.levelLowWet = true →
        (abortProcedure reason s).gen.state = .draining ∧ (abortProcedure reason s).gen.afterDrain = some .empty)
      ∧ ((abortProcedure reason s).proc.rinseOwed = false → s.gen.levelLowWet = false → anyPresent s = false →
        (abortProcedure reason s).gen.state = .empty) := by
  have gen : (abortCore reason s).gen = s.gen := (abortCore_frame reason s).gen_eq rfl
  rw [show (abortProcedure reason s).proc = (abortCore reason s).proc from (giveBack_within _).proc_eq rfl]
  refine ⟨fun owed => ?_, fun clear wet => ?_, fun clear dry unwanted => ?_⟩
  · have begun := giveBack_of_owed owed
    exact ⟨begun.state, begun.afterDrain⟩
  · have begun := giveBack_of_wet clear (by rwa [gen])
    exact ⟨begun.state, begun.afterDrain⟩
  · exact (giveBack_empties clear (by rwa [gen]) (.inl (by rwa [anyPresent, gen]))).state

end

/-- Settles O50: each start by its checks in order and what `TakenOver` hands to the first phase, the abort by
`Aborted` and the give-back. -/
theorem procedureOrdersTakeAndGiveBackTheGenerator : Obligations.ProcedureOrdersTakeAndGiveBackTheGenerator := by
  unfold Obligations.ProcedureOrdersTakeAndGiveBackTheGenerator
  refine ⟨fun p q s accepts => ?starts, fun p q s accepts => ?aborts⟩
  case starts =>
    have ⟨held, _⟩ := accepts
    intro no
    have descaleRefused {a : Answer} (acts : startDescale s = (s, a, .none)) : no (.startDescale p q) 0x38 a :=
      order_answered q 0x38 accepts acts
    have rinseRefused {a : Answer} (acts : startRinse s = (s, a, .none)) : no (.startRinse p q) 0x3A a :=
      order_answered q 0x3A accepts acts
    refine ⟨fun underway => ⟨descaleRefused (startDescale_of_underway underway),
        rinseRefused (startRinse_of_underway underway)⟩,
      fun idle busy => descaleRefused ((startDescale_of_idle idle).trans (if_pos busy)),
      fun idle busy => rinseRefused ((startRinse_of_idle idle).trans (if_pos busy)),
      fun idle free used => descaleRefused ?_, fun idle empty used => rinseRefused ?_,
      fun idle free unused => ?descale, fun idle free => ?rinse⟩
    · rw [startDescale_of_idle idle, if_neg (not_not_intro free), if_pos used]
    · rw [startRinse_of_idle idle, if_neg (by simp [empty]), if_pos ⟨empty, used⟩]
    case descale =>
      have begins := order_answered q 0x38 accepts (startDescale_of_free idle free unused)
      have taken : TakenOver _ (descaleTaken s) := takeOver_taken _
      have drained := enterDrain_entered .prepDrain (descaleTaken s)
      have within := (descaleTaken_within s).trans drained.within
      have pumps := drained.drainPump_eq (((descaleTaken_within s).resetHeld_eq rfl).trans held) taken.state
      refine ⟨_, begins, ?_, ?_, ?_, ?_, ?_, ?_, ?_, ?_, pumps, ?_, within⟩
      all_goals simp [drained.proc, drained.gen, taken.proc, taken.gen, genFields]
    case rinse =>
      have begins := order_answered q 0x3A accepts (startRinse_of_free idle free)
      have taken := rinseTaken_taken s
      have within : Within .descale s (enterRinse (rinseTaken s)) := taken.within.trans (enterRinse_within _)
      refine ⟨fun tank => ?waits, fun piped dry => ?runs, fun piped full => ?full⟩
      all_goals have source := taken.source
      case waits =>
        rw [tank] at source
        rw [enterRinse_of_tank source] at begins within
        have entered := enterWaiting_entered .waitRinse (rinseTaken s)
        obtain ⟨code, id⟩ := entered.asks
        exact ⟨_, begins, by rw [entered.proc], by rw [entered.proc, taken.kind], by rw [entered.proc, taken.number],
          by rw [entered.gen, taken.state], code, id, within⟩
      case runs =>
        rw [piped] at source
        rw [enterRinse_of_plumbed source, enterFill_runs (taken.levelHighWet.trans dry) (.inl rfl)] at begins within
        have entered := fillEntered_entered .rinseFill .plumbed .rinse (rinseTaken s)
        have descale : (fillEntered .rinseFill .plumbed .rinse (rinseTaken s)).gen.state = .descale := by
          rw [entered.gen, taken.state]
        have pours := inletValve_of_plumbed ((within.resetHeld_eq rfl).trans held) (.inr descale) (by rw [entered.gen]) rfl
        exact ⟨_, begins, by rw [entered.proc], by rw [entered.proc, taken.kind], by rw [entered.proc, taken.number],
          descale, pours, within⟩
      case full =>
        rw [piped] at source
        rw [enterRinse_of_plumbed source] at begins within
        have high := taken.levelHighWet.trans full
        obtain ⟨filled, number⟩ := filledAtOnce_rinse (src := .plumbed) (taken.released.trans held) taken.state high
        exact ⟨_, begins, filled, (enterRinseFill_kind_of_full high).trans taken.kind, number.trans taken.number, within⟩
  case aborts =>
    refine ⟨fun idle => order_answered q 0x39 accepts (abortDescale_of_idle idle), fun k underway kind => ?_⟩
    have aborted := abortProcedure_aborted .order kind
    obtain ⟨owed, wet, dry⟩ := abortProcedure_gives .order s
    refine ⟨_, order_answered q 0x39 accepts (abortDescale_of_underway underway), ?_, ?_, ?_, ?_, ?_, aborted.prompt, owed,
      wet, dry, abortProcedure_within .order s⟩
    all_goals rw [aborted.proc]
    exact owedAfterAbort_eq kind underway

end Sys2Proof.Machine
end

section
/-! SUPPORT. The staging buffer's orders (R145, R147, R148): the STORE hold and the checks of each in order. -/

namespace Sys2Proof.Machine

section
variable {p : Port} {slot : Byte} {label record : List Byte} {n : Nat} {b : Staging} {x : Option Staging} {s t : State}
  {k : Hold} {act : Act} {answer : Answer} {results : Results}

/-! ## An order under the STORE hold -/

/-- The state in which the STORE hold is the port's, its expiry restarted (R184). -/
def withStore (p : Port) (s : State) : State :=
  { s with holds := s.holds.set .store (some { holder := p, expiry := s.settings.holdTimeout * 10 }) }

/-- An order of the holder that needs the STORE hold. -/
theorem storeOrder_answered (q id : Byte) (accepts : Accepts p s) (hold : s.holds.store = some k)
    (holder : k.holder = p) (acts : act (withStore p s) = (t, answer, results)) :
    event (order p q id (some .store) act) s = .next (replied p q id answer results t) := by
  rw [withStore] at acts
  rw [event_order_of_accepts q id _ act accepts, withHold_of_holder act (h := .store) hold holder, acts]

/-- The same for parameters that have the byte count of the order's form (R178 check 2). -/
theorem countedStoreOrder_answered (q id : Byte) {ok : Bool} (count : ok = true) (accepts : Accepts p s)
    (hold : s.holds.store = some k) (holder : k.holder = p) (acts : act (withStore p s) = (t, answer, results)) :
    event (takeFrame p q id (counted ok (withHold p (some .store) act))) s
      = .next (replied p q id answer results t) := by
  have passes : counted ok (withHold p (some .store) act) = withHold p (some .store) act := funext fun _ => if_pos count
  rw [passes]
  exact storeOrder_answered q id accepts hold holder acts

/-- The state under the restarted STORE hold with a staging buffer. -/
def withStaging (p : Port) (x : Option Staging) (s : State) : State := { withStore p s with staging := x }

theorem withStaging_of_same (h : s.staging = x) : withStore p s = withStaging p x s := by
  subst h
  rfl

/-! ## STORE_OPEN -/

theorem fenced_iff : fenced p n s = true ↔ n < s.settings.fence ∧ p ≠ .service := by
  simp [fenced, isProtected]

theorem fenced_eq_false (h : s.settings.fence ≤ n ∨ p = .service) : fenced p n s = false := by
  refine Bool.eq_false_iff.mpr fun refused => ?_
  obtain ⟨below, other⟩ := fenced_iff.mp refused
  rcases h with above | service
  · exact absurd below (Nat.not_lt_of_le above)
  · exact other service

theorem storeOpen_range (beyond : 39 < slot.toNat) : storeOpen p slot s = (s, .range, .none) := if_pos beyond

theorem storeOpen_of_slot (h : slot.toNat ≤ 39) :
    storeOpen p slot s = if fenced p slot.toNat s then (s, .fence, .none)
      else ({ s with staging := some { slot := slot.toNat, label := [], records := [] } }, .done, .none) :=
  if_neg (Nat.not_lt_of_le h)

/-! ## STORE_LABEL and STORE_STEP -/

theorem storeLabel_closed (closed : s.staging = none) : storeLabel label s = (s, .state, .none) := by
  rw [storeLabel, closed]
  rfl

theorem storeLabel_of_staging (opened : s.staging = some b) :
    storeLabel label s = if 16 < label.length then (s, .range, .none)
      else ({ s with staging := some { b with label := label } }, .done, .none) := by
  rw [storeLabel, opened]
  rfl

theorem storeStep_closed (closed : s.staging = none) : storeStep record s = (s, .state, .none) := by
  rw [storeStep, closed]
  rfl

theorem storeStep_range (opened : s.staging = some b) (wrong : acceptRecord record = none) :
    storeStep record s = (s, .range, .none) := by
  rw [storeStep, opened]
  dsimp only
  rw [wrong]
  rfl

theorem storeStep_of_record {r : Record} (opened : s.staging = some b) (accepted : acceptRecord record = some r) :
    storeStep record s = if 48 ≤ b.records.length then (s, .full, .none)
      else ({ s with staging := some { b with records := b.records ++ [r] } }, .done,
        .staged (b.records.length + 1)) := by
  rw [storeStep, opened]
  dsimp only
  rw [accepted]
  rfl

end

/-- Settles O57, order by order: each check that fails answers, and the last leaves the buffer it writes. -/
theorem stagingOrdersFillTheBuffer : Obligations.StagingOrdersFillTheBuffer := by
  unfold Obligations.StagingOrdersFillTheBuffer
  intro p q k s accepts hold holder held answer
  have takes {id : Byte} {act : Act} {a : Answer} {r : Results} {b : Option Staging}
      (acts : act (withStore p s) = (withStaging p b s, a, r)) :
      event (order p q id (some .store) act) s = .next (replied p q id a r (held b)) :=
    storeOrder_answered q id accepts hold holder acts
  refine ⟨fun slot => ⟨fun beyond => takes (storeOpen_range beyond), fun named below other => takes ?_,
      fun named free => takes ?_⟩, fun n label size => ?label, fun record size => ?step, takes rfl⟩
  · exact (storeOpen_of_slot named).trans (if_pos (fenced_iff.mpr ⟨below, other⟩))
  · rw [storeOpen_of_slot named, fenced_eq_false (s := withStore p s) free]
    rfl
  case label =>
    have labels {a : Answer} {b : Option Staging}
        (acts : storeLabel label (withStore p s) = (withStaging p b s, a, .none)) :
        answer (.storeLabel p q n label) 0x49 a .none b :=
      countedStoreOrder_answered q 0x49 (beq_iff_eq.mpr size) accepts hold holder acts
    refine ⟨fun closed => labels ?_, fun b opened long => labels ?_, fun b opened short => labels ?_⟩
    · rw [storeLabel_closed (s := withStore p s) closed, withStaging_of_same closed]
    · rw [storeLabel_of_staging (s := withStore p s) opened, if_pos long, withStaging_of_same opened]
    · rw [storeLabel_of_staging (s := withStore p s) opened, if_neg (Nat.not_lt_of_le short)]
      rfl
  case step =>
    have steps {a : Answer} {r : Results} {b : Option Staging}
        (acts : storeStep record (withStore p s) = (withStaging p b s, a, r)) :
        answer (.storeStep p q record) 0x4A a r b :=
      countedStoreOrder_answered q 0x4A (beq_iff_eq.mpr size) accepts hold holder acts
    refine ⟨fun closed => steps ?_, fun b opened => ⟨fun wrong => steps ?_, fun r accepted full => steps ?_,
      fun r accepted room => steps ?_⟩⟩
    · rw [storeStep_closed (s := withStore p s) closed, withStaging_of_same closed]
    · rw [storeStep_range (s := withStore p s) opened wrong, withStaging_of_same opened]
    · rw [storeStep_of_record (s := withStore p s) opened accepted, if_pos full, withStaging_of_same opened]
    · rw [storeStep_of_record (s := withStore p s) opened accepted, if_neg (Nat.not_le_of_lt room)]
      rfl

end Sys2Proof.Machine
end

section
/-! SUPPORT. The orders that queue a write (R149, R150, R152, R197): the checks of each in order, and the queue after an
accepted write. -/

namespace Sys2Proof.Machine

/-! ## The write queue (R152) -/

/-- The store in which a write has been accepted: in flight at once, or behind the one in flight. -/
def queuedStore (e : WriteEntry) (t : Store) : Store :=
  if t.inFlight = none then { t with inFlight := some e } else { t with waiting := t.waiting ++ [e] }

section
variable {p : Port} {slot : Byte} {b : Staging} {s : State}

theorem enqueue_eq (idle : s.store.inFlight = none → s.store.waiting = []) (e : WriteEntry) :
    enqueue e s = { s with store := queuedStore e s.store } := by
  cases busy : s.store.inFlight with
  | none => simp [enqueue, beginWrite, queuedStore, modStore, busy, idle busy]
  | some x => simp [enqueue, beginWrite, queuedStore, modStore, busy]

/-! ## STORE_COMMIT (R149) -/

theorem storeCommit_closed (closed : s.staging = none) : storeCommit p s = (s, .state, .none) := by
  rw [storeCommit, closed]
  rfl

theorem storeCommit_fence (opened : s.staging = some b) (refused : fenced p b.slot s = true) :
    storeCommit p s = (s, .fence, .none) := by
  rw [storeCommit, opened]
  exact if_pos refused

section
variable (opened : s.staging = some b) (free : fenced p b.slot s = false)
include opened free

theorem storeCommit_empty (empty : b.records = []) : storeCommit p s = (s, .state, .none) := by
  simp [storeCommit, opened, free, empty, deny]

variable (filled : b.records ≠ [])
include filled

theorem storeCommit_loopTooLong (long : bodiesFit none b.records = false) :
    storeCommit p s = (s, .loopTooLong, .none) := by
  simp [storeCommit, opened, free, filled, long, deny]

variable (fit : bodiesFit none b.records = true)
include fit

theorem storeCommit_inUse (used : 0 < useCount b.slot s) : storeCommit p s = (s, .inUse, .none) := by
  simp [storeCommit, opened, free, filled, fit, used, deny]

variable (unused : useCount b.slot s = 0)
include unused

theorem storeCommit_poolFull (full : poolFits b.slot b.records.length s = false) :
    storeCommit p s = (s, .poolFull, .none) := by
  simp [storeCommit, opened, free, filled, fit, unused, full, deny]

/-- With room in the pool only the number of port writes is left to check (R152). -/
theorem storeCommit_of_room (room : poolFits b.slot b.records.length s = true) :
    storeCommit p s = if Config.portWrites ≤ portWriteCount s then (s, .storeBusy, .none)
      else (enqueue (.commit b.slot { label := b.label, records := b.records } p) (discardStaging s),
        .done, .none) := by
  simp [storeCommit, opened, free, filled, fit, unused, room, deny, doneAfter]

end

/-! ## ERASE_PROGRAM and SAVE_SETTINGS (R150, R197) -/

theorem eraseProgram_range (beyond : 39 < slot.toNat) : eraseProgram p slot s = (s, .range, .none) := if_pos beyond

theorem eraseProgram_of_slot (named : slot.toNat ≤ 39) :
    eraseProgram p slot s = if fenced p slot.toNat s then (s, .fence, .none)
      else if (projected slot.toNat s).isNone then (s, .state, .none)
      else if 0 < useCount slot.toNat s then (s, .inUse, .none)
      else if 2 ≤ portWriteCount s then (s, .storeBusy, .none)
      else (enqueue (.erase slot.toNat p) s, .done, .none) :=
  if_neg (Nat.not_lt_of_le named)

theorem saveSettings_eq : saveSettings p s = if 2 ≤ portWriteCount s then (s, .storeBusy, .none)
    else (enqueue (.settings s.settings p) s, .done, .none) := rfl

end

/-- Settles O58, order by order: each check that fails answers, and an accepted write joins the queue. -/
theorem acceptedWritesJoinTheQueue : Obligations.AcceptedWritesJoinTheQueue := by
  unfold Obligations.AcceptedWritesJoinTheQueue
  intro p q s accepts idle queued fence
  have refused {n : Nat} (h : fence n) : fenced p n (withStore p s) = true := fenced_iff.mpr h
  have admitted {n : Nat} (h : ¬ fence n) : fenced p n (withStore p s) = false :=
    Bool.eq_false_iff.mpr fun no => h (fenced_iff.mp no)
  refine ⟨fun k hold holder => ?held, fun busy => order_answered q 0x52 accepts (saveSettings_eq.trans (if_pos busy)),
    fun room => order_answered q 0x52 accepts ?saves⟩
  case saves =>
    rw [saveSettings_eq, if_neg (Nat.not_le_of_lt room), enqueue_eq idle]
    rfl
  case held =>
    intro held commit erase
    have commits {a : Answer} {t : State} (acts : storeCommit p held = (t, a, .none)) : commit a t :=
      storeOrder_answered q 0x4B accepts hold holder acts
    have erases {slot : Byte} {a : Answer} {t : State} (acts : eraseProgram p slot held = (t, a, .none)) :
        erase slot a t := storeOrder_answered q 0x4D accepts hold holder acts
    refine ⟨fun closed => commits (storeCommit_closed closed), fun b opened =>
      ⟨fun fenced => commits (storeCommit_fence opened (refused fenced)), fun free =>
        ⟨fun empty => commits (storeCommit_empty opened (admitted free) empty), fun filled =>
          ⟨fun long => commits (storeCommit_loopTooLong opened (admitted free) filled long), fun fit =>
            ⟨fun used => commits (storeCommit_inUse opened (admitted free) filled fit used), fun unused =>
              ⟨fun full => commits (storeCommit_poolFull opened (admitted free) filled fit unused
                  (decide_eq_false (Nat.not_le_of_lt full))), fun room => ?room⟩⟩⟩⟩⟩, fun slot =>
      ⟨fun beyond => erases (eraseProgram_range beyond), fun named => ?erase⟩⟩
    case room =>
      have left := storeCommit_of_room (s := held) opened (admitted free) filled fit unused (decide_eq_true room)
      refine ⟨fun busy => commits (left.trans (if_pos busy)), fun few =>
        commits (left.trans ((if_neg (Nat.not_le_of_lt few)).trans ?_))⟩
      rw [enqueue_eq (s := discardStaging held) idle]
      rfl
    case erase =>
      have checks := eraseProgram_of_slot (p := p) (s := held) named
      refine ⟨fun fenced => erases (checks.trans (if_pos (refused fenced))), fun free => ?_⟩
      have checks := checks.trans (if_neg (Bool.eq_false_iff.mp (admitted free)))
      refine ⟨fun blank => erases (checks.trans (if_pos (Option.isNone_iff_eq_none.mpr blank))), fun stored => ?_⟩
      have checks := checks.trans (if_neg (mt Option.isNone_iff_eq_none.mp stored))
      refine ⟨fun used => erases (checks.trans (if_pos used)), fun unused => ?_⟩
      have checks := checks.trans (if_neg (Nat.not_lt_of_le (Nat.le_of_eq unused)))
      refine ⟨fun busy => erases (checks.trans (if_pos busy)), fun few =>
        erases (checks.trans ((if_neg (Nat.not_le_of_lt few)).trans ?_))⟩
      rw [enqueue_eq (s := held) idle]
      rfl

end Sys2Proof.Machine
end

section
/-! SUPPORT. STORE_WRITE_COMPLETE (R126, R129, R153): the entry leaves the queue, its result is installed and reported,
and the next waiting entry begins. -/

namespace Sys2Proof.Machine

/-- The store once no write is in flight: the next waiting entry begins (R152). -/
def nextBegun (t : Store) : Store := { t with inFlight := t.waiting.head?, waiting := t.waiting.tail }

/-- The state in which the completed entry has left the queue. -/
def writeEnded (s : State) : State := modStore (fun t => { t with inFlight := none }) s

/-- A store apart from its write queue. -/
def storedRecords (t : Store) : Store := { t with waiting := [], inFlight := none }

section
variable {slot kind : Nat} {p : Port} {e : WriteEntry} {content : Option Program} {written : Bool} {s : State}

/-! ## The queue (R152) -/

theorem beginWrite_of_idle (idle : s.store.inFlight = none) : beginWrite s = { s with store := nextBegun s.store } := by
  cases waits : s.store.waiting with
  | nil =>
    have head : s.store.waiting.head? = s.store.inFlight := by rw [waits, idle]; rfl
    have tail : s.store.waiting.tail = s.store.waiting := by rw [waits]; rfl
    have same : nextBegun s.store = s.store := by rw [nextBegun, head, tail]
    simp [beginWrite, idle, waits, same]
  | cons e es => simp [beginWrite, idle, waits, nextBegun, modStore]

/-- An entry that begins is still accepted and not completed. -/
theorem accepted_beginWrite (s : State) : accepted (beginWrite s) = accepted s := by
  unfold beginWrite
  split
  · next idle waiting => simp [accepted, idle, waiting]
  · rfl
  · rfl

theorem mem_accepted_handSave (e : WriteEntry) (s : State) : e ∈ accepted (handSave e s) := by
  unfold handSave
  split
  · next waits =>
    obtain ⟨x, mem, same⟩ := List.any_eq_true.mp waits
    exact List.mem_append_right _ (List.mem_map.mpr ⟨x, mem, if_pos same⟩)
  · rw [enqueue, accepted_beginWrite]
    exact List.mem_append_right _ (List.mem_append_right _ (List.mem_singleton_self e))

theorem storedRecords_beginWrite (s : State) : storedRecords (beginWrite s).store = storedRecords s.store := by
  unfold beginWrite
  split
  all_goals rfl

theorem storedRecords_handSave (e : WriteEntry) (s : State) :
    storedRecords (handSave e s).store = storedRecords s.store := by
  unfold handSave
  split
  · rfl
  · exact storedRecords_beginWrite _

/-! ## Completion (R153) -/

theorem storeWriteComplete_idle (idle : s.store.inFlight = none) : storeWriteComplete written s = s := by
  rw [storeWriteComplete, idle]

theorem storeWriteComplete_of_entry (flight : s.store.inFlight = some e) :
    storeWriteComplete written s = beginWrite (completeWrite e written (writeEnded s)) := by
  rw [storeWriteComplete, flight]
  rfl

/-- The entry writes this content to a program slot for this port, reported under this kind. -/
def WritesSlot (slot : Nat) (p : Port) (content : Option Program) (kind : Nat) (e : WriteEntry) : Prop :=
  (∃ prog, e = .commit slot prog p ∧ content = some prog ∧ kind = 0) ∨ e = .erase slot p ∧ content = none ∧ kind = 1

/-- The tests of a commit and of an erase are the same, and so is their report. -/
theorem completeWrite_slot (h : WritesSlot slot p content kind e) :
    completeWrite e written s = post p (.storeDone slot kind (programFailure slot p written s))
      (if (programFailure slot p written s).isNone then install slot content s else s) := by
  rcases h with ⟨prog, rfl, rfl, rfl⟩ | ⟨rfl, rfl, rfl⟩
  · rfl
  · rfl

theorem programFailure_inUse (used : 0 < useCount slot s) : programFailure slot p written s = some 0 := if_pos used

theorem programFailure_of_unused (unused : useCount slot s = 0) :
    programFailure slot p written s = if fenced p slot s then some 1 else if written then none else some 2 :=
  if_neg (Nat.not_lt_of_le (Nat.le_of_eq unused))

/-- A write of a slot that fails changes nothing but the report and the queue. -/
theorem storeWriteComplete_fails {why : Nat} (flight : s.store.inFlight = some e)
    (h : WritesSlot slot p content kind e) (fails : programFailure slot p written s = some why) :
    storeWriteComplete written s = { s with
      store := nextBegun s.store
      attention := s.attention.set p (offer (detail 5 slot 1 (toHalf kind) (toHalf why)) (s.attention.get p)) } := by
  have fails : programFailure slot p written (writeEnded s) = some why := fails
  rw [storeWriteComplete_of_entry flight, completeWrite_slot h, fails]
  exact beginWrite_of_idle rfl

/-- A write of a slot that is OK installs its content. -/
theorem storeWriteComplete_installs (flight : s.store.inFlight = some e)
    (h : WritesSlot slot p content kind e) (ok : programFailure slot p written s = none) :
    storeWriteComplete written s = { s with
      store := { nextBegun s.store with slots := s.store.slots.setIfInBounds slot content }
      attention := s.attention.set p (offer (detail 5 slot 0 (toHalf kind) (toHalf 0)) (s.attention.get p)) } := by
  have ok : programFailure slot p written (writeEnded s) = none := ok
  rw [storeWriteComplete_of_entry flight, completeWrite_slot h, ok]
  exact beginWrite_of_idle rfl

/-! ## Internal saves that fail (R126, R129) -/

/-- The scale account with the result of its save noted, the entry gone from the queue. -/
def scaleNoted (x : WriteResult) (s : State) : State :=
  modScale (fun a => { a with saveResult := some x }) (writeEnded s)

/-- A failed save of the scale account is handed over again. -/
theorem scaleSave_again {v : ScaleRecord} (flight : s.store.inFlight = some (.scale v)) :
    storeWriteComplete false s = beginWrite (saveScale (scaleNoted .fail s)) := storeWriteComplete_of_entry flight

/-- The procedure record with the result of its save noted, the entry gone from the queue. -/
def procNoted (x : WriteResult) (s : State) : State :=
  modProc (fun r => { r with saveResult := some x }) (writeEnded s)

theorem procSave_again {v : ProcRecord} (flight : s.store.inFlight = some (.procedure v)) :
    storeWriteComplete false s = beginWrite (saveProcedure (procNoted .fail s)) := storeWriteComplete_of_entry flight

theorem storedRecords_saveScale (s : State) : storedRecords (saveScale s).store = storedRecords s.store :=
  storedRecords_handSave _ _

theorem storedRecords_saveProcedure (s : State) : storedRecords (saveProcedure s).store = storedRecords s.store :=
  storedRecords_handSave _ _

theorem mem_accepted_saveScale (s : State) :
    .scale { points := s.scale.points, carry := s.scale.carry } ∈ accepted (saveScale s) :=
  mem_accepted_handSave _ _

/-- A save notes the phase it hands over (R129). -/
theorem saveProcedure_proc (s : State) : (saveProcedure s).proc = { s.proc with savedPhase := some s.proc.phase } := by
  unfold saveProcedure
  extract_lets noted
  exact (handSave_within _ noted).proc_eq rfl

theorem writeEnded_within (s : State) : Within { store := true } s (writeEnded s) :=
  (within_modStore _ rfl).mpr (.refl _ s)

end

/-- Settles O59, by the kind of the entry in flight. -/
theorem writeCompletionInstallsAndReports : Obligations.WriteCompletionInstallsAndReports := by
  unfold Obligations.WriteCompletionInstallsAndReports
  intro written s held i next report
  have completes := event_of_not_held (storeWriteComplete written) held
  refine ⟨fun idle => completes.trans (congrArg _ (storeWriteComplete_idle idle)),
    fun slot p content kind e flight writes => ?slot, fun v p flight => ?settings, fun v flight => ?scale,
    fun v flight => ?procedure⟩
  case slot =>
    refine ⟨fun used => completes.trans (congrArg _ ?_), fun unused below other => completes.trans (congrArg _ ?_),
      fun unused free => ⟨?_, ?_⟩⟩
    · exact storeWriteComplete_fails flight writes (programFailure_inUse used)
    · refine storeWriteComplete_fails flight writes ((programFailure_of_unused unused).trans ?_)
      rw [fenced_iff.mpr ⟨below, other⟩]
      rfl
    all_goals
      have tested : programFailure slot p written s = if written then none else some 2 := by
        rw [programFailure_of_unused unused, fenced_eq_false free]
        rfl
      rintro rfl
    · exact completes.trans (congrArg _ (storeWriteComplete_fails flight writes tested))
    · exact completes.trans (congrArg _ (storeWriteComplete_installs flight writes tested))
  case settings =>
    refine ⟨?_, ?_⟩
    all_goals
      rintro rfl
      rw [storeWriteComplete_of_entry flight] at completes
      exact completes.trans (congrArg _ (beginWrite_of_idle rfl))
  case scale =>
    refine ⟨?_, ?_⟩
    all_goals rintro rfl
    · rw [storeWriteComplete_of_entry flight] at completes
      exact completes.trans (congrArg _ (beginWrite_of_idle rfl))
    · rw [scaleSave_again flight] at completes
      have begins := beginWrite_within (saveScale (scaleNoted .fail s))
      refine ⟨_, completes, ?_, ?_, ?_, ?_⟩
      · have kept := (storedRecords_beginWrite _).trans (storedRecords_saveScale (scaleNoted .fail s))
        exact (congrArg Store.scale kept :)
      · exact (begins.scale_eq rfl).trans (saveScale_scale _)
      · rw [accepted_beginWrite]
        exact mem_accepted_saveScale (scaleNoted .fail s)
      · have noted : Within { store := true, scale := true } s (scaleNoted .fail s) :=
          (within_modScale _ rfl).mpr ((writeEnded_within s).mono rfl)
        exact (noted.trans (saveScale_within _)).trans (begins.mono rfl)
  case procedure =>
    refine ⟨?_, ?_⟩
    all_goals rintro rfl
    · rw [storeWriteComplete_of_entry flight] at completes
      exact completes.trans (congrArg _ (beginWrite_of_idle rfl))
    · rw [procSave_again flight] at completes
      have begins := beginWrite_within (saveProcedure (procNoted .fail s))
      refine ⟨_, completes, ?_, ?_, ?_⟩
      · have kept := (storedRecords_beginWrite _).trans (storedRecords_saveProcedure (procNoted .fail s))
        exact (congrArg Store.procedure kept :)
      · exact (begins.proc_eq rfl).trans (saveProcedure_proc _)
      · have noted : Within { store := true, proc := true } s (procNoted .fail s) :=
          (within_modProc _ rfl).mpr ((writeEnded_within s).mono rfl)
        exact (noted.trans (saveProcedure_within _)).trans (begins.mono rfl)

end Sys2Proof.Machine
end

section
/-! SUPPORT. The prompt table's answers (R32, R49, R99, R132, R133, R156): the entry removed, and what its owner makes
of the answer. -/

namespace Sys2Proof.Machine

/-- The state in which an owner's entry has been removed for a reason and PROMPT_CLEARED broadcast (R159). -/
def cleared (o : Owner) (e : Prompt) (x : ClearReason) (s : State) : State :=
  broadcast (.promptCleared o e.code e.id x) (setPrompt o none s)

section
variable {p : Port} {id : Half} {n : Nat} {c : Cavity} {o : Owner} {e : Prompt} {x : ClearReason} {s t : State}
  {f : Fill} {src : WaterSource} {phase : ProcPhase} {purpose : Purpose}

theorem removePrompt_of_entry (entry : s.prompts.get o = some e) (x : ClearReason) :
    removePrompt o x s = cleared o e x s := by
  rw [removePrompt, entry]
  rfl

theorem cleared_within (o : Owner) (e : Prompt) (x : ClearReason) (s : State) : Within .table s (cleared o e x s) :=
  (within_broadcast _ rfl).mpr ((within_setPrompt o none rfl).mpr (.refl _ s))

theorem cleared_get (o : Owner) (e : Prompt) (x : ClearReason) (s : State) : (cleared o e x s).prompts.get o = none :=
  PerOwner.get_set_self _ _ _

/-! ## The entry with an id (R156) -/

/-- An owner's entry, if it has the id. -/
def entryOfId (n : Nat) (s : State) (o : Owner) : Option (Owner × Prompt) :=
  match s.prompts.get o with
  | some e => if e.id = n then some (o, e) else none
  | none => none

theorem ownerOfId_eq (n : Nat) (s : State) :
    ownerOfId n s = (entryOfId n s .cavityA).or ((entryOfId n s .cavityB).or
      ((entryOfId n s .generator).or (entryOfId n s .descaler))) := rfl

theorem entryOfId_eq_none (h : ∀ e, s.prompts.get o = some e → e.id ≠ n) : entryOfId n s o = none := by
  unfold entryOfId
  split
  · next e entry => exact if_neg (h e entry)
  · rfl

theorem entryOfId_eq_some (entry : s.prompts.get o = some e) (same : e.id = n) : entryOfId n s o = some (o, e) := by
  rw [entryOfId, entry]
  exact if_pos same

theorem ownerOfId_eq_none (h : ∀ o e, s.prompts.get o = some e → e.id ≠ n) : ownerOfId n s = none := by
  simp [ownerOfId_eq, fun o => entryOfId_eq_none (h o)]

/-- The only entry with an id is the one found. -/
theorem ownerOfId_eq_some (entry : s.prompts.get o = some e) (same : e.id = n)
    (alone : ∀ o' e', o' ≠ o → s.prompts.get o' = some e' → e'.id ≠ n) : ownerOfId n s = some (o, e) := by
  have found := entryOfId_eq_some entry same
  have other (j : Owner) (ne : j ≠ o) : entryOfId n s j = none := entryOfId_eq_none fun e' => alone j e' ne
  rw [ownerOfId_eq]
  cases o
  case cavityA => simp [found]
  case cavityB => simp [found, other .cavityA]
  case generator => simp [found, other .cavityA, other .cavityB]
  case descaler => simp [found, other .cavityA, other .cavityB, other .generator]

theorem ackPrompt_tooLate (h : id = 0 ∨ ∀ o e, s.prompts.get o = some e → e.id ≠ id.toNat) :
    ackPrompt p id s = (s, .tooLate, .none) := by
  unfold ackPrompt
  split
  · rfl
  · next given => rw [ownerOfId_eq_none (h.resolve_left given)]; rfl

theorem ackPrompt_acks (given : id ≠ 0) (found : ownerOfId id.toNat s = some (o, e)) :
    ackPrompt p id s = (ackEntry o e p s, .done, .none) := by
  rw [ackPrompt, if_neg given, found]
  rfl

/-! ## Whom an answer reaches -/

theorem reportAnswer_cavity (c : Cavity) (e : Prompt) (s : State) :
    reportAnswer (cavityOwner c) e s = recipeAnswered c e.placement s := by
  rw [reportAnswer, ownerCavity_cavityOwner]

theorem answerPrompt_of_entry (entry : s.prompts.get o = some e) (x : ClearReason) :
    answerPrompt o x s = reportAnswer o e (cleared o e x s) := by
  rw [answerPrompt, entry, removePrompt_of_entry entry]

theorem ackEntry_recipe (entry : s.prompts.get (cavityOwner c) = some e) (code : e.code < 200) :
    ackEntry (cavityOwner c) e p s = recipeAnswered c e.placement (cleared (cavityOwner c) e (.ack p) s) := by
  have recipe : probeAck e = false := decide_eq_false (by omega)
  rw [ackEntry, ownerCavity_cavityOwner, recipe, ← reportAnswer_cavity]
  exact answerPrompt_of_entry entry _

theorem ackEntry_probe (entry : s.prompts.get (cavityOwner c) = some e) (code : e.code = 243) :
    ackEntry (cavityOwner c) e p s = probePromptAcked c (cleared (cavityOwner c) e (.ack p) s) := by
  rw [ackEntry, ownerCavity_cavityOwner, removePrompt_of_entry entry]
  exact if_pos (decide_eq_true code)

theorem ackEntry_generator (entry : s.prompts.get .generator = some e) :
    ackEntry .generator e p s = refillAnswered (cleared .generator e (.ack p) s) := answerPrompt_of_entry entry _

theorem ackEntry_descaler (entry : s.prompts.get .descaler = some e) :
    ackEntry .descaler e p s = descaleAnswered (cleared .descaler e (.ack p) s) := answerPrompt_of_entry entry _

/-! ## A recipe prompt answered (R32, R33) -/

theorem recipeAnswered_paused {pl : Placement} (recipe : pl = .before ∨ pl = .after)
    (paused : (s.runs.get c).state = .paused) :
    recipeAnswered c pl s = modRun c (fun r => { r with deferred := true }) s := by
  rcases recipe with rfl | rfl
  · exact if_pos paused
  · exact if_pos paused

theorem recipeAnswered_before (running : (s.runs.get c).state = .running)
    (phase : (s.runs.get c).phase = some .entryPrompt) :
    recipeAnswered c .before s = settle c (coreEntry c (approachTest c s)) := by
  have moving : (s.runs.get c).state ≠ .paused := by rw [running]; decide
  have leaves : leaveEntry c s = coreEntry c (approachTest c s) := if_pos phase
  rw [← leaves]
  exact (if_neg moving).trans (if_pos running)

theorem recipeAnswered_after (running : (s.runs.get c).state = .running)
    (phase : (s.runs.get c).phase = some .exitPrompt) : recipeAnswered c .after s = settle c (stepEnd c s) := by
  have moving : (s.runs.get c).state ≠ .paused := by rw [running]; decide
  exact (if_neg moving).trans (if_pos ⟨running, phase⟩)

theorem coreEntry_of_no_core {step : CurrentStep} (current : (s.runs.get c).current = some step)
    (none : step.action.core = none) : coreEntry c s = s := by
  refine if_neg ?_
  rw [current, Option.bind_some, none]
  decide

/-- What a BEFORE answer leaves of a run (R29, R32). -/
theorem settle_entryLeft {step : CurrentStep} (current : (s.runs.get c).current = some step) :
    ∃ core, SameRun ((settle c (coreEntry c (approachTest c s))).runs.get c)
      { s.runs.get c with phase := some (leftEntry step (cavityReading c s)), coreCond := core } := by
  obtain ⟨core, run⟩ := coreEntry_run c (approachTest c s)
  rw [approachTest_runs current, PerCavity.get_set_self] at run
  refine ⟨core, ?_⟩
  rw [← run]
  exact settle_run c _

/-- Without a core target leaving ENTRY_PROMPT raises no prompt (R28). -/
theorem settle_entryLeft_prompt {step : CurrentStep} (current : (s.runs.get c).current = some step)
    (none : step.action.core = none) :
    (settle c (coreEntry c (approachTest c s))).prompts.get (cavityOwner c) = s.prompts.get (cavityOwner c) := by
  have kept : ((approachTest c s).runs.get c).current = some step := by
    rw [approachTest_runs current, PerCavity.get_set_self]
    exact current
  rw [settle_prompt, coreEntry_of_no_core kept none, (approachTest_within c s).prompts_eq rfl]

theorem endsStep_cleared (c : Cavity) (o : Owner) (e : Prompt) (x : ClearReason) (s : State) :
    EndsStep c (s.runs.get c) s (cleared o e x s) := ⟨rfl, rfl, rfl, (cleared_within o e x s).mono rfl⟩

/-- An answered entry acts on a RUNNING run as R32 and R33 say. -/
theorem answerActs_of_cleared {happens : (State → Prop) → Prop}
    (acts : ∀ post : State → Prop,
      post (recipeAnswered c e.placement (cleared (cavityOwner c) e x s)) → happens post) :
    AnswerActs c e (s.runs.get c) s happens := by
  have ends := endsStep_cleared c (cavityOwner c) e x s
  refine ⟨fun step before running phase current => acts _ ?entry, fun after running phase => ?exit⟩
  case entry =>
    obtain ⟨core, run⟩ := settle_entryLeft (s := cleared (cavityOwner c) e x s) current
    rw [before, recipeAnswered_before (s := cleared (cavityOwner c) e x s) running phase, run.eq_with]
    exact ⟨rfl, running, rfl, fun none =>
      (settle_entryLeft_prompt (s := cleared (cavityOwner c) e x s) current none).trans (cleared_get _ e x s)⟩
  case exit =>
    have answered : recipeAnswered c e.placement (cleared (cavityOwner c) e x s)
        = settle c (stepEnd c (cleared (cavityOwner c) e x s)) := by
      rw [after, recipeAnswered_after (s := cleared (cavityOwner c) e x s) running phase]
    rw [answered] at acts
    refine ⟨fun load a reaches => acts _ ?_, fun q' idle closed walks => acts _ (ends.finished idle closed rfl walks),
      fun q' f idle unclosed feeder walks => acts _ (ends.starved idle unclosed feeder walks).then_settle⟩
    obtain ⟨⟨found, q'⟩, walks, rfl⟩ := Option.map_eq_some_iff.mp reaches
    exact ((ends.entered walks).of_sameRun (settle_run c _)).enteredStep running

theorem recipeAnswered_cleared_within (c : Cavity) (e : Prompt) (x : ClearReason) (s : State) :
    Within .run s (recipeAnswered c e.placement (cleared (cavityOwner c) e x s)) :=
  ((cleared_within _ e x s).mono rfl).trans (recipeAnswered_within c _ _)

/-! ## INSERT_PROBE answered (R49) -/

/-- The record of a run whose probe cannot be used at the answer: its core condition is dropped where the step waits for
the probe. -/
def droppedCore (c : Cavity) (s : State) (r : Run) : Run :=
  if (r.state = .running ∨ r.state = .paused) ∧ (r.phase = some .heatup ∨ r.phase = some .hold)
    ∧ (r.current.bind (·.action.core)).isSome = true ∧ r.coreCond = some .waitingProbe
    ∧ (s.probePresent.get c = false ∨ (s.sensors.get (coreSensor c)).status = .faulted)
  then { r with coreCond := some .dropped } else r

theorem droppedCore_eq_with (c : Cavity) (s : State) (r : Run) :
    ∃ core, droppedCore c s r = { r with coreCond := core } := by
  unfold droppedCore
  split
  · exact ⟨_, rfl⟩
  · exact ⟨_, rfl⟩

theorem probeStep_iff {r : Run} : probeStep r = true ↔ (r.state = .running ∨ r.state = .paused)
    ∧ (r.phase = some .heatup ∨ r.phase = some .hold) ∧ (r.current.bind (·.action.core)).isSome = true := by
  simp [probeStep, inHeatOrHold, and_assoc]

theorem probeUsable_eq_false_iff : probeUsable c s = false
    ↔ s.probePresent.get c = false ∨ (s.sensors.get (coreSensor c)).status = .faulted := by
  simp [probeUsable, sensorFaulted, imp_iff_not_or]

/-- The state in which the probe's answer has dropped the core condition where it must. -/
def probeNoted (c : Cavity) (s : State) : State := { s with runs := s.runs.set c (droppedCore c s (s.runs.get c)) }

theorem probePromptAcked_eq (c : Cavity) (s : State) : probePromptAcked c s = resumeForProbe c (probeNoted c s) := by
  unfold probePromptAcked probeNoted droppedCore
  extract_lets r noted
  refine congrArg (resumeForProbe c) ?_
  by_cases drops : probeStep r ∧ r.coreCond = some .waitingProbe ∧ probeUsable c s = false
  · obtain ⟨step, waits, unusable⟩ := drops
    obtain ⟨state, phase, core⟩ := probeStep_iff.mp step
    rw [if_pos ⟨state, phase, core, waits, probeUsable_eq_false_iff.mp unusable⟩]
    exact if_pos ⟨step, waits, unusable⟩
  · rw [if_neg, PerCavity.set_get]
    · exact if_neg drops
    · rintro ⟨state, phase, core, waits, unusable⟩
      exact drops ⟨probeStep_iff.mpr ⟨state, phase, core⟩, waits, probeUsable_eq_false_iff.mpr unusable⟩

theorem probeNoted_run (c : Cavity) (s : State) : (probeNoted c s).runs.get c = droppedCore c s (s.runs.get c) :=
  PerCavity.get_set_self _ _ _

theorem probePromptAcked_stays (h : ¬ ((s.runs.get c).state = .paused ∧ (s.runs.get c).pauseReason = some .probe)) :
    probePromptAcked c s = probeNoted c s := by
  obtain ⟨core, same⟩ := droppedCore_eq_with c s (s.runs.get c)
  rw [probePromptAcked_eq]
  refine if_neg ?_
  rw [probeNoted_run, same]
  exact h

/-- The answer resumes a run PAUSED for its probe (R39, R49). -/
theorem probePromptAcked_resumes (paused : (s.runs.get c).state = .paused)
    (reason : (s.runs.get c).pauseReason = some .probe) (inTime : ResumesInTime (s.runs.get c) s) :
    probePromptAcked c s = handBack c (unpaused c (probeNoted c s)) := by
  obtain ⟨core, same⟩ := droppedCore_eq_with c s (s.runs.get c)
  have run := (probeNoted_run c s).trans same
  obtain ⟨undeferred, late⟩ := inTime
  have resumes : resumeForProbe c (probeNoted c s) = resume c (probeNoted c s) := by
    refine if_pos ?_
    rw [run]
    exact ⟨paused, reason⟩
  rw [probePromptAcked_eq, resumes]
  refine resume_returns ?_ ?_
  · rw [run]; exact undeferred
  · rw [run]; exact late

/-- What the answer leaves of a run PAUSED for its probe (R49). -/
theorem probeAcked_resumes (e : Prompt) (x : ClearReason) (paused : (s.runs.get c).state = .paused)
    (reason : (s.runs.get c).pauseReason = some .probe) (inTime : ResumesInTime (s.runs.get c) s) :
    let u := probePromptAcked c (cleared (cavityOwner c) e x s)
    SameRun (u.runs.get c) (resumedRun c (droppedCore c s (s.runs.get c)) s) ∧ u.prompts.get (cavityOwner c) = none
      ∧ u.queues = s.queues ∧ Within .run s u := by
  intro u
  have within : Within .run s u :=
    ((cleared_within (cavityOwner c) e x s).mono rfl).trans (probePromptAcked_within c _)
  have resumes : u = handBack c (unpaused c (probeNoted c (cleared (cavityOwner c) e x s))) :=
    probePromptAcked_resumes (s := cleared (cavityOwner c) e x s) paused reason inTime
  obtain ⟨run, -⟩ := handBack_unpaused c (probeNoted c (cleared (cavityOwner c) e x s))
  rw [probeNoted_run] at run
  rw [resumes] at within ⊢
  exact ⟨run, (handBack_prompt c _).trans (cleared_get _ e x s), handBack_queues c _, within⟩

/-! ## REFILL_TANK answered (R99) -/

/-- REFILL_TANK answered with water at hand: the fill runs again. -/
theorem refillAnswered_of_supplied (state : s.gen.state = .waterWait) (filling : s.gen.fill = some f)
    (supplied : f.source = .plumbed ∨ s.tankPresent = true) : refillAnswered s
      = enterGen .filling (fun g => { g with fill := g.fill.map (fun f => { f with watchdog := 0 }) }) s := by
  rcases supplied with piped | present
  · refine (if_pos state).trans (if_neg ?_)
    rintro ⟨tank, -⟩
    rw [enterGen_gen] at tank
    simp [genFields, filling, piped] at tank
  · exact refillAnswered_of_present state present

/-! ## The descale controller's prompts answered (R132, R133) -/

theorem tankPump_of_tank (held : s.resetHeld = false) (state : s.gen.state = .filling ∨ s.gen.state = .descale)
    (filling : s.gen.fill = some f) (source : f.source = .tank) : tankPump s = true := by
  have running : fillRunning s = true := fillRunning_of_fill state filling
  simp [tankPump, held, running, filling, source]

/-- With LEVEL_HIGH dry and the tank absent the fill stalls at its start (R133). -/
theorem enterFill_stalls (dry : s.gen.levelHighWet = false) (absent : s.tankPresent = false) :
    enterFill phase .tank purpose s = descaleStall (fillEntered phase .tank purpose s) := by
  have entered := fillEntered_entered phase .tank purpose s
  rw [enterFill_eq, if_neg (by rw [entered.gen]; exact Bool.eq_false_iff.mp dry)]
  exact if_pos ⟨rfl, (entered.within.tankPresent_eq rfl).trans absent⟩

end

end Sys2Proof.Machine
end

section
/-! SUPPORT. PROMPT_TIMEOUT (R32, R41, R158), and the statement on the prompts' answers and timeouts. -/

namespace Sys2Proof.Machine

section
variable {n : Nat} {c : Cavity} {o : Owner} {e : Prompt} {x : ClearReason} {s : State} {f : Fill} {src : WaterSource}
  {phase : ProcPhase} {purpose : Purpose}

/-! ## A timeout (R158) -/

theorem promptTimeout_of_untimed (h : ∀ e, s.prompts.get o = some e → e.timeout = none) : promptTimeout o s = s := by
  unfold promptTimeout
  split
  · next e entry => exact if_neg (by rw [h e entry]; decide)
  · rfl

section
variable (entry : s.prompts.get o = some e) (timed : e.timeout = some n)
include entry timed

/-- A timeout that acts does what the entry says. -/
theorem promptTimeout_of_timed : promptTimeout o s = match e.onTimeout with
    | some .abort => timeoutAbort o s
    | some .pause => if e.placement = .notice then answerPrompt o .timeout s else timeoutPause o e s
    | some .cont | none => answerPrompt o .timeout s := by
  rw [promptTimeout, entry]
  exact if_pos (by rw [timed]; rfl)

theorem promptTimeout_continues (on : e.onTimeout = some .cont) :
    promptTimeout o s = reportAnswer o e (cleared o e .timeout s) := by
  rw [promptTimeout_of_timed entry timed, on]
  exact answerPrompt_of_entry entry _

theorem promptTimeout_pausesNotice (on : e.onTimeout = some .pause) (notice : e.placement = .notice) :
    promptTimeout o s = reportAnswer o e (cleared o e .timeout s) := by
  rw [promptTimeout_of_timed entry timed, on]
  exact (if_pos notice).trans (answerPrompt_of_entry entry _)

theorem promptTimeout_pauses (on : e.onTimeout = some .pause) (step : e.placement ≠ .notice) :
    promptTimeout o s = timeoutPause o e s := by
  rw [promptTimeout_of_timed entry timed, on]
  exact if_neg step

theorem promptTimeout_aborts (on : e.onTimeout = some .abort) : promptTimeout o s = timeoutAbort o s := by
  rw [promptTimeout_of_timed entry timed, on]

end

/-- The entry stands timed out, before the run is paused. -/
def timedOut (c : Cavity) (e : Prompt) (s : State) : State :=
  setPrompt (cavityOwner c) (some { e with timedOut := true, timeout := none }) s

theorem timeoutPause_cavity (c : Cavity) (e : Prompt) (s : State) :
    timeoutPause (cavityOwner c) e s = settle c (pause c .prompt (timedOut c e s)) := by
  rw [timeoutPause, ownerCavity_cavityOwner]
  rfl

theorem timeoutAbort_cavity (entry : s.prompts.get (cavityOwner c) = some e)
    (under : inProgress (s.runs.get c) = true) :
    timeoutAbort (cavityOwner c) s = settle c (abortRun c .prompt (cleared (cavityOwner c) e .timeout s)) := by
  have aborts : abortInProgress c .prompt (cleared (cavityOwner c) e .timeout s)
      = abortRun c .prompt (cleared (cavityOwner c) e .timeout s) := if_pos under
  rw [timeoutAbort, ownerCavity_cavityOwner, removePrompt_of_entry entry, ← aborts]

/-- A PAUSE timeout of a step's prompt leaves its entry timed out (R32, R158). -/
theorem timeoutPause_prompt (c : Cavity) (e : Prompt) (s : State) :
    (timeoutPause (cavityOwner c) e s).prompts.get (cavityOwner c)
      = some { e with timedOut := true, timeout := none } := by
  rw [timeoutPause_cavity, settle_prompt, (pause_within c .prompt _).prompts_eq rfl]
  exact PerOwner.get_set_self _ _ _

theorem settle_pause_timedOut (carries : (s.runs.get c).state = .running ∨ (s.runs.get c).state = .starved) :
    RunPaused c .prompt (timedOut c e s) (timeoutPause (cavityOwner c) e s) := by
  rw [timeoutPause_cavity]
  exact settle_pause (s := timedOut c e s) carries

/-! ## The fills that an answer begins (R99, R133) -/

/-- What the answer of REFILL_TANK leaves with water at hand: the fill `f` of `s` runs again (R99). -/
structure FillResumed (f : Fill) (s u : State) : Prop where
  state : u.gen.state = .filling
  fill : u.gen.fill = some { f with watchdog := 0 }
  prompt : u.prompts.generator = none
  meter : u.meter = s.meter
  within : Within .steam s u

theorem refillAnswered_resumes (e : Prompt) (x : ClearReason) (state : s.gen.state = .waterWait)
    (filling : s.gen.fill = some f) (supplied : f.source = .plumbed ∨ s.tankPresent = true) :
    FillResumed f s (refillAnswered (cleared .generator e x s)) := by
  rw [refillAnswered_of_supplied (s := cleared .generator e x s) state filling supplied]
  have told := cleared_within .generator e x s
  refine ⟨?_, ?_, ?_, enterGen_meter, (told.mono rfl).trans (enterGen_within _ _ _)⟩
  · rw [enterGen_gen]; rfl
  · rw [enterGen_gen]
    exact congrArg (Option.map _) filling
  · rw [enterGen_prompts]; rfl

/-- The fill that an answer begins and that runs, with its pump or its valve (R93, R133). -/
structure FillPours (phase : ProcPhase) (src : WaterSource) (purpose : Purpose) (s u : State) : Prop where
  prompt : u.prompts.descaler = none
  phase : u.proc.phase = phase
  promptId : u.proc.promptId = none
  number : u.proc.rinseNumber = s.proc.rinseNumber
  fill : u.gen.fill = some { purpose := purpose, source := src, watchdog := 0 }
  count : u.meter.fill.map (·.pulses) = some 0
  pump : src = .tank → tankPump u = true
  valve : src = .plumbed → inletValve u = true
  within : Within .descale s u

theorem cleared_fills (phase : ProcPhase) (src : WaterSource) (purpose : Purpose) (e : Prompt) (x : ClearReason)
    (s : State) : Within .descale s (enterFill phase src purpose (cleared .descaler e x s)) :=
  ((cleared_within .descaler e x s).mono rfl).trans (enterFill_within _ _ _ _)

theorem cleared_pours (phase : ProcPhase) (purpose : Purpose) (e : Prompt) (x : ClearReason)
    (held : s.resetHeld = false) (descale : s.gen.state = .descale) (dry : s.gen.levelHighWet = false)
    (supplied : src = .plumbed ∨ s.tankPresent = true) :
    FillPours phase src purpose s (enterFill phase src purpose (cleared .descaler e x s)) := by
  have entered := fillEntered_entered phase src purpose (cleared .descaler e x s)
  have within := cleared_fills phase src purpose e x s
  rw [enterFill_runs (s := cleared .descaler e x s) dry supplied] at within ⊢
  have unheld := (within.resetHeld_eq rfl).trans held
  have state : (fillEntered phase src purpose (cleared .descaler e x s)).gen.state = .descale := by
    rw [entered.gen]; exact descale
  have fill : (fillEntered phase src purpose (cleared .descaler e x s)).gen.fill
      = some { purpose := purpose, source := src, watchdog := 0 } := by rw [entered.gen]
  exact ⟨by rw [entered.prompts]; rfl, by rw [entered.proc], by rw [entered.proc], by rw [entered.proc]; rfl, fill,
    by rw [entered.count]; rfl, fun tank => tankPump_of_tank unheld (.inr state) fill tank,
    fun piped => inletValve_of_plumbed unheld (.inr state) fill piped, within⟩

/-- The completion of a fill in DESCALE leaves the controller's entry in the prompt table. -/
theorem descaleFillDone_prompt (s : State) : (descaleFillDone s).prompts.descaler = s.prompts.descaler := by
  have recorded : SteamWork s (descaleRecorded s) := .then_meterComplete (.then_modGen (.refl s))
  have kept : (descaleRecorded s).prompts.descaler = s.prompts.descaler := recorded.prompts .descaler (by decide)
  by_cases solution : (descaleRecorded s).proc.phase = .fillSolution
  · have done : descaleFillDone s = enterHeatSoak (solutionNoted s) := if_pos solution
    rw [done, enterHeatSoak, (restartTimer_within _ _ _ _).prompts_eq rfl,
      (enterPhase_phase _ _).prompts_eq rfl, ← kept]
    rfl
  · have done : descaleFillDone s = enterDrain .rinseDrain (descaleRecorded s) := if_neg solution
    rw [done, (enterDrain_frame _ _).prompts_eq rfl, kept]

theorem enterFill_prompt_of_full (full : s.gen.levelHighWet = true) :
    (enterFill phase src purpose s).prompts.descaler = s.prompts.descaler := by
  rw [enterFill_of_full full, descaleFillDone_prompt, (fillEntered_entered phase src purpose s).prompts]

/-- The fill that an answer begins and that stalls at its start: the waiting phase asks again (R133). -/
structure FillStalls (phase : ProcPhase) (code : Nat) (s u : State) : Prop where
  phase : u.proc.phase = phase
  code : u.prompts.descaler.map (·.code) = some code
  promptId : u.proc.promptId = u.prompts.descaler.map (·.id)
  fill : u.gen.fill = none
  meter : u.meter.fill = none
  within : Within .descale s u

theorem cleared_stalls {wait : ProcPhase} (dry : s.gen.levelHighWet = false) (absent : s.tankPresent = false)
    (stall : descaleStall (fillEntered phase .tank purpose (cleared .descaler e x s))
      = enterWaiting wait (descaleEnded (fillEntered phase .tank purpose (cleared .descaler e x s)))) :
    FillStalls wait (if wait = .waitSolution then 241 else 242) s
      (enterFill phase .tank purpose (cleared .descaler e x s)) := by
  have within := cleared_fills phase .tank purpose e x s
  rw [enterFill_stalls (s := cleared .descaler e x s) dry absent, stall] at within ⊢
  have entered := enterWaiting_entered wait (descaleEnded (fillEntered phase .tank purpose (cleared .descaler e x s)))
  obtain ⟨code, id⟩ := entered.asks
  exact ⟨by rw [entered.proc], code, id, by rw [entered.gen]; rfl, by rw [entered.meter]; rfl, within⟩

theorem cleared_stalls_solution (e : Prompt) (x : ClearReason) (dry : s.gen.levelHighWet = false)
    (absent : s.tankPresent = false) :
    FillStalls .waitSolution 241 s (enterFill .fillSolution .tank .descaleSolution (cleared .descaler e x s)) :=
  cleared_stalls dry absent (descaleStall_of_solution (by rw [(fillEntered_entered _ _ _ _).proc]))

theorem cleared_stalls_rinse (e : Prompt) (x : ClearReason) (dry : s.gen.levelHighWet = false)
    (absent : s.tankPresent = false) :
    FillStalls .waitRinse 242 s (enterFill .rinseFill .tank .rinse (cleared .descaler e x s)) := by
  have entered := fillEntered_entered .rinseFill .tank .rinse (cleared .descaler e x s)
  have other : (fillEntered .rinseFill .tank .rinse (cleared .descaler e x s)).proc.phase ≠ .fillSolution := by
    rw [entered.proc]
    exact (by decide : ProcPhase.rinseFill ≠ .fillSolution)
  exact cleared_stalls dry absent
    (descaleStall_of_rinse other (f := { purpose := .rinse, source := .tank, watchdog := 0 }) (by rw [entered.gen]))

end

/-- Settles O56: an answer by the owner of the entry, a timeout by what the entry says. -/
theorem promptsAreAnsweredOrTimeOut : Obligations.PromptsAreAnsweredOrTimeOut := by
  unfold Obligations.PromptsAreAnsweredOrTimeOut
  refine ⟨fun p q id s accepts => ⟨fun late => order_answered q 0x20 accepts (ackPrompt_tooLate late),
    fun o e given entry same alone => ?acks⟩, fun o s held => ?timeouts⟩
  case acks =>
    have ⟨held, _⟩ := accepts
    have answered {t : State} (acts : ackEntry o e p s = t) :
        exec (.ackPrompt p q id) s = .next (replied p q 0x20 .done .none t) :=
      order_answered q 0x20 accepts (acts ▸ ackPrompt_acks given (ownerOfId_eq_some entry same alone))
    intro cleared' i
    refine ⟨?recipe, ?probe, ?generator, ?dry, ?full⟩
    case recipe =>
      rintro c rfl code r
      have acts := answered (ackEntry_recipe entry code)
      refine ⟨fun notice => ?_, fun recipe paused => ?_, answerActs_of_cleared fun post holds =>
        ⟨_, acts, holds, recipeAnswered_cleared_within c e (.ack p) s⟩⟩
      · rw [notice] at acts
        exact acts
      · rw [recipeAnswered_paused (s := cleared (cavityOwner c) e (.ack p) s) recipe paused] at acts
        exact acts
    case probe =>
      rintro c rfl code r r'
      have acts := answered (ackEntry_probe entry code)
      refine ⟨fun other => ?_, fun paused reason inTime => ?_⟩
      · rw [probePromptAcked_stays (s := cleared (cavityOwner c) e (.ack p) s) other] at acts
        exact acts
      · exact ⟨_, acts, probeAcked_resumes e (.ack p) paused reason inTime⟩
    case generator =>
      rintro f rfl state filling supplied
      have resumed := refillAnswered_resumes e (.ack p) state filling supplied
      exact ⟨_, answered (ackEntry_generator entry), resumed.state, resumed.fill, resumed.prompt, resumed.meter,
        resumed.within⟩
    case dry =>
      rintro rfl descale dry pours stalls
      have acts := answered (ackEntry_descaler entry)
      have runs {phase : ProcPhase} {purpose : Purpose} {src : WaterSource}
          (supplied : src = .plumbed ∨ s.tankPresent = true)
          (told : descaleAnswered (cleared .descaler e (.ack p) s)
            = enterFill phase src purpose (cleared .descaler e (.ack p) s)) : pours phase purpose src := by
        have poured := cleared_pours phase purpose e (.ack p) held descale dry supplied
        rw [told] at acts
        exact ⟨_, acts, poured.prompt, poured.phase, poured.promptId, poured.number, poured.fill, poured.count,
          poured.pump, poured.valve, poured.within⟩
      refine ⟨fun phase => ?_, fun src phase source => ?_⟩
      · have told := descaleAnswered_of_solution (s := cleared .descaler e (.ack p) s) phase
        refine ⟨fun present => runs (.inr present) told, fun absent => ?_⟩
        have stalled := cleared_stalls_solution e (.ack p) dry absent
        rw [told] at acts
        exact ⟨_, acts, stalled.phase, stalled.code, stalled.promptId, stalled.fill, stalled.meter, stalled.within⟩
      · have told := descaleAnswered_of_rinse (s := cleared .descaler e (.ack p) s) phase source
        refine ⟨fun supplied => runs supplied told, fun tank absent => ?_⟩
        subst tank
        have stalled := cleared_stalls_rinse e (.ack p) dry absent
        rw [told] at acts
        exact ⟨_, acts, stalled.phase, stalled.code, stalled.promptId, stalled.fill, stalled.meter, stalled.within⟩
    case full =>
      rintro rfl descale full
      have acts := answered (ackEntry_descaler entry)
      refine ⟨fun phase => ?_, fun src phase source => ?_⟩
      · rw [descaleAnswered_of_solution (s := cleared .descaler e (.ack p) s) phase] at acts
        exact ⟨_, acts, enterFill_prompt_of_full (s := cleared .descaler e (.ack p) s) full,
          filledAtOnce_solution (s := cleared .descaler e (.ack p) s) descale full, cleared_fills _ _ _ e _ s⟩
      · rw [descaleAnswered_of_rinse (s := cleared .descaler e (.ack p) s) phase source] at acts
        obtain ⟨filled, -⟩ := filledAtOnce_rinse (s := cleared .descaler e (.ack p) s) (src := src) held descale full
        exact ⟨_, acts, enterFill_prompt_of_full (s := cleared .descaler e (.ack p) s) full, filled,
          cleared_fills _ _ _ e _ s⟩
  case timeouts =>
    have expires := event_of_not_held (promptTimeout o) held
    refine ⟨fun untimed => expires.trans (congrArg _ (promptTimeout_of_untimed untimed)), ?_⟩
    rintro c e n rfl entry timed r cleared'
    have continues {pl : Placement} (on : e.onTimeout = some .cont) (placement : e.placement = pl) :
        exec (.promptTimeout (cavityOwner c)) s
          = .next (recipeAnswered c pl (cleared (cavityOwner c) e .timeout s)) := by
      rw [← placement, ← reportAnswer_cavity, ← promptTimeout_continues entry timed on]
      exact expires
    refine ⟨fun notice on => ?notice, fun recipe on paused => ?deferred, fun on =>
      answerActs_of_cleared fun post holds =>
        ⟨_, continues on rfl, holds, recipeAnswered_cleared_within c e .timeout s⟩,
      fun recipe on carries => ?pauses, fun on under => ?aborts⟩
    case notice =>
      rcases on with on | on
      · exact continues on notice
      · rw [promptTimeout_pausesNotice entry timed on notice, reportAnswer_cavity, notice] at expires
        exact expires
    case deferred =>
      have acts := continues on rfl
      rw [recipeAnswered_paused (s := cleared (cavityOwner c) e .timeout s) recipe paused] at acts
      exact acts
    case pauses =>
      have step : e.placement ≠ .notice := by
        rcases recipe with before | after
        · rw [before]; decide
        · rw [after]; decide
      have paused := settle_pause_timedOut (e := e) carries
      rw [promptTimeout_pauses entry timed on step] at expires
      exact ⟨_, expires, timeoutPause_prompt c e s, paused.run, paused.frozen, timeoutPause_within _ e s⟩
    case aborts =>
      obtain ⟨ended, prompt⟩ := settle_abortRun c .prompt (cleared (cavityOwner c) e .timeout s)
      have within := timeoutAbort_within (cavityOwner c) s
      rw [promptTimeout_aborts entry timed on, timeoutAbort_cavity entry under] at expires
      rw [timeoutAbort_cavity entry under] at within
      exact ⟨_, expires, prompt, ended.run, ended.queue, within⟩

end Sys2Proof.Machine
end

section
/-! SUPPORT. A sample at its sensor (R162 to R164): the record it leaves in each status, and whether it is handed on. -/

namespace Sys2Proof.Machine

section
variable {x : Sensor} {v : Option Nat} {sample : Sample} {s : State} {r r' : SensorRecord} {result : SampleResult}
  {m n : Nat}

/-! ## The record -/

theorem sampleRecord_absent (absent : r.status = .absent) : sampleRecord v r = (r, .nothing) := by
  simp only [sampleRecord, absent]

theorem sampleRecord_suspects (valid : r.status = .valid) :
    sampleRecord none r = ({ r with status := .suspect, runTime := some 0, inRange := false }, .nothing) := by
  rw [sampleRecord, valid]

theorem sampleRecord_recovers (suspect : r.status = .suspect) :
    sampleRecord (some n) r = (clearRecord n, .delivered) := by
  rw [sampleRecord, suspect]
  rfl

theorem sampleRecord_staysFaulted (faulted : r.status = .faulted) :
    sampleRecord none r = ({ r with runTime := none, inRange := false }, .nothing) := by
  rw [sampleRecord, faulted]

/-- A run time below its limit advances by a sample period (log 13). -/
theorem runTimeNow_of_lt {limit : Nat} (time : r.runTime = some m) (early : m + 250 < limit) :
    runTimeNow limit r = some (m + 250) := by
  rw [runTimeNow, time, Option.map_some]
  exact congrArg some (Nat.min_eq_right early.le)

theorem sampleRecord_staysSuspect (suspect : r.status = .suspect) (time : r.runTime = some m)
    (early : m + 250 < 1000) :
    sampleRecord none r = ({ r with runTime := some (m + 250), inRange := false }, .nothing) := by
  rw [sampleRecord, suspect]
  simp only [runTimeNow_of_lt time early]
  exact if_neg fun late => early.ne (Option.some.inj late)

theorem sampleRecord_beginsClearing (faulted : r.status = .faulted) (time : r.runTime = none) :
    sampleRecord (some n) r = ({ r with runTime := some 0, inRange := true }, .nothing) := by
  have now : runTimeNow 5000 r = none := by rw [runTimeNow, time, Option.map_none]
  rw [sampleRecord, faulted]
  simp only [now]
  exact if_neg nofun

theorem sampleRecord_countsClearing (faulted : r.status = .faulted) (time : r.runTime = some m)
    (early : m + 250 < 5000) :
    sampleRecord (some n) r = ({ r with runTime := some (m + 250), inRange := true }, .nothing) := by
  rw [sampleRecord, faulted]
  simp only [runTimeNow_of_lt time early]
  exact if_neg fun late => early.ne (Option.some.inj late)

/-! ## The sample -/

/-- A sample that brings nothing writes its sensor's record and nothing else. -/
theorem exec_sample_kept (held : s.resetHeld = false)
    (record : sampleRecord (inRangeReading x sample) (s.sensors.get x) = (r', .nothing)) :
    exec (.sensorSample x sample) s = .next { s with sensors := s.sensors.set x r' } := by
  refine (event_of_not_held (sensorSample x sample) held).trans (congrArg _ ?_)
  rw [sensorSample, record]
  rfl

/-- Whatever a sample brings, its sensor's record is as R162 to R164 give it and no other input is touched. -/
theorem sensorSample_handed (record : sampleRecord (inRangeReading x sample) (s.sensors.get x) = (r', result)) :
    (sensorSample x sample s).sensors = s.sensors.set x r'
      ∧ Within { Parts.answer with sensors := true } s (sensorSample x sample s) := by
  have written : Within { Parts.answer with sensors := true } s (withSensor x r' s) := (withSensor_within x r' s).mono rfl
  suffices hands : Within .answer (withSensor x r' s) (sensorSample x sample s) from
    ⟨hands.sensors_eq rfl, written.trans (hands.mono rfl)⟩
  rw [sensorSample, record]
  cases result
  case nothing => exact .refl _ _
  case delivered => exact deliver_within x _ _
  case faulted => exact ((within_broadcast _ rfl).mpr (.refl _ _)).trans (handFault_within x _)
  case cleared =>
    exact (((within_broadcast _ rfl).mpr (.refl _ _)).trans (handClear_within x _)).trans (deliver_within x _ _)

end

/-- Settles O52, status by status: the record decides what is written, and only a sample that brings something is handed
on. -/
theorem sampleIsJudgedByItsSensor : Obligations.SampleIsJudgedByItsSensor := by
  unfold Obligations.SampleIsJudgedByItsSensor
  intro x sample s held r top v only handed
  have judged : inRangeReading x sample = v := by
    cases sample with
    | tenths t => cases x <;> rfl
    | openOrShorted => rfl
  have keeps {w r'} (given : v = w) (record : sampleRecord w r = (r', .nothing)) : only r' :=
    exec_sample_kept held (by rwa [judged, given])
  have hands {w r' result} (given : v = w) (record : sampleRecord w r = (r', result)) : handed r' :=
    ⟨_, event_of_not_held (sensorSample x sample) held, sensorSample_handed (by rwa [judged, given])⟩
  refine ⟨fun absent => ?absent, fun n valid inside => ?valid,
    fun valid outside => keeps outside (sampleRecord_suspects valid),
    fun n suspect inside => hands inside (sampleRecord_recovers suspect),
    fun m suspect outside time => ⟨fun early => keeps outside (sampleRecord_staysSuspect suspect time early),
      fun late => hands outside (sampleRecord_fault suspect time late)⟩,
    fun faulted outside => keeps outside (sampleRecord_staysFaulted faulted),
    fun n faulted inside => ⟨fun idle => keeps inside (sampleRecord_beginsClearing faulted idle),
      fun m time => ⟨fun early => keeps inside (sampleRecord_countsClearing faulted time early),
        fun late => hands inside (sampleRecord_clear faulted time late)⟩⟩⟩
  case absent =>
    have same := keeps rfl (sampleRecord_absent absent)
    simp only [only, r, PerSensor.set_get] at same
    exact same
  case valid =>
    have record : heardRecord n r = { r with reading := some n, inRange := true } := by rw [heardRecord, ← valid]
    exact record ▸ hands inside (sampleRecord_valid valid)

end Sys2Proof.Machine
end

section
/-! SUPPORT. DOOR_OPEN and DOOR_CLOSE (R45, R64, R72, R105, R157, R166): the overlay and its removal, a suspended demand at
the generator, and the answer of a door-acknowledged entry. -/

namespace Sys2Proof.Machine

section
variable {c : Cavity} {e : Prompt} {r : Run} {s t u : State}

/-! ## A demand that is told as suspended (R94, R105) -/

/-- No window serves the cavity, and every credit is as it was (R105). -/
structure WindowShut (c : Cavity) (s t : State) : Prop where
  shut : ¬ (t.gen.state = .delivering ∧ t.gen.serving = some c)
  credit : t.gen.credit = s.gen.credit

theorem cutWindow_shut (c : Cavity) (s : State) : WindowShut c s (cutWindow c s) := by
  by_cases serving : s.gen.state = .delivering ∧ s.gen.serving = some c
  · have cut : cutWindow c s = enterGen .ready id s := if_pos serving
    rw [cut]
    refine ⟨?_, ?_⟩
    · rw [enterGen_gen]
      rintro ⟨delivering, -⟩
      exact absurd delivering (by decide : GenState.ready ≠ .delivering)
    · rw [enterGen_gen]
      rfl
  · have stays : cutWindow c s = s := if_neg serving
    rw [stays]
    exact ⟨serving, rfl⟩

theorem WindowShut.then_holdIdle (h : WindowShut c s t) : WindowShut c s (holdIdle t) := by
  unfold holdIdle
  split
  · exact ⟨h.shut, h.credit⟩
  · exact h

theorem reportOf_status (r : Run) : (reportOf r).status = demandOf r := by
  unfold reportOf
  split
  · next absent => exact absent.symm
  · rfl

/-- A demand that is suspended ends its cavity's window and keeps its credit (R105). -/
theorem syncDemand_shut (suspended : demandOf (s.runs.get c) = .suspended) : WindowShut c s (syncDemand c s) := by
  have report := (reportOf_status (s.runs.get c)).trans suspended
  unfold syncDemand
  extract_lets old new told
  apply WindowShut.then_holdIdle
  rw [show new.status = .suspended from report]
  obtain ⟨shut, credit⟩ := cutWindow_shut c told
  exact ⟨shut, credit⟩

theorem steamValve_of_shut (h : WindowShut c s t) : steamValve c t = false := by
  simpa [steamValve] using fun _ delivering serving => h.shut ⟨delivering, serving⟩

theorem settle_shut (suspended : demandOf (s.runs.get c) = .suspended) : WindowShut c s (settle c s) := by
  have w : Within .heat s (syncFreeze c (settleClimate c s)) :=
    ((settleClimate_within c s).mono rfl).trans ((syncFreeze_within c _).mono rfl)
  obtain ⟨shut, credit⟩ := syncDemand_shut (c := c) (s := syncFreeze c (settleClimate c s)) (by rwa [w.runs_eq rfl])
  exact ⟨shut, credit.trans (congrArg (·.credit) (w.gen_eq rfl))⟩

/-! ## DOOR_OPEN (R45) -/

/-- The record of a run at a door-open event (R45). -/
def doorRun (r : Run) : Run :=
  if r.state = .running ∨ r.state = .starved then { r with doorSuspended := true, doorTime := some 0 } else r

theorem doorRun_of_carries (carries : r.state = .running ∨ r.state = .starved) :
    doorRun r = { r with doorSuspended := true, doorTime := some 0 } := if_pos carries

theorem doorRun_of_other (other : ¬ (r.state = .running ∨ r.state = .starved)) : doorRun r = r := if_neg other

theorem counting_of_other (other : ¬ (r.state = .running ∨ r.state = .starved)) : counting r = false := by
  rw [not_or] at other
  simp [counting, other]

theorem counting_doorRun (r : Run) : counting (doorRun r) = false := by
  by_cases carries : r.state = .running ∨ r.state = .starved
  · simp [doorRun_of_carries carries, counting]
  · rw [doorRun_of_other carries, counting_of_other carries]

/-- The door's input with its change told, before the run follows (R166). -/
def doorMoved (c : Cavity) (isOpen : Bool) (s : State) : State :=
  broadcast (.doorChange c isOpen) { s with doorOpen := s.doorOpen.set c isOpen }

theorem doorMoved_within (c : Cavity) (isOpen : Bool) (s : State) :
    Within { Parts.run with doorOpen := true } s (doorMoved c isOpen s) :=
  (within_broadcast _ rfl).mpr ((within_set_doorOpen _ rfl).mpr (.refl _ s))

/-- The state in which the overlay of an open door has been taken up. -/
def doorHeld (c : Cavity) (s : State) : State := modRun c doorRun (doorMoved c true s)

theorem doorHeld_run (c : Cavity) (s : State) : (doorHeld c s).runs.get c = doorRun (s.runs.get c) :=
  PerCavity.get_set_self _ _ _

theorem doorOpen_of_shut (shut : s.doorOpen.get c = false) :
    doorOpen c s = doorOpenPrompt c (settle c (doorHeld c s)) := if_neg (by rw [shut]; decide)

/-- What a door-open event leaves (R45, R64, R72, R105). -/
structure DoorOpened (c : Cavity) (s t : State) : Prop where
  door : t.doorOpen = s.doorOpen.set c true
  queues : t.queues = s.queues
  run : t.runs.get c = doorRun (s.runs.get c)
  frozen : (s.runs.get c).state = .running ∨ (s.runs.get c).state = .starved → AllFrozen c t
  steam : (s.runs.get c).state = .running ∨ (s.runs.get c).state = .starved → 0 < stepSteam (s.runs.get c) →
    WindowShut c s t
  within : Within { Parts.run with doorOpen := true } s t

theorem settle_doorHeld (c : Cavity) (s : State) : DoorOpened c s (settle c (doorHeld c s)) := by
  have w := settle_within c (doorHeld c s)
  have run := doorHeld_run c s
  refine ⟨w.doorOpen_eq rfl, settle_queues c _, ?run, fun carries => settle_allFrozen ?_, fun carries steam => ?steam, ?_⟩
  case run =>
    refine (settle_run_of_not_present ?_).trans run
    rw [run]
    exact demandOf_of_not_counting (counting_doorRun _)
  case steam =>
    have under : underway (doorRun (s.runs.get c)) = true := by
      rw [doorRun_of_carries carries]
      rcases carries with e | e <;> simp [underway, e]
    have level : stepSteam (doorRun (s.runs.get c)) = stepSteam (s.runs.get c) := by
      rw [doorRun_of_carries carries]
      rfl
    have suspended : demandOf ((doorHeld c s).runs.get c) = .suspended := by
      rw [run, demandOf, if_pos ⟨under, level ▸ steam⟩, counting_doorRun]
      rfl
    obtain ⟨shut, credit⟩ := settle_shut suspended
    exact ⟨shut, credit⟩
  · rw [freezeCondition, run, doorRun_of_carries carries]
    rfl
  · exact ((doorMoved_within c true s).trans ((within_modRun c _ rfl).mpr (.refl _ _))).trans (w.mono rfl)

/-- The mark that the door leaves on its cavity's entry changes nothing of the run (R157). -/
theorem DoorOpened.then_prompt (h : DoorOpened c s t) : DoorOpened c s (doorOpenPrompt c t) := by
  have w := doorOpenPrompt_within c t
  refine ⟨(w.doorOpen_eq rfl).trans h.door, (w.queues_eq rfl).trans h.queues, by rw [w.runs_eq rfl, h.run],
    fun carries => ?_, fun carries steam => ?_, h.within.trans (w.mono rfl)⟩
  · rw [AllFrozen, w.timers_eq rfl]
    exact h.frozen carries
  · obtain ⟨shut, credit⟩ := h.steam carries steam
    exact ⟨by rwa [w.gen_eq rfl], by rw [w.gen_eq rfl, credit]⟩

/-! ## DOOR_CLOSE (R45) -/

/-- The record of a run without the overlay of its door. -/
def liftedRun (r : Run) : Run := { r with doorSuspended := false, doorTime := none }

/-- The state in which a closed door's overlay is lifted and the run has handed it over. -/
def doorLifted (c : Cavity) (s : State) : State := doorLift c (doorMoved c false s)

theorem doorClose_of_open (isOpen : s.doorOpen.get c = true) : doorClose c s = doorClosePrompt c (doorLifted c s) :=
  if_pos isOpen

/-- What the removal of the door's overlay leaves (R45, R64). -/
structure DoorLifted (c : Cavity) (s u : State) : Prop where
  door : u.doorOpen = s.doorOpen.set c false
  queues : u.queues = s.queues
  run : SameRun (u.runs.get c) (liftedRun (s.runs.get c))
  prompt : u.prompts.get (cavityOwner c) = s.prompts.get (cavityOwner c)
  reached : (u.climates.get c).loop.map (·.reached) = (s.climates.get c).loop.map (·.reached)
  thawed : (s.runs.get c).state ≠ .paused → s.limitLatch.get c = false →
    ∀ l ∈ [topOf c, bottomOf c, ringOf c], (u.timers.get l).frozen = false
  within : Within { Parts.run with doorOpen := true } s u

theorem doorLifted_lifted (c : Cavity) (s : State) : DoorLifted c s (doorLifted c s) := by
  have run : (modRun c liftedRun (doorMoved c false s)).runs.get c = liftedRun (s.runs.get c) :=
    PerCavity.get_set_self _ _ _
  have settled : doorLifted c s = settle c (modRun c liftedRun (doorMoved c false s)) := rfl
  have w := settle_within c (modRun c liftedRun (doorMoved c false s))
  rw [settled]
  refine ⟨w.doorOpen_eq rfl, settle_queues c _, ?_, settle_prompt c _, settle_reached c _,
    fun moving unlatched l mem => settle_thawed ?_ mem, ?_⟩
  · rw [← run]
    exact settle_run c _
  · have still : (liftedRun (s.runs.get c)).state ≠ .paused := moving
    rw [freezeCondition, run, decide_eq_false still]
    exact unlatched
  · exact ((doorMoved_within c false s).trans ((within_modRun c _ rfl).mpr (.refl _ _))).trans (w.mono rfl)

/-- A door that closes on no entry that it answers leaves the prompt table (R157). -/
theorem doorClosePrompt_unanswered
    (h : ∀ e, s.prompts.get (cavityOwner c) = some e → e.doorAck = false ∨ e.doorOpened = false) :
    doorClosePrompt c s = s := by
  unfold doorClosePrompt
  split
  · next e entry =>
    refine if_neg ?_
    rintro ⟨ack, opened⟩
    rcases h e entry with none | none
    · exact absurd (ack.symm.trans none) (by decide)
    · exact absurd (opened.symm.trans none) (by decide)
  · rfl

/-- A door-acknowledged entry, opened since it was raised, is answered (R157). -/
theorem doorClosePrompt_answers (entry : s.prompts.get (cavityOwner c) = some e) (ack : e.doorAck = true)
    (opened : e.doorOpened = true) :
    doorClosePrompt c s = recipeAnswered c e.placement (cleared (cavityOwner c) e .door s) := by
  rw [doorClosePrompt, entry]
  exact (if_pos ⟨ack, opened⟩).trans ((answerPrompt_of_entry entry _).trans (reportAnswer_cavity c e _))

/-! ## The answer after the overlay's removal (log 16) -/

/-- What an answer does in `u` it does in `s`, where `u` differs in what the removal of the overlay changes. -/
theorem AnswerActs.of_lifted {happens : (State → Prop) → Prop} (acts : AnswerActs c e (u.runs.get c) u happens)
    (h : DoorLifted c s u) (weaken : ∀ P Q : State → Prop, (∀ t, P t → Q t) → happens P → happens Q) :
    AnswerActs c e (liftedRun (s.runs.get c)) s happens := by
  have reading : cavityReading c u = cavityReading c s := h.within.cavityReading_eq c ⟨rfl, rfl⟩
  have settings := h.within.settings_eq rfl
  have queue : u.queues.get c = s.queues.get c := by rw [h.queues]
  have opened : (u.runs.get c).opened = (s.runs.get c).opened := by rw [h.run.eq_with]; rfl
  have same := h.run.eq_with
  obtain ⟨before, after⟩ := acts
  rw [same, reading] at before
  rw [reading, settings, queue] at after
  refine ⟨before, fun placement running phase => ?_⟩
  obtain ⟨enters, finishes, starves⟩ := after placement (by rw [same]; exact running) (by rw [same]; exact phase)
  refine ⟨enters, fun q' idle closed walks => weaken _ _ (fun t finished => ?finished)
      (finishes q' (by rw [same]; exact idle) (by rw [same]; exact closed) walks),
    fun q' f idle unclosed feeder walks => weaken _ _ (fun t starved => ?starved)
      (starves q' f (by rw [same]; exact idle) (by rw [same]; exact unclosed) (by rw [same]; exact feeder) walks)⟩
  case finished =>
    obtain ⟨run, emptied⟩ := finished
    exact ⟨by rwa [← opened], by rwa [← queue]⟩
  case starved =>
    obtain ⟨run, climate, told, full, room⟩ := starved
    refine ⟨run.trans ?_, climate.trans ?_, fun p => ?_, full, room⟩
    · rw [same]; rfl
    · simpa [Function.comp_def] using congrArg (Option.map fun _ => true) h.reached
    · have posted := told p
      rw [same] at posted
      exact posted

/-- What the answer of a door's entry leaves of a run whose record it leaves, but for a deferred answer (R32). -/
structure DoorAnswered (c : Cavity) (e : Prompt) (r : Run) (s t : State) : Prop where
  run : SameRun (t.runs.get c) r
  prompt : t.prompts.get (cavityOwner c) = none
  queues : t.queues = s.queues
  posted : ∀ p, Posted (.promptCleared (cavityOwner c) e.code e.id .door) p t

theorem cleared_answered (e : Prompt) (h : DoorLifted c s u) :
    DoorAnswered c e (liftedRun (s.runs.get c)) s (cleared (cavityOwner c) e .door u) :=
  ⟨h.run, cleared_get _ e _ u, h.queues, fun p => posted_broadcast _ p _⟩

/-- An answer while PAUSED is deferred (R32). -/
theorem DoorLifted.defers (h : DoorLifted c s u) (recipe : e.placement = .before ∨ e.placement = .after)
    (paused : (s.runs.get c).state = .paused) :
    DoorAnswered c e { liftedRun (s.runs.get c) with deferred := true } s
      (recipeAnswered c e.placement (cleared (cavityOwner c) e .door u)) := by
  have still : (u.runs.get c).state = .paused := by
    rw [h.run.eq_with]
    exact paused
  have answered := cleared_answered e h
  rw [recipeAnswered_paused (s := cleared (cavityOwner c) e .door u) recipe still]
  refine ⟨?_, answered.prompt, answered.queues, answered.posted⟩
  rw [modRun_runs, PerCavity.get_set_self]
  exact congrArg (fun x : Run => { x with deferred := true }) answered.run

/-- The answer of a NOTICE has no effect on the run (R32). -/
theorem DoorLifted.notices (h : DoorLifted c s u) (notice : e.placement = .notice) :
    DoorAnswered c e (liftedRun (s.runs.get c)) s
      (recipeAnswered c e.placement (cleared (cavityOwner c) e .door u)) := by
  rw [notice]
  exact cleared_answered e h

/-! ## The events -/

/-- DOOR_OPEN at a door that was shut (R45, R166). -/
theorem exec_doorOpen (held : s.resetHeld = false) (shut : s.doorOpen.get c = false) :
    ∃ t, exec (.doorOpen c) s = .next t ∧ DoorOpened c s t :=
  ⟨_, (event_of_not_held (doorOpen c) held).trans (congrArg _ (doorOpen_of_shut shut)), (settle_doorHeld c s).then_prompt⟩

theorem DoorOpened.fan_off (h : DoorOpened c s t) : fanLevel c t = .off :=
  fanLevel_of_not_counting (by rw [h.run, counting_doorRun])

/-- DOOR_CLOSE: the prompt table follows in the state that the removal of the overlay leaves (R166). -/
theorem exec_doorClose (held : s.resetHeld = false) (isOpen : s.doorOpen.get c = true) :
    ∃ u, exec (.doorClose c) s = .next (doorClosePrompt c u) ∧ DoorLifted c s u :=
  ⟨doorLifted c s, (event_of_not_held (doorClose c) held).trans (congrArg _ (doorClose_of_open isOpen)),
    doorLifted_lifted c s⟩

end

end Sys2Proof.Machine
end

section
/-! SUPPORT. PROBE_INSERTION and PROBE_REMOVAL (R49, R157, R165), and the statement on the door and probe events. -/

namespace Sys2Proof.Machine

section
variable {c : Cavity} {r : Run} {s t u : State} {step : CurrentStep}

/-- The probe's input with its change told and the core sensor's record begun afresh, before the run follows (R165). -/
def probeMoved (c : Cavity) (present : Bool) (status : SensorStatus) (s : State) : State :=
  broadcast (.probeChange c present)
    (modSensor (coreSensor c) (fun k => { k with status := status, reading := none, runTime := none })
      { s with probePresent := s.probePresent.set c present })

theorem probeMoved_within (c : Cavity) (present : Bool) (status : SensorStatus) (s : State) :
    Within { Parts.run with sensors := true, probePresent := true } s (probeMoved c present status s) :=
  (within_broadcast _ rfl).mpr ((within_modSensor _ _ rfl).mpr ((within_set_probePresent _ rfl).mpr (.refl _ s)))

theorem probeInsertion_of_absent (absent : s.probePresent.get c = false) :
    probeInsertion c s = probeAnswer c (probeFound c (probeMoved c true .valid s)) := if_neg (by rw [absent]; decide)

theorem probeRemoval_of_present (present : s.probePresent.get c = true) :
    probeRemoval c s = probeLost c (probeMoved c false .absent s) := if_pos present

/-! ## The frame of the two events -/

/-- What every probe event leaves: its input and the core sensor's record changed, and the parts a run can reach. -/
structure ProbeMoved (c : Cavity) (present : Bool) (status : SensorStatus) (s t : State) : Prop where
  present : t.probePresent = s.probePresent.set c present
  sensors : t.sensors = s.sensors.set (coreSensor c)
    { s.sensors.get (coreSensor c) with status := status, reading := none, runTime := none }
  within : Within { Parts.run with sensors := true, probePresent := true } s t

theorem Within.probePresent_eq {f : Parts} (w : Within f s t) (k : f.probePresent = false) :
    t.probePresent = s.probePresent := by
  obtain ⟨-, -, -, -, -, -, -, -, -, -, -, -, -, -, -, -, -, h, -⟩ := w
  exact h k

theorem probeMoved_moved (c : Cavity) (present : Bool) (status : SensorStatus) (s : State) :
    ProbeMoved c present status s (probeMoved c present status s) := ⟨rfl, rfl, probeMoved_within c present status s⟩

theorem ProbeMoved.then_within {present : Bool} {status : SensorStatus} (h : ProbeMoved c present status s t)
    (w : Within .run t u) : ProbeMoved c present status s u :=
  ⟨(w.probePresent_eq rfl).trans h.present, (w.sensors_eq rfl).trans h.sensors, h.within.trans (w.mono rfl)⟩

/-! ## The probe found -/

theorem probeFound_run (c : Cavity) (s : State) :
    ∃ core, (probeFound c s).runs.get c = { s.runs.get c with coreCond := core } := by
  unfold probeFound
  extract_lets r
  split
  · exact ⟨_, PerCavity.get_set_self _ _ _⟩
  · exact ⟨_, rfl⟩

/-- The answer of INSERT_PROBE leaves every run where the cavity's is not PAUSED. -/
theorem probeAnswer_runs (moving : (s.runs.get c).state ≠ .paused) : (probeAnswer c s).runs = s.runs := by
  by_cases asks : AsksProbe c s
  · have runs := (removePrompt_within (cavityOwner c) .probe s).runs_eq rfl
    have stays : probeAnswer c s = removePrompt (cavityOwner c) .probe s := by
      rw [probeAnswer_of_asked asks]
      refine if_neg ?_
      rw [runs]
      exact fun ⟨paused, _⟩ => moving paused
    rw [stays, runs]
  · rw [probeAnswer_of_not_asked asks]

theorem asksProbe_of_code {e : Prompt} (entry : s.prompts.get (cavityOwner c) = some e) (code : e.code = 243) :
    AsksProbe c s := by
  rw [AsksProbe, entry, Option.map_some, code]

/-- The state in which an inserted probe is told and a step with a core target goes by it again (R49). -/
def probeInserted (c : Cavity) (s : State) : State := probeFound c (probeMoved c true .valid s)

theorem probeInserted_live (acts : probeStep (s.runs.get c) = true)
    (cond : (s.runs.get c).coreCond = some .suspended ∨ (s.runs.get c).coreCond = some .waitingProbe) :
    (probeInserted c s).runs.get c = { s.runs.get c with coreCond := some .live } := by
  rw [probeInserted, probeFound_live (s := probeMoved c true .valid s) acts cond]
  exact PerCavity.get_set_self _ _ _

theorem probeInserted_run (c : Cavity) (s : State) :
    ∃ core, (probeInserted c s).runs.get c = { s.runs.get c with coreCond := core } :=
  probeFound_run c (probeMoved c true .valid s)

theorem probeInserted_asks (asks : AsksProbe c s) : AsksProbe c (probeInserted c s) := by
  rw [AsksProbe, probeInserted, (probeFound_within c _).prompts_eq rfl]
  exact asks

theorem exec_probeInsertion (held : s.resetHeld = false) (absent : s.probePresent.get c = false) :
    exec (.probeInsertion c) s = .next (probeAnswer c (probeInserted c s))
      ∧ ProbeMoved c true .valid s (probeAnswer c (probeInserted c s)) :=
  ⟨(event_of_not_held (probeInsertion c) held).trans (congrArg _ (probeInsertion_of_absent absent)),
    (probeMoved_moved c true .valid s).then_within
      (((probeFound_within c _).mono rfl).trans (probeAnswer_within c _))⟩

/-- An insertion resumes a run PAUSED for its probe (R39, R49). -/
theorem probeInserted_resumes (asks : AsksProbe c s) (acts : probeStep (s.runs.get c) = true)
    (cond : (s.runs.get c).coreCond = some .waitingProbe) (paused : (s.runs.get c).state = .paused)
    (reason : (s.runs.get c).pauseReason = some .probe) (inTime : ResumesInTime (s.runs.get c) s) :
    let t := probeAnswer c (probeInserted c s)
    SameRun (t.runs.get c) (resumedRun c { s.runs.get c with coreCond := some .live } s)
      ∧ t.prompts.get (cavityOwner c) = none := by
  intro t
  have run := probeInserted_live acts (.inr cond)
  have w : Within { Parts.run with sensors := true, probePresent := true } s (probeInserted c s) :=
    (probeMoved_within c true .valid s).trans ((probeFound_within c _).mono rfl)
  have back := probeAnswer_resumes (probeInserted_asks asks) (by rwa [run]) (by rwa [run])
    (by rw [run, ResumesInTime, w.settings_eq rfl]; exact inTime)
  have returned := back.run
  rw [run, resumedRun, w.doorOpen_eq rfl, w.mains_eq rfl] at returned
  exact ⟨returned, back.prompt (probeInserted_asks asks)⟩

/-! ## The probe lost -/

/-- What the loss of its probe makes of the step that a run `r` goes by (R49). -/
structure ProbeLost (c : Cavity) (r : Run) (step : CurrentStep) (t : State) : Prop where
  timed : step.action.duration ≠ none → t.runs.get c = { r with coreCond := some .suspended }
  untimed : step.action.duration = none →
    (t.prompts.get (cavityOwner c)).map (·.code) = some 243
      ∧ (r.state = .running → t.runs.get c = pausedRun { r with coreCond := some .waitingProbe } .probe)
      ∧ (r.state = .paused → t.runs.get c = { r with coreCond := some .waitingProbe })

theorem probeLost_lost (state : (s.runs.get c).state = .running ∨ (s.runs.get c).state = .paused)
    (current : (s.runs.get c).current = some step) (core : step.action.core ≠ none)
    (phase : (s.runs.get c).phase = some .heatup ∨ (s.runs.get c).phase = some .hold)
    (live : (s.runs.get c).coreCond = some .live) : ProbeLost c (s.runs.get c) step (probeLost c s) := by
  have acts := probeStep_of_core state current core phase
  refine ⟨fun timed => ?suspends, fun untimed => ?asks⟩
  case suspends =>
    rw [probeLost_suspends acts live current timed, modRun_runs, PerCavity.get_set_self]
  case asks =>
    obtain ⟨pauses, waits⟩ := probeLost_asks acts live current untimed
    have asked := probeAsked_waits c s
    rcases state with running | paused
    · rw [pauses running]
      have held := asked.then_pause running
      exact ⟨held.code, fun _ => held.run, fun other => absurd (running.symm.trans other) (by decide)⟩
    · rw [waits paused]
      exact ⟨asked.code, fun other => absurd (paused.symm.trans other) (by decide), fun _ => asked.run⟩

theorem exec_probeRemoval (held : s.resetHeld = false) (present : s.probePresent.get c = true) :
    exec (.probeRemoval c) s = .next (probeLost c (probeMoved c false .absent s))
      ∧ ProbeMoved c false .absent s (probeLost c (probeMoved c false .absent s)) :=
  ⟨(event_of_not_held (probeRemoval c) held).trans (congrArg _ (probeRemoval_of_present present)),
    (probeMoved_moved c false .absent s).then_within (probeLost_within c _)⟩

end

/-- Settles O54: the overlay and its removal by `DoorOpened` and `DoorLifted`, the answer of a door's entry in the state
that the removal leaves, and the probe by `ProbeMoved` and what its return or loss makes of the step. -/
theorem doorAndProbeEventsMoveTheRun : Obligations.DoorAndProbeEventsMoveTheRun := by
  unfold Obligations.DoorAndProbeEventsMoveTheRun
  refine ⟨fun c s held => ?door, fun c s held => ?probe⟩
  case door =>
    intro r
    refine ⟨fun isOpen => (event_of_not_held (doorOpen c) held).trans (congrArg _ (if_pos isOpen)),
      fun shut => (event_of_not_held (doorClose c) held).trans (congrArg _ (if_neg (by rw [shut]; decide))),
      fun shut => ?opens, fun isOpen unanswered => ?lifts, fun e isOpen entry ack opened => ?answers⟩
    case opens =>
      obtain ⟨t, exec, opened⟩ := exec_doorOpen held shut
      refine ⟨t, exec, opened.door, opened.queues, opened.fan_off, fun carries => ⟨?_, opened.frozen carries, fun steam => ?_⟩,
        fun other => ?_, opened.within⟩
      · rw [opened.run, doorRun_of_carries carries]
      · have shut := opened.steam carries steam
        exact ⟨steamValve_of_shut shut, shut.credit⟩
      · rw [opened.run, doorRun_of_other (by simpa using other)]
    case lifts =>
      obtain ⟨u, exec, lifted⟩ := exec_doorClose held isOpen
      rw [doorClosePrompt_unanswered (by rwa [lifted.prompt])] at exec
      exact ⟨u, exec, lifted.door, lifted.queues, lifted.run, lifted.thawed, lifted.within⟩
    case answers =>
      intro run closes gone
      obtain ⟨u, exec, lifted⟩ := exec_doorClose held isOpen
      rw [doorClosePrompt_answers (lifted.prompt.trans entry) ack opened] at exec
      have closed {post : State → Prop}
          (holds : post (recipeAnswered c e.placement (cleared (cavityOwner c) e .door u))) : closes post := by
        have w := recipeAnswered_cleared_within c e .door u
        exact ⟨_, exec, (w.doorOpen_eq rfl).trans lifted.door, holds, lifted.within.trans (w.mono rfl)⟩
      refine ⟨AnswerActs.of_lifted (answerActs_of_cleared fun _ => closed) lifted ?_,
        fun recipe paused => closed ?deferred, fun notice => closed ?notice⟩
      · rintro P Q weaker ⟨t, exec, door, holds, within⟩
        exact ⟨t, exec, door, weaker t holds, within⟩
      case deferred =>
        have answered := lifted.defers recipe paused
        exact ⟨answered.run, answered.prompt, answered.queues, answered.posted⟩
      case notice =>
        have answered := lifted.notices notice
        exact ⟨answered.run, answered.prompt, answered.queues, answered.posted⟩
  case probe =>
    intro r k
    refine ⟨fun present => (event_of_not_held (probeInsertion c) held).trans (congrArg _ (if_pos present)),
      fun absent => (event_of_not_held (probeRemoval c) held).trans (congrArg _ (if_neg (by rw [absent]; decide))),
      fun absent => ?inserts, fun present => ?removes⟩
    case inserts =>
      obtain ⟨exec, moved⟩ := exec_probeInsertion held absent
      refine ⟨_, exec, moved.present, moved.sensors, ?live, ?answers, ?resumes, moved.within⟩
      case live =>
        rintro running ⟨step, current, core⟩ phase cond
        have run := probeInserted_live (probeStep_of_core (.inl running) current core phase) cond
        rw [probeAnswer_runs, run]
        rw [run]
        exact fun paused => absurd (running.symm.trans paused) (by decide)
      case answers =>
        intro e entry code moving
        obtain ⟨core, run⟩ := probeInserted_run c s
        have back := probeAnswer_stays (c := c) (s := probeInserted c s)
          fun ⟨_, paused, _⟩ => moving (by rwa [run] at paused)
        exact back.prompt (probeInserted_asks (asksProbe_of_code entry code))
      case resumes =>
        intro e step entry code paused reason current core phase cond inTime
        exact probeInserted_resumes (asksProbe_of_code entry code) (probeStep_of_core (.inr paused) current core phase)
          cond paused reason inTime
    case removes =>
      obtain ⟨exec, moved⟩ := exec_probeRemoval held present
      refine ⟨_, exec, moved.present, moved.sensors, fun step state current core phase live => ?_, moved.within⟩
      have lost := probeLost_lost (s := probeMoved c false .absent s) state current core phase live
      exact ⟨lost.timed, lost.untimed⟩

end Sys2Proof.Machine
end

section
/-! SUPPORT. `Unpowered s`: mains-low stands and no load is granted (R82). While a cavity's run counts no time, what it
hands over keeps this: every load that leaves, asks or thaws meets no grant decision. -/

namespace Sys2Proof.Machine

/-- Mains-low is present and no load is granted. -/
structure Unpowered (s : State) : Prop where
  low : s.mains.low = true
  idle : ∀ l, s.arbiter.get l ≠ .granted

section
variable {c : Cavity} {l : Load} {s t : State}

theorem Unpowered.then_within {g : Parts} (h : Unpowered s) (w : Within g s t) (k : Parts.offPower.covers g = true) :
    Unpowered t := by
  have within := w.mono k
  exact ⟨by rw [within.mains_eq rfl, h.low], by rw [within.arbiter_eq rfl]; exact h.idle⟩

theorem Unpowered.ite {p : Prop} [Decidable p] (hs : Unpowered s) (ht : Unpowered t) : Unpowered (if p then s else t) := by
  split
  · exact hs
  · exact ht

theorem Unpowered.output_off (h : Unpowered s) (l : Load) : loadOutput l s = false :=
  Bool.eq_false_iff.mpr fun on =>
    have ⟨granted, _⟩ := granted_of_loadOutput on
    h.idle l granted

/-! ## The power chain (R75 to R77, R82) -/

theorem Unpowered.then_setStatus {x : LoadStatus} (h : Unpowered s) (other : x ≠ .granted) :
    Unpowered (setStatus l x s) := by
  refine ⟨h.low, fun j => ?_⟩
  rw [setStatus_arbiter, PerLoad.get_set]
  split
  · exact other
  · exact h.idle j

theorem Unpowered.then_request (h : Unpowered s) : Unpowered (request l s) := by
  have waits : Unpowered (setStatus l .waiting s) := h.then_setStatus (by decide)
  rwa [request, grantDecision_of_low waits.low]

theorem Unpowered.then_leave (h : Unpowered s) : Unpowered (leave l s) := by
  have left : Unpowered (setStatus l .none s) := h.then_setStatus (by decide)
  rw [leave, grantDecision_of_low left.low]
  exact .ite h left

/-! ## Drive timers and pairs -/

theorem Unpowered.then_modTimer {f : Timer → Timer} (h : Unpowered s) : Unpowered (modTimer l f s) := ⟨h.low, h.idle⟩

theorem Unpowered.then_modPair {f : Pair → Pair} (h : Unpowered s) : Unpowered (modPair c f s) := ⟨h.low, h.idle⟩

theorem Unpowered.then_setInterval {i : Interval} {x : Option Nat} (h : Unpowered s) : Unpowered (setInterval l i x s) :=
  h.then_modTimer

theorem Unpowered.then_setHolds {m n : Nat} (h : Unpowered s) : Unpowered (setHolds l m n s) := h.then_modTimer

theorem Unpowered.then_startOn {n : Nat} (h : Unpowered s) : Unpowered (startOn l n s) := h.then_setInterval.then_request

theorem Unpowered.then_beginOn (h : Unpowered s) : Unpowered (beginOn l s) :=
  .ite h.then_startOn (.ite h.then_setInterval h.then_setInterval)

theorem Unpowered.then_beginPair {x : PairPosition} (h : Unpowered s) : Unpowered (beginPair c x s) := by
  unfold beginPair
  extract_lets top bottom off turn placed
  have places : Unpowered placed := h.then_modPair
  refine .ite (.then_modPair (.then_setInterval h.then_setInterval)) ?_
  clear_value turn
  cases turn
  · exact places.then_setInterval.then_startOn
  · exact places.then_setInterval.then_startOn
  · exact places.then_setInterval.then_setInterval

theorem Unpowered.then_wakePair (h : Unpowered s) : Unpowered (wakePair c s) := .ite h.then_beginPair h

theorem Unpowered.then_freezeTimer (h : Unpowered s) : Unpowered (freezeTimer l s) := .ite h h.then_modTimer.then_leave

theorem Unpowered.then_thawTimer {b : Bool} (h : Unpowered s) : Unpowered (thawTimer l b s) := by
  unfold thawTimer
  extract_lets timer thawed
  have thaws : Unpowered thawed := h.then_modTimer
  refine .ite ?_ h
  split
  · exact thaws.then_setInterval.then_request
  · exact thaws.then_setInterval.then_request
  · exact thaws
  · exact .ite thaws.then_beginOn thaws

theorem Unpowered.then_syncFreeze (h : Unpowered s) : Unpowered (syncFreeze c s) :=
  .ite h.then_freezeTimer.then_freezeTimer.then_freezeTimer
    (.ite h.then_thawTimer.then_thawTimer.then_wakePair.then_thawTimer h)

/-! ## The generator at a demand that is not present (R94, R99, R105) -/

theorem Unpowered.then_heatInstruction {g : GenState} (h : Unpowered s) : Unpowered (heatInstruction g s) := by
  have written {m n : Nat} : Unpowered (setHolds .genHeat m n s) := h.then_setHolds
  cases g
  case heating | delivering | ready => exact .ite written.then_beginOn written
  all_goals exact written.then_setInterval.then_leave

theorem Unpowered.then_enterGen {g : GenState} {prep : Gen → Gen} (h : Unpowered s) : Unpowered (enterGen g prep s) := by
  have prepared : Unpowered (modGen (fun x => prep (genFields g x)) s) := ⟨h.low, h.idle⟩
  have entered : Unpowered (enteredGen g prep s) := prepared.then_heatInstruction
  exact entered.then_within (enterGen_from_entered g prep s) rfl

theorem Unpowered.then_abandonFill (h : Unpowered s) : Unpowered (abandonFill s) := by
  have ended : Unpowered (meterIncomplete s) := h.then_within (meterIncomplete_within s) rfl
  have cancelled := ended.then_within (cancelPrompt_within .generator _) rfl
  exact .ite ⟨cancelled.low, cancelled.idle⟩ h

theorem Unpowered.then_dropWait (h : Unpowered s) : Unpowered (dropWait s) := .ite h.then_abandonFill.then_enterGen h

theorem Unpowered.then_cutWindow (h : Unpowered s) : Unpowered (cutWindow c s) := .ite h.then_enterGen h

theorem Unpowered.then_syncDemand (h : Unpowered s) (waits : demandOf (s.runs.get c) ≠ .present) :
    Unpowered (syncDemand c s) := by
  unfold syncDemand
  extract_lets old new told
  have tells : Unpowered told := ⟨h.low, h.idle⟩
  have quiet : new.status ≠ .present := by
    rw [show new.status = demandOf (s.runs.get c) from reportOf_status _]
    exact waits
  have idles {u : State} (k : Unpowered u) : Unpowered (holdIdle u) := .ite ⟨k.low, k.idle⟩ k
  apply idles
  split
  · have unpaid : Unpowered (setCredit c 0 told) := ⟨tells.low, tells.idle⟩
    exact .ite tells unpaid.then_cutWindow.then_dropWait
  · exact tells.then_cutWindow
  · next status => exact absurd status quiet

/-- What a run that counts no time hands over grants no load. -/
theorem Unpowered.then_settle (h : Unpowered s) (still : counting (s.runs.get c) = false) : Unpowered (settle c s) := by
  have unowed : settleClimate c s = s := if_neg (by rw [still]; simp)
  rw [settle, unowed]
  refine h.then_syncFreeze.then_syncDemand ?_
  rw [(syncFreeze_within c s).runs_eq rfl]
  exact demandOf_of_not_counting still

end

end Sys2Proof.Machine
end

section
/-! SUPPORT. LIMIT_TRIP, LIMIT_RELEASE and CLEAR_LIMIT (R48, R64, R168, R169). -/

namespace Sys2Proof.Machine

section
variable {c : Cavity} {s t : State}

theorem Within.limitActive_eq {f : Parts} (w : Within f s t) (k : f.limitActive = false) :
    t.limitActive = s.limitActive := by
  obtain ⟨-, -, -, -, -, -, -, -, -, -, -, -, -, -, -, -, -, -, h, -⟩ := w
  exact h k

theorem freezeCondition_of_latch (latched : s.limitLatch.get c = true) : freezeCondition c s = true := by
  simp [freezeCondition, latched]

/-- The state in which a limit's trip is latched and told, before the run follows (R168). -/
def limitTold (c : Cavity) (s : State) : State :=
  broadcast (.limitTrip c)
    { s with limitActive := s.limitActive.set c true, limitLatch := s.limitLatch.set c true }

theorem limitTold_within (c : Cavity) (s : State) :
    Within { Parts.run with limitActive := true, limitLatch := true } s (limitTold c s) := by
  have active : Within { Parts.run with limitActive := true, limitLatch := true } s
      { s with limitActive := s.limitActive.set c true } := (within_set_limitActive _ rfl).mpr (.refl _ s)
  exact (within_broadcast _ rfl).mpr ((within_set_limitLatch _ rfl).mpr active)

theorem limitTrip_of_inactive (inactive : s.limitActive.get c = false) :
    limitTrip c s = settle c (abortInProgress c .limit (limitTold c s)) := if_neg (by rw [inactive]; decide)

/-- What a limit's trip leaves (R48, R64, R168). -/
structure LimitTripped (c : Cavity) (s t : State) : Prop where
  active : t.limitActive = s.limitActive.set c true
  latch : t.limitLatch = s.limitLatch.set c true
  frozen : AllFrozen c t
  aborts : inProgress (s.runs.get c) = true →
    t.runs.get c = abortedRun (s.runs.get c) .limit ∧ t.queues.get c = emptied (s.queues.get c)
      ∧ t.prompts.get (cavityOwner c) = none
  keeps : inProgress (s.runs.get c) = false → t.runs.get c = s.runs.get c
  within : Within { Parts.run with limitActive := true, limitLatch := true } s t

theorem underway_of_not_inProgress {r : Run} (h : inProgress r = false) : underway r = false := by
  rw [inProgress, Bool.or_eq_false_iff] at h
  obtain ⟨-, rests⟩ := h
  exact rests

theorem settle_limitTold (c : Cavity) (s : State) :
    LimitTripped c s (settle c (abortInProgress c .limit (limitTold c s))) := by
  have aborted := abortInProgress_within c .limit (limitTold c s)
  have w := aborted.trans (settle_within c _)
  refine ⟨w.limitActive_eq rfl, w.limitLatch_eq rfl, settle_allFrozen (freezeCondition_of_latch ?latched),
    fun progress => ?aborts, fun rests => ?keeps, (limitTold_within c s).trans (w.mono rfl)⟩
  case latched =>
    rw [aborted.limitLatch_eq rfl]
    exact PerCavity.get_set_self _ _ _
  case aborts =>
    have aborts : abortInProgress c .limit (limitTold c s) = abortRun c .limit (limitTold c s) := if_pos progress
    obtain ⟨ended, prompt⟩ := settle_abortRun c .limit (limitTold c s)
    rw [aborts]
    exact ⟨ended.run, ended.queue, prompt⟩
  case keeps =>
    have stays : abortInProgress c .limit (limitTold c s) = limitTold c s :=
      if_neg (Bool.eq_false_iff.mp rests)
    have absent : demandOf ((limitTold c s).runs.get c) = .absent :=
      demandOf_of_not_underway (underway_of_not_inProgress rests)
    rw [stays, settle_run_of_not_present (by rw [absent]; decide)]
    rfl

/-! ## CLEAR_LIMIT (R169) -/

theorem clearLimit_denied (active : s.limitActive.get c = true) : clearLimit c s = (s, .state, .none) := if_pos active

/-- The state in which a limit's latch is cleared, before the timers follow. -/
def unlatched (c : Cavity) (s : State) : State := { s with limitLatch := s.limitLatch.set c false }

theorem clearLimit_clears (inactive : s.limitActive.get c = false) :
    clearLimit c s = (settle c (unlatched c s), .done, .none) := if_neg (by rw [inactive]; decide)

theorem settle_unlatched_thawed {l : Load} (shut : (s.runs.get c).doorSuspended = false)
    (moving : (s.runs.get c).state ≠ .paused) (mem : l ∈ [topOf c, bottomOf c, ringOf c]) :
    ((settle c (unlatched c s)).timers.get l).frozen = false := by
  refine settle_thawed ?_ mem
  have door : ((unlatched c s).runs.get c).doorSuspended = false := shut
  have state : ((unlatched c s).runs.get c).state ≠ .paused := moving
  have clear : (unlatched c s).limitLatch.get c = false := PerCavity.get_set_self _ _ _
  rw [freezeCondition, door, decide_eq_false state, clear]
  rfl

theorem settle_unlatched_within (c : Cavity) (s : State) :
    Within { Parts.run with limitLatch := true } s (settle c (unlatched c s)) :=
  ((within_set_limitLatch _ rfl).mpr (.refl _ s)).trans ((settle_within c _).mono rfl)

end

end Sys2Proof.Machine
end

section
/-! SUPPORT. MAINS_LOW, MAINS_BACK and MAINS_LOW_EXPIRY (R47, R82, R138, R170, R171), and the statement on the limit and
mains events. -/

namespace Sys2Proof.Machine

section
variable {c : Cavity} {r r' : Run} {k : ProcKind} {reason : ProcAbort} {s t : State}

/-! ## Both sequencers in turn (log 16) -/

theorem SameRun.state_eq (h : SameRun r r') : r.state = r'.state := by rw [h.eq_with]

theorem SameRun.mainsHeld_eq (h : SameRun r r') : r.mainsHeld = r'.mainsHeld := by rw [h.eq_with]

/-- An operation that does `f` to its cavity's run, and to the other's nothing but what the generator may set, does `f` to
both runs when it is done at A and then at B. -/
theorem sameRun_both {op : Cavity → State → State} {f : Run → Run}
    (own : ∀ c s, SameRun ((op c s).runs.get c) (f (s.runs.get c)))
    (work : ∀ c s, CavityWork c s (op c s)) (congr : ∀ r r', SameRun r r' → SameRun (f r) (f r')) (s : State)
    (c : Cavity) : SameRun ((op .B (op .A s)).runs.get c) (f (s.runs.get c)) := by
  cases c with
  | A => exact (work .B (op .A s)).other_run.trans (own .A s)
  | B => exact (own .B (op .A s)).trans (congr _ _ (work .A s).other_run)

/-! ## MAINS_LOW (R47, R82) -/

/-- The record of a run at a mains-low event (R47). -/
def heldRun (r : Run) : Run := if r.state = .running ∨ r.state = .starved then { r with mainsHeld := true } else r

theorem heldRun_of_carries (carries : r.state = .running ∨ r.state = .starved) :
    heldRun r = { r with mainsHeld := true } := if_pos carries

theorem heldRun_of_other (other : ¬ (r.state = .running ∨ r.state = .starved)) : heldRun r = r := if_neg other

theorem counting_heldRun (r : Run) : counting (heldRun r) = false := by
  by_cases carries : r.state = .running ∨ r.state = .starved
  · simp [heldRun_of_carries carries, counting]
  · rw [heldRun_of_other carries, counting_of_other carries]

theorem SameRun.held_congr (h : SameRun r r') : SameRun (heldRun r) (heldRun r') := by
  have state := h.state_eq
  by_cases carries : r'.state = .running ∨ r'.state = .starved
  · rw [heldRun_of_carries carries, heldRun_of_carries (by rwa [state])]
    exact congrArg (fun x : Run => { x with mainsHeld := true }) h
  · rw [heldRun_of_other carries, heldRun_of_other (by rwa [state])]
    exact h

theorem mainsOverlay_run (c : Cavity) (s : State) :
    SameRun ((mainsOverlay c s).runs.get c) (heldRun (s.runs.get c)) := by
  have settled := settle_run c (modRun c heldRun s)
  rwa [modRun_runs, PerCavity.get_set_self] at settled

theorem mainsOverlay_queues (c : Cavity) (s : State) : (mainsOverlay c s).queues = s.queues := settle_queues c _

theorem Unpowered.then_mainsOverlay (h : Unpowered s) : Unpowered (mainsOverlay c s) := by
  have overlaid : Unpowered (modRun c heldRun s) := ⟨h.low, h.idle⟩
  refine overlaid.then_settle ?_
  rw [modRun_runs, PerCavity.get_set_self, counting_heldRun]

/-- The state in which every grant is withdrawn, before the sequencers follow (R82). -/
def mainsLost (s : State) : State :=
  withdrawAll allLoads (broadcast .mainsLow { s with mains := { low := true, lowTime := some 0, expiryGiven := false } })

theorem mainsLow_of_supplied (supplied : s.mains.low = false) :
    mainsLow s = mainsOverlay .B (mainsOverlay .A (mainsLost s)) := if_neg (by rw [supplied]; decide)

theorem mainsLost_withdrawn (s : State) :
    Within .power (broadcast .mainsLow { s with mains := { low := true, lowTime := some 0, expiryGiven := false } })
      (mainsLost s) := withdrawAll_within allLoads _

theorem mainsLost_mains (s : State) : (mainsLost s).mains = { low := true, lowTime := some 0, expiryGiven := false } :=
  (mainsLost_withdrawn s).mains_eq rfl

theorem mainsLost_within (s : State) : Within { Parts.run with mains := true } s (mainsLost s) :=
  ((within_broadcast _ rfl).mpr ((within_set_mains _ rfl).mpr (.refl _ s))).trans ((mainsLost_withdrawn s).mono rfl)

theorem mainsLost_unpowered (s : State) : Unpowered (mainsLost s) :=
  ⟨congrArg (·.low) (mainsLost_mains s), fun l => not_granted_withdrawAll l _⟩

/-- What a mains-low event leaves (R47, R82, R170). -/
structure MainsWithdrawn (s t : State) : Prop where
  mains : t.mains = { low := true, lowTime := some 0, expiryGiven := false }
  unpowered : Unpowered t
  runs : ∀ c, SameRun (t.runs.get c) (heldRun (s.runs.get c))
  queues : t.queues = s.queues
  within : Within { Parts.run with mains := true } s t

theorem mainsOverlays_withdrawn (s : State) : MainsWithdrawn s (mainsOverlay .B (mainsOverlay .A (mainsLost s))) := by
  have w := (mainsOverlay_within .A (mainsLost s)).trans (mainsOverlay_within .B _)
  refine ⟨(w.mains_eq rfl).trans (mainsLost_mains s), (mainsLost_unpowered s).then_mainsOverlay.then_mainsOverlay,
    fun c => ?_, ?_, (mainsLost_within s).trans (w.mono rfl)⟩
  · have held := sameRun_both mainsOverlay_run (fun c s => (CavityWork.refl c s).then_mainsOverlay)
      (fun _ _ => SameRun.held_congr) (mainsLost s) c
    rwa [(mainsLost_withdrawn s).runs_eq rfl] at held
  · rw [mainsOverlay_queues, mainsOverlay_queues]
    exact (mainsLost_withdrawn s).queues_eq rfl

theorem MainsWithdrawn.fan_off (h : MainsWithdrawn s t) (c : Cavity) : fanLevel c t = .off := by
  refine fanLevel_of_not_counting ?_
  rw [(h.runs c).eq_with]
  exact counting_heldRun _

/-! ## MAINS_BACK (R47, R83) -/

/-- The record of a run without the overlay of mains-low (R47). -/
def suppliedRun (r : Run) : Run := { r with mainsHeld := false }

theorem mainsLift_run (c : Cavity) (s : State) :
    SameRun ((mainsLift c s).runs.get c) (suppliedRun (s.runs.get c)) := by
  have settled := settle_run c (modRun c suppliedRun s)
  rwa [modRun_runs, PerCavity.get_set_self] at settled

theorem mainsLift_queues (c : Cavity) (s : State) : (mainsLift c s).queues = s.queues := settle_queues c _

/-- The state in which the grant decision at the return of the mains is made, before the sequencers follow (R83). -/
def mainsFound (s : State) : State :=
  grantDecision (broadcast .mainsBack { s with mains := { low := false, lowTime := none, expiryGiven := false } })

theorem mainsBack_of_low (low : s.mains.low = true) : mainsBack s = mainsLift .B (mainsLift .A (mainsFound s)) :=
  if_pos low

theorem mainsFound_decided (s : State) :
    Within .power (broadcast .mainsBack { s with mains := { low := false, lowTime := none, expiryGiven := false } })
      (mainsFound s) := grantDecision_within _

/-- What a mains-back event leaves (R47, R170). -/
structure MainsRestored (s t : State) : Prop where
  mains : t.mains = { low := false, lowTime := none, expiryGiven := false }
  runs : ∀ c, SameRun (t.runs.get c) (suppliedRun (s.runs.get c))
  queues : t.queues = s.queues
  within : Within { Parts.run with mains := true } s t

theorem mainsLifts_restored (s : State) : MainsRestored s (mainsLift .B (mainsLift .A (mainsFound s))) := by
  have decided := mainsFound_decided s
  have w := (mainsLift_within .A (mainsFound s)).trans (mainsLift_within .B _)
  refine ⟨(w.mains_eq rfl).trans (decided.mains_eq rfl), fun c => ?_, ?_, Within.trans ?_ (w.mono rfl)⟩
  · have lifted := sameRun_both mainsLift_run (fun c s => (CavityWork.refl c s).then_mainsLift)
      (fun _ _ => congrArg suppliedRun) (mainsFound s) c
    rwa [decided.runs_eq rfl] at lifted
  · rw [mainsLift_queues, mainsLift_queues]
    exact decided.queues_eq rfl
  · exact ((within_broadcast _ rfl).mpr ((within_set_mains _ rfl).mpr (.refl _ s))).trans (decided.mono rfl)

/-! ## MAINS_LOW_EXPIRY (R47, R138, R171) -/

/-- The record of a run at a mains-low expiry, which aborts those that carry the overlay (R47). -/
def expiredRun (r : Run) : Run := if r.mainsHeld = true then abortedRun r .mainsLoss else r

theorem SameRun.expired_congr (h : SameRun r r') : SameRun (expiredRun r) (expiredRun r') := by
  rw [expiredRun, expiredRun, h.mainsHeld_eq]
  split
  · exact congrArg (abortedRun · .mainsLoss) h
  · exact h

theorem mainsAbort_run (c : Cavity) (s : State) :
    SameRun ((mainsAbort c s).runs.get c) (expiredRun (s.runs.get c)) := by
  unfold mainsAbort expiredRun
  split
  · obtain ⟨ended, -⟩ := settle_abortRun c .mainsLoss s
    rw [ended.run]
    rfl
  · rfl

theorem SharedWork.then_giveBack (h : SharedWork s t) : SharedWork s (giveBack t) := by
  unfold giveBack
  extract_lets abandoned
  have abandons : SharedWork s abandoned := h.then_abandonFill
  exact .ite abandons.then_startDrain (.ite abandons.then_startDrain abandons.then_enterGen.then_fillIfWanted)

theorem mainsAbortProcedure_shared (s : State) : SharedWork s (mainsAbortProcedure s) :=
  .ite (.refl s) ((SharedWork.refl s).then_within (abortCore_frame .mainsLoss s) rfl).then_giveBack

/-- An abort ends in IDLE, whatever was under way (R136). -/
theorem abortProcedure_phase (reason : ProcAbort) (s : State) : (abortProcedure reason s).proc.phase = .idle := by
  rw [abortProcedure, (giveBack_within _).proc_eq rfl]
  unfold abortCore
  extract_lets kind phase owed idle
  exact congrArg (·.phase) (enterIdle_proc kind _ _)

theorem mainsAbortProcedure_phase (s : State) : (mainsAbortProcedure s).proc.phase = .idle := by
  unfold mainsAbortProcedure
  split
  · assumption
  · exact abortProcedure_phase .mainsLoss s

theorem mainsAbortProcedure_outcome (phase : s.proc.phase ≠ .idle) (kind : s.proc.kind = some k) :
    (mainsAbortProcedure s).proc.lastOutcome = some (.aborted k .mainsLoss s.proc.phase) := by
  rw [mainsAbortProcedure, if_neg phase, (abortProcedure_aborted .mainsLoss kind).proc]

/-- The state in which the expiry is given, before the runs and the procedure follow (R171). -/
def mainsExpired (s : State) : State := { s with mains := { low := true, lowTime := some 50, expiryGiven := true } }

theorem mainsLowExpiry_of_due (low : s.mains.low = true) (first : s.mains.expiryGiven = false) :
    mainsLowExpiry s = mainsAbortProcedure (mainsAbort .B (mainsAbort .A (mainsExpired s))) := if_pos ⟨low, first⟩

theorem mainsLowExpiry_of_idle (h : s.mains.low = false ∨ s.mains.expiryGiven = true) : mainsLowExpiry s = s := by
  refine if_neg ?_
  rintro ⟨low, first⟩
  rcases h with supplied | given
  · exact absurd (low.symm.trans supplied) (by decide)
  · exact absurd (first.symm.trans given) (by decide)

/-- What a mains-low expiry leaves (R47, R138, R171). -/
structure MainsExpired (s t : State) : Prop where
  mains : t.mains = { low := true, lowTime := some 50, expiryGiven := true }
  runs : ∀ c, SameRun (t.runs.get c) (expiredRun (s.runs.get c))
  phase : t.proc.phase = .idle
  outcome : ∀ k, s.proc.phase ≠ .idle → s.proc.kind = some k →
    t.proc.lastOutcome = some (.aborted k .mainsLoss s.proc.phase)
  within : Within { Parts.answer with mains := true } s t

theorem mainsAborts_expired (s : State) :
    MainsExpired s (mainsAbortProcedure (mainsAbort .B (mainsAbort .A (mainsExpired s)))) := by
  have aborts := (mainsAbort_within .A (mainsExpired s)).trans (mainsAbort_within .B _)
  have procedure := mainsAbortProcedure_within (mainsAbort .B (mainsAbort .A (mainsExpired s)))
  have proc : (mainsAbort .B (mainsAbort .A (mainsExpired s))).proc = s.proc := aborts.proc_eq rfl
  refine ⟨(procedure.mains_eq rfl).trans (aborts.mains_eq rfl), fun c => ?_, mainsAbortProcedure_phase _,
    fun k phase kind => ?_, ?_⟩
  · exact ((mainsAbortProcedure_shared _).runs c).trans
      (sameRun_both mainsAbort_run (fun c s => (CavityWork.refl c s).then_mainsAbort) (fun _ _ => SameRun.expired_congr)
        (mainsExpired s) c)
  · rw [← proc] at phase kind ⊢
    exact mainsAbortProcedure_outcome phase kind
  · have given : Within { Parts.answer with mains := true } s (mainsExpired s) :=
      (within_set_mains _ rfl).mpr (.refl _ s)
    exact (given.trans (aborts.mono rfl)).trans (procedure.mono rfl)

theorem MainsExpired.aborted (h : MainsExpired s t) (held : (s.runs.get c).mainsHeld = true) :
    SameRun (t.runs.get c) (abortedRun (s.runs.get c) .mainsLoss) := by
  have run := h.runs c
  rwa [expiredRun, if_pos held] at run

theorem MainsExpired.kept (h : MainsExpired s t) (free : (s.runs.get c).mainsHeld = false) :
    SameRun (t.runs.get c) (s.runs.get c) := by
  have run := h.runs c
  rwa [expiredRun, if_neg (Bool.eq_false_iff.mp free)] at run

end

/-- Settles O55: the trip by `LimitTripped`, the mains by what each event leaves of both runs (`MainsWithdrawn`,
`MainsRestored`, `MainsExpired`). -/
theorem limitAndMainsEventsStopTheRuns : Obligations.LimitAndMainsEventsStopTheRuns := by
  unfold Obligations.LimitAndMainsEventsStopTheRuns
  refine ⟨fun c s held => ?limits, fun s held => ?mains⟩
  case limits =>
    intro r
    have trips := event_of_not_held (limitTrip c) held
    refine ⟨fun active => trips.trans (congrArg _ (if_pos active)), fun inactive => ?trips,
      event_of_not_held (limitRelease c) held, fun p q b accepts cavity =>
        ⟨fun active => cavityOrder_answered q 0x5A accepts cavity (clearLimit_denied active), fun inactive => ?clears⟩⟩
    case trips =>
      have tripped := settle_limitTold c s
      rw [limitTrip_of_inactive inactive] at trips
      exact ⟨_, trips, tripped.active, tripped.latch, tripped.frozen, loadOutput_of_frozen tripped.frozen.top,
        loadOutput_of_frozen tripped.frozen.bottom, loadOutput_of_frozen tripped.frozen.ring, tripped.aborts,
        tripped.keeps, tripped.within⟩
    case clears =>
      exact ⟨_, cavityOrder_answered q 0x5A accepts cavity (clearLimit_clears inactive),
        (settle_within c (unlatched c s)).limitLatch_eq rfl, settle_run c (unlatched c s),
        fun shut moving l mem => settle_unlatched_thawed shut moving mem, settle_unlatched_within c s⟩
  case mains =>
    have lost := event_of_not_held mainsLow held
    have found := event_of_not_held mainsBack held
    have expires := event_of_not_held mainsLowExpiry held
    refine ⟨fun low => lost.trans (congrArg _ (if_pos low)),
      fun supplied => found.trans (congrArg _ (if_neg (by rw [supplied]; decide))),
      fun idle => expires.trans (congrArg _ (mainsLowExpiry_of_idle idle)),
      fun supplied => ?low, fun low => ?back, fun low first => ?expiry⟩
    case low =>
      have withdrawn := mainsOverlays_withdrawn s
      rw [mainsLow_of_supplied supplied] at lost
      refine ⟨_, lost, withdrawn.mains, fun l => ⟨withdrawn.unpowered.idle l, withdrawn.unpowered.output_off l⟩,
        fun c carries => ⟨?_, withdrawn.fan_off c⟩, withdrawn.queues, withdrawn.within⟩
      have run := withdrawn.runs c
      rwa [heldRun_of_carries carries] at run
    case back =>
      have restored := mainsLifts_restored s
      rw [mainsBack_of_low low] at found
      refine ⟨_, found, restored.mains, fun c => ?_, restored.queues, restored.within⟩
      rw [(restored.runs c).eq_with]
      exact ⟨rfl, rfl, rfl⟩
    case expiry =>
      have expired := mainsAborts_expired s
      rw [mainsLowExpiry_of_due low first] at expires
      exact ⟨_, expires, expired.mains, fun c => expired.aborted, fun c free => (expired.kept free).state_eq,
        expired.phase, expired.outcome, expired.within⟩

end Sys2Proof.Machine
end

section
/-! SUPPORT. Every command has a next state, and the commands that are orders are taken as R177 gives. -/

namespace Sys2Proof.Machine

/-- A command has a next state: all but the two of RESET are events. -/
theorem exec_next (i : Instr) (s : State) : ∃ t, exec i s = .next t := by
  cases i
  case deviceReset => exact ⟨_, rfl⟩
  case resetHeld => exact ⟨_, rfl⟩
  all_goals exact event_next _ s

theorem step_of_pending {c : Instr} {cs : List Instr} {s : State} (front : s.pending = c :: cs) :
    step s = exec c { s with pending := cs } := by
  rw [step, front]

/-- Settles O1: the step reads the front command, and each command has a next state. -/
theorem stepTakesFrontCommandAndCompletes : Obligations.StepTakesFrontCommandAndCompletes := by
  unfold Obligations.StepTakesFrontCommandAndCompletes
  exact ⟨fun _ _ _ => step_of_pending, exec_next⟩

/-- Settles O11: an order is the taking of its frame, which the port's line answers before any block is asked. -/
theorem orderOnAPendingPortIsBusyOrDropped : Obligations.OrderOnAPendingPortIsBusyOrDropped := by
  unfold Obligations.OrderOnAPendingPortIsBusyOrDropped
  intro i p q id s key running mark pending
  rw [exec_eq_takeFrame i p q id key, event_of_not_held _ running]
  refine ⟨fun owed => ?_, fun free => ?_⟩
  · rw [takeFrame_of_owed q id _ mark pending owed]
  · rw [takeFrame_of_pending q id _ mark pending free]
    rfl

end Sys2Proof.Machine
end

section
/-! SUPPORT. No order but PORT_RESET changes a port's line or receiver but for its reply (R174, R177). -/

namespace Sys2Proof.Machine

theorem Within.ports_eq {f : Parts} {s t : State} (w : Within f s t) (k : f.ports = false) : t.ports = s.ports := by
  obtain ⟨-, -, -, -, -, -, -, -, -, -, -, -, -, -, -, -, -, -, -, -, -, -, hp, -⟩ := w
  exact hp k

/-- What an order's block does leaves every port's line and receiver. -/
def ActKeepsPorts (act : Act) : Prop := ∀ s, (act s).1.ports = s.ports

theorem ActKeepsPorts.of_within {g : Parts} {act : Act} (w : ∀ s, Within g s (act s).1) (k : g.ports = false) :
    ActKeepsPorts act := fun s => (w s).ports_eq k

theorem ActKeepsPorts.withHold {p : Port} {need : Option HoldObject} {act : Act} (h : ActKeepsPorts act) :
    ActKeepsPorts (withHold p need act) := by
  intro s
  unfold Machine.withHold
  split
  · exact h s
  · split
    · split
      · exact h _
      · rfl
    · rfl

theorem ActKeepsPorts.cavityAct {p : Port} {b : Byte} {need : Cavity → Option HoldObject} {act : Cavity → Act}
    (h : ∀ c, ActKeepsPorts (act c)) : ActKeepsPorts (cavityAct p b need act) := by
  intro s
  unfold Machine.cavityAct
  split
  · rfl
  · exact (h _).withHold s

theorem ActKeepsPorts.counted {ok : Bool} {act : Act} (h : ActKeepsPorts act) : ActKeepsPorts (counted ok act) := by
  intro s
  unfold Machine.counted
  split
  · exact h s
  · rfl

/-- A command is the taking of a frame whose block leaves the ports (R177). -/
def TakenKeepingPorts (p : Port) (q id : Byte) (i : Instr) : Prop :=
  ∃ act, ActKeepsPorts act ∧ ∀ s, exec i s = event (takeFrame p q id act) s

section
variable {p : Port} {q id b : Byte} {i : Instr} {g : Parts}

theorem TakenKeepingPorts.order {act : Act} {need : Option HoldObject} (w : ∀ s, Within g s (act s).1)
    (k : g.ports = false) (e : ∀ s, exec i s = event (order p q id need act) s) : TakenKeepingPorts p q id i :=
  ⟨_, .withHold (.of_within w k), e⟩

theorem TakenKeepingPorts.cavityOrder {act : Cavity → Act} {need : Cavity → Option HoldObject}
    (w : ∀ c s, Within g s (act c s).1) (k : g.ports = false)
    (e : ∀ s, exec i s = event (cavityOrder p q id b need act) s) : TakenKeepingPorts p q id i :=
  ⟨_, .cavityAct fun c => .of_within (w c) k, e⟩

/-- An order but PORT_RESET leaves the ports, by what its block can reach. -/
theorem exec_order_keepsPorts (key : orderKey i = some (p, q, id)) (other : id ≠ 0x62) :
    TakenKeepingPorts p q id i := by
  cases i <;> cases key
  case openRun x y z => exact .cavityOrder (openRun_within p x y z) rfl fun _ => rfl
  case loadStep record =>
    exact ⟨_, .counted (.cavityAct fun c => .of_within (loadStep_within p record c) rfl), fun _ => rfl⟩
  case closeRun => exact .cavityOrder (closeRun_within p) rfl fun _ => rfl
  case startRun delay => exact .cavityOrder (startRun_within delay) rfl fun _ => rfl
  case startLinked delay => exact .order (startLinked_within delay) rfl fun _ => rfl
  case pauseRun => exact .cavityOrder pauseRun_within rfl fun _ => rfl
  case resumeRun => exact .cavityOrder resumeRun_within rfl fun _ => rfl
  case stopRun => exact .cavityOrder stopRun_within rfl fun _ => rfl
  case clearRun => exact .cavityOrder clearRun_within rfl fun _ => rfl
  case adoptRun => exact .cavityOrder (adoptRun_within p) rfl fun _ => rfl
  case skipStep => exact .cavityOrder skipStep_within rfl fun _ => rfl
  case adjustStep => exact .cavityOrder (adjustStep_within _ _ _ _) rfl fun _ => rfl
  case setWatch => exact .cavityOrder (setWatch_within _ _ _ _ _) rfl fun _ => rfl
  case clearWatch => exact .cavityOrder (clearWatch_within _) rfl fun _ => rfl
  case readRun => exact .cavityOrder readRun_within rfl fun _ => rfl
  case ackPrompt n => exact .order (ackPrompt_within p n) rfl fun _ => rfl
  case readPrompts => exact .order readPrompts_within rfl fun _ => rfl
  case takeHold b => exact .order (takeHold_within p b) rfl fun _ => rfl
  case releaseHold b => exact .order (releaseHold_within p b) rfl fun _ => rfl
  case drainGen => exact .order drainGen_within rfl fun _ => rfl
  case genReset => exact .order genReset_within rfl fun _ => rfl
  case readGen => exact .order readGen_within rfl fun _ => rfl
  case startDescale => exact .order startDescale_within rfl fun _ => rfl
  case abortDescale => exact .order abortDescale_within rfl fun _ => rfl
  case startRinse => exact .order startRinse_within rfl fun _ => rfl
  case readDescale => exact .order readDescale_within rfl fun _ => rfl
  case readWater => exact .order readWater_within rfl fun _ => rfl
  case storeOpen slot => exact .order (storeOpen_within p slot) rfl fun _ => rfl
  case storeLabel label =>
    exact ⟨_, .counted (.withHold (.of_within (storeLabel_within label) rfl)), fun _ => rfl⟩
  case storeStep record =>
    exact ⟨_, .counted (.withHold (.of_within (storeStep_within record) rfl)), fun _ => rfl⟩
  case storeCommit => exact .order (storeCommit_within p) rfl fun _ => rfl
  case storeCancel => exact .order storeCancel_within rfl fun _ => rfl
  case eraseProgram slot => exact .order (eraseProgram_within p slot) rfl fun _ => rfl
  case readProgram x y => exact .order (readProgram_within x y) rfl fun _ => rfl
  case setParam x v => exact .order (setParam_within p x v) rfl fun _ => rfl
  case readParam x => exact .order (readParam_within x) rfl fun _ => rfl
  case saveSettings => exact .order (saveSettings_within p) rfl fun _ => rfl
  case readLoads => exact .order readLoads_within rfl fun _ => rfl
  case readSensors => exact .order readSensors_within rfl fun _ => rfl
  case clearLimit => exact .cavityOrder clearLimit_within rfl fun _ => rfl
  case readCause => exact .order (readCause_within p) rfl fun _ => rfl
  case setCauseMask mask => exact .order (setCauseMask_within p mask) rfl fun _ => rfl
  case portReset => exact absurd rfl other

end

/-- Settles O12: the port answers what the block answers, and the block leaves the ports. -/
theorem acceptedOrderGetsOneReply : Obligations.AcceptedOrderGetsOneReply := by
  unfold Obligations.AcceptedOrderGetsOneReply
  intro i p q id s key other accepts
  obtain ⟨act, keeps, taken⟩ := exec_order_keepsPorts key other
  refine ⟨(act s).2.1, (act s).2.2, replied p q id (act s).2.1 (act s).2.2 (act s).1, ?_, ?_⟩
  · rw [taken, event_of_not_held _ accepts.1, takeFrame_of_accepts q id act accepts]
  · simp only [replied, pushReply, modPort_ports, keeps s]

end Sys2Proof.Machine
end

section
/-! SUPPORT. The hold objects (R178, R183 to R185): what frees one, and the orders that need one. -/

namespace Sys2Proof.Machine

section
variable {p : Port} {h : HoldObject} {k : Hold} {b : Byte} {s : State}

/-- A freed object has no holder, and a freed STORE no staging buffer (R147). -/
theorem freeHold_eq (h : HoldObject) (s : State) :
    freeHold h s = { s with holds := s.holds.set h none, staging := if h = .store then none else s.staging } := by
  unfold freeHold
  dsimp only
  split <;> rfl

/-! ## TAKE_HOLD (R183) -/

theorem takeHold_of_own (object : holdOf? b = some h) (own : ∀ k, s.holds.get h = some k → k.holder = p) :
    takeHold p b s = takeFor p h s := by
  simp only [takeHold, object]
  split
  · rfl
  · next k held => exact if_pos (own k held)

theorem takeHold_of_other (object : holdOf? b = some h) (held : s.holds.get h = some k) (other : k.holder ≠ p) :
    takeHold p b s = (s, .held, .heldBy k.holder (secondsLeft k.expiry)) := by
  simp only [takeHold, object, held]
  exact if_neg other

theorem takeHold_range (object : holdOf? b = none) : takeHold p b s = (s, .range, .none) := by
  simp only [takeHold, object, deny]

/-- Settles O16: the object's holder decides the answer. -/
theorem takeHoldGivesOneHolder : Obligations.TakeHoldGivesOneHolder := by
  unfold Obligations.TakeHoldGivesOneHolder
  intro p q b s accepts
  exact ⟨fun h object own => order_answered q 0x28 accepts (takeHold_of_own object own),
    fun h k object held other => order_answered q 0x28 accepts (takeHold_of_other object held other),
    fun object => order_answered q 0x28 accepts (takeHold_range object)⟩

/-! ## RELEASE_HOLD and HOLD_EXPIRY (R184, R185) -/

theorem releaseHold_of_own (object : holdOf? b = some h) (held : s.holds.get h = some k) (own : k.holder = p) :
    releaseHold p b s = (freeHold h s, .done, .none) := by
  simp only [releaseHold, object, held]
  exact if_pos own

theorem releaseHold_of_other (object : holdOf? b = some h) (other : ∀ k, s.holds.get h = some k → k.holder ≠ p) :
    releaseHold p b s = (s, .notHolder, .none) := by
  simp only [releaseHold, object]
  split
  · next k held => exact if_neg (other k held)
  · rfl

theorem releaseHold_range (object : holdOf? b = none) : releaseHold p b s = (s, .range, .none) := by
  simp only [releaseHold, object, deny]

theorem holdExpiry_of_free (free : s.holds.get h = none) : holdExpiry h s = s := by
  rw [holdExpiry, free]

theorem holdExpiry_of_held (held : s.holds.get h = some k) :
    holdExpiry h s = post k.holder (.holdLost h) (freeHold h s) := by
  rw [holdExpiry, held]

/-- Settles O17: a release and an expiry free the object; an expiry tells the old holder too. -/
theorem holdsAreReleasedAndExpire : Obligations.HoldsAreReleasedAndExpire := by
  unfold Obligations.HoldsAreReleasedAndExpire
  refine ⟨fun p q b s accepts => ⟨fun h k object held own => ?_, fun h object other => ?_, fun object => ?_⟩,
    fun h s running => ⟨fun free => ?_, fun k held => ?_⟩⟩
  · rw [← freeHold_eq]
    exact order_answered q 0x29 accepts (releaseHold_of_own object held own)
  · exact order_answered q 0x29 accepts (releaseHold_of_other object other)
  · exact order_answered q 0x29 accepts (releaseHold_range object)
  · rw [exec, execHoldExpiry, event_of_not_held _ running, holdExpiry_of_free free]
  · rw [exec, execHoldExpiry, event_of_not_held _ running, holdExpiry_of_held held, freeHold_eq]
    rfl

end

/-! ## The orders that need a hold (R178 check 4) -/

theorem Within.holds_eq {f : Parts} {s t : State} (w : Within f s t) (k : f.holds = false) : t.holds = s.holds := by
  obtain ⟨-, -, -, -, -, -, -, -, -, -, -, -, -, -, -, -, -, -, -, -, -, -, -, hh, -⟩ := w
  exact hh k

theorem cavityOrder_eq_order {b : Byte} {c : Cavity} (p : Port) (q id : Byte) (need : Cavity → Option HoldObject)
    (act : Cavity → Act) (cavity : cavityOf? b = some c) :
    cavityOrder p q id b need act = order p q id (need c) (act c) := by
  funext s
  simp only [cavityOrder, order]
  congr 1
  funext t
  simp only [cavityAct, cavity]

/-- A command is an order that checks a hold before its block, which leaves the hold objects. -/
def ChecksHold (p : Port) (q id : Byte) (h : HoldObject) (i : Instr) : Prop :=
  ∃ act : Act, (∀ s, (act s).1.holds = s.holds) ∧ ∀ s, exec i s = event (order p q id (some h) act) s

section
variable {p : Port} {q id b : Byte} {h : HoldObject} {i : Instr} {g : Parts}

/-- An order that names a cavity and needs its EDIT hold. -/
theorem ChecksHold.edit {act : Cavity → Act} (w : ∀ c s, Within g s (act c s).1) (k : g.holds = false)
    (need : (cavityOf? b).map editHold = some h) (e : ∀ s, exec i s = event (cavityOrder p q id b needEdit act) s) :
    ChecksHold p q id h i := by
  obtain ⟨c, cavity, rfl⟩ := Option.map_eq_some_iff.mp need
  refine ⟨act c, fun s => (w c s).holds_eq k, fun s => ?_⟩
  rw [e, cavityOrder_eq_order p q id needEdit act cavity, needEdit]

/-- An order that needs the STORE hold, with the byte count of its form. -/
theorem ChecksHold.store {act : Act} {ok : Bool} (w : ∀ s, Within g s (act s).1) (k : g.holds = false)
    (need : some HoldObject.store = some h) (count : ok = true)
    (e : ∀ s, exec i s = event (takeFrame p q id (counted ok (withHold p (some .store) act))) s) :
    ChecksHold p q id h i := by
  obtain rfl := Option.some.inj need
  subst count
  exact ⟨act, fun s => (w s).holds_eq k, e⟩

/-- A well-formed order that needs a hold checks it before its block, which leaves the hold objects. -/
theorem exec_order_checksHold (key : orderKey i = some (p, q, id)) (need : neededHold i = some h)
    (formed : WellFormed i = true) : ChecksHold p q id h i := by
  cases i <;> cases key
  case skipStep => exact .edit skipStep_within rfl need fun _ => rfl
  case adjustStep => exact .edit (adjustStep_within _ _ _ _) rfl need fun _ => rfl
  case setWatch => exact .edit (setWatch_within _ _ _ _ _) rfl need fun _ => rfl
  case clearWatch => exact .edit (clearWatch_within _) rfl need fun _ => rfl
  case storeOpen slot => exact .store (storeOpen_within p slot) rfl need rfl fun _ => rfl
  case storeLabel label => exact .store (storeLabel_within label) rfl need formed fun _ => rfl
  case storeStep record => exact .store (storeStep_within record) rfl need formed fun _ => rfl
  case storeCommit => exact .store (storeCommit_within p) rfl need rfl fun _ => rfl
  case storeCancel => exact .store storeCancel_within rfl need rfl fun _ => rfl
  case eraseProgram slot => exact .store (eraseProgram_within p slot) rfl need rfl fun _ => rfl
  all_goals exact absurd need nofun

end

/-- Settles O18: the check stands before the block, and the block leaves the hold objects. -/
theorem ordersThatNeedAHoldAreChecked : Obligations.OrdersThatNeedAHoldAreChecked := by
  unfold Obligations.OrdersThatNeedAHoldAreChecked
  intro i p q id h s key need formed accepts
  obtain ⟨act, keeps, checked⟩ := exec_order_checksHold key need formed
  rw [checked, event_order_of_accepts q id (some h) act accepts]
  refine ⟨fun other => ?_, fun k held own => ⟨_, rfl, ?_⟩⟩
  · rw [withHold_of_other act other]
  · simp only [withHold_of_holder act held own, replied, pushReply, modPort_holds, keeps]

end Sys2Proof.Machine
end

section
/-! SUPPORT. The receiver (R173): what a byte does in each of its states, and what a whole frame does. -/

namespace Sys2Proof.Machine

/-- A port with its receiver in this state. -/
def withReceiver (p : Port) (x : Receiver) (s : State) : State := modPort p (fun r => { r with receiver := x }) s

section
variable {p : Port} {x : Receiver} {b len : Byte} {bytes taken body check : List Byte} {s : State}

@[simp] theorem withReceiver_get (p : Port) (x : Receiver) (s : State) :
    (withReceiver p x s).ports.get p = { s.ports.get p with receiver := x } := by
  simp [withReceiver]

@[simp] theorem withReceiver_withReceiver (p : Port) (x y : Receiver) (s : State) :
    withReceiver p x (withReceiver p y s) = withReceiver p x s := by
  simp [withReceiver, modPort]

theorem withReceiver_of_same (same : (s.ports.get p).receiver = x) : withReceiver p x s = s := by
  subst same
  exact congrArg (fun ports => { s with ports := ports }) (PerPort.set_get s.ports p)

/-! ## One byte -/

theorem receiveByte_hunting (mark : (s.ports.get p).inBreak = false) :
    receiveByte p b (withReceiver p .hunting s) = withReceiver p (huntByte b) s := by
  simp only [receiveByte, withReceiver_get, mark, Bool.false_eq_true, if_false]
  exact withReceiver_withReceiver p (huntByte b) .hunting s

theorem receiveByte_length (mark : (s.ports.get p).inBreak = false) :
    receiveByte p len (withReceiver p .length s)
      = withReceiver p (if 2 ≤ len.toNat ∧ len.toNat ≤ 62 then .body len [] else .hunting) s := by
  simp only [receiveByte, withReceiver_get, mark, Bool.false_eq_true, if_false]
  split
  · exact withReceiver_withReceiver p (.body len []) .length s
  · exact withReceiver_withReceiver p .hunting .length s

theorem receiveByte_body (mark : (s.ports.get p).inBreak = false) (short : taken.length + 1 < len.toNat + 2) :
    receiveByte p b (withReceiver p (.body len taken) s) = withReceiver p (.body len (taken ++ [b])) s := by
  have waits : (taken ++ [b]).length < len.toNat + 2 := by simpa using short
  simp only [receiveByte, withReceiver_get, mark, Bool.false_eq_true, if_false, if_pos waits]
  exact withReceiver_withReceiver p (.body len (taken ++ [b])) (.body len taken) s

theorem receiveByte_last (mark : (s.ports.get p).inBreak = false) (last : taken.length + 1 = len.toNat + 2) :
    receiveByte p b (withReceiver p (.body len taken) s)
      = frameEnd p len (taken ++ [b]) (withReceiver p .hunting s) := by
  have ends : ¬ (taken ++ [b]).length < len.toNat + 2 := by simp [last]
  simp only [receiveByte, withReceiver_get, mark, Bool.false_eq_true, if_false, if_neg ends]
  exact congrArg (frameEnd p len (taken ++ [b])) (withReceiver_withReceiver p .hunting (.body len taken) s)

/-! ## A run of bytes -/

/-- Bytes that are no start byte are discarded. -/
theorem receiveBytes_of_no_start (mark : (s.ports.get p).inBreak = false)
    (hunting : (s.ports.get p).receiver = .hunting) (strange : (0xA5 : Byte) ∉ bytes) : receiveBytes p bytes s = s := by
  induction bytes with
  | nil => rfl
  | cons b bs ih =>
    obtain ⟨first, rest⟩ : (0xA5 : Byte) ≠ b ∧ (0xA5 : Byte) ∉ bs := by simpa [List.mem_cons, not_or] using strange
    have discards : receiveByte p b s = s := by
      have looked := receiveByte_hunting (b := b) mark
      rwa [withReceiver_of_same hunting, huntByte, if_neg (Ne.symm first), withReceiver_of_same hunting] at looked
    rw [receiveBytes, discards, ih rest]

/-- The bytes that are wanting after the length byte end the frame. -/
theorem receiveBytes_body (mark : (s.ports.get p).inBreak = false) (wanting : taken.length < len.toNat + 2)
    (whole : taken.length + bytes.length = len.toNat + 2) :
    receiveBytes p bytes (withReceiver p (.body len taken) s)
      = frameEnd p len (taken ++ bytes) (withReceiver p .hunting s) := by
  induction bytes generalizing taken with
  | nil => exact absurd whole (Nat.ne_of_lt wanting)
  | cons b bs ih =>
    rw [List.length_cons] at whole
    cases bs with
    | nil => exact receiveByte_last mark whole
    | cons c cs =>
      rw [List.length_cons] at whole
      have grown : (taken ++ [b]).length = taken.length + 1 := by simp
      rw [receiveBytes, receiveByte_body mark (by omega), ih (by omega) (by rw [grown, List.length_cons]; omega)]
      rw [List.append_assoc, List.singleton_append]

/-- The start byte and the length put a hunting receiver where the length says. -/
theorem receiveBytes_start (mark : (s.ports.get p).inBreak = false) (hunting : (s.ports.get p).receiver = .hunting) :
    receiveBytes p (0xA5 :: len :: bytes) s
      = receiveBytes p bytes
          (withReceiver p (if 2 ≤ len.toNat ∧ len.toNat ≤ 62 then .body len [] else .hunting) s) := by
  have start : receiveByte p 0xA5 s = withReceiver p .length s := by
    have looked := receiveByte_hunting (b := 0xA5) mark
    rwa [withReceiver_of_same hunting] at looked
  rw [receiveBytes, start, receiveBytes, receiveByte_length mark]

/-- A length out of its range is discarded. -/
theorem receiveBytes_bad_length (mark : (s.ports.get p).inBreak = false)
    (hunting : (s.ports.get p).receiver = .hunting) (bad : len.toNat < 2 ∨ 62 < len.toNat) :
    receiveBytes p [0xA5, len] s = s := by
  rw [receiveBytes_start mark hunting, if_neg (by omega)]
  exact withReceiver_of_same hunting

/-- A whole frame reaches its end with the bytes after the length, and the receiver hunts again. -/
theorem receiveBytes_frame (mark : (s.ports.get p).inBreak = false) (hunting : (s.ports.get p).receiver = .hunting)
    (short : 2 ≤ len.toNat) (long : len.toNat ≤ 62) (whole : bytes.length = len.toNat + 2) :
    receiveBytes p (0xA5 :: len :: bytes) s = frameEnd p len bytes s := by
  have wanting : ([] : List Byte).length < len.toNat + 2 := Nat.succ_pos _
  rw [receiveBytes_start mark hunting, if_pos ⟨short, long⟩, receiveBytes_body mark wanting (by simpa using whole),
    withReceiver_of_same hunting, List.nil_append]

/-! ## The end of a frame -/

theorem frameEnd_of_other_check (whole : body.length = len.toNat) (differs : check ≠ checkBytes (crc16 (len :: body))) :
    frameEnd p len (body ++ check) s = s := by
  unfold frameEnd
  dsimp only
  rw [← whole, List.take_left, List.drop_left, if_neg differs]

theorem frameEnd_of_check {q id : Byte} {params : List Byte} (whole : (q :: id :: params).length = len.toNat) :
    frameEnd p len ((q :: id :: params) ++ checkBytes (crc16 (len :: q :: id :: params))) s
      = takeFrame p q id (frameAct p id params) s := by
  unfold frameEnd
  dsimp only
  rw [← whole, List.take_left, List.drop_left, if_pos rfl]

/-- The frame of an order, received by a hunting receiver, is taken with its identifier and its parameters. -/
theorem receiveBytes_orderFrame {q id : Byte} {params : List Byte} (mark : (s.ports.get p).inBreak = false)
    (hunting : (s.ports.get p).receiver = .hunting) (fits : params.length ≤ 60) :
    receiveBytes p (orderFrame q id params) s = takeFrame p q id (frameAct p id params) s := by
  have length : (toByte (2 + params.length)).toNat = 2 + params.length := by
    rw [BitVec.toNat_ofNat]
    omega
  have whole : (q :: id :: params).length = (toByte (2 + params.length)).toNat := by
    rw [length, List.length_cons, List.length_cons]
    omega
  rw [← frameEnd_of_check whole]
  refine receiveBytes_frame mark hunting (by omega) (by omega) ?_
  exact List.length_append.trans (congrArg (· + 2) whole)

end

/-- Settles O13: the frame is taken with the order's identifier and parameters, and so is the order. -/
theorem frameOfAnOrderIsTheOrder : Obligations.FrameOfAnOrderIsTheOrder := by
  unfold Obligations.FrameOfAnOrderIsTheOrder
  intro i p q id s key fits running mark hunting
  rw [exec_eq_takeFrame i p q id key, exec, execFrameReceived, event_of_not_held _ running,
    event_of_not_held _ running, receiveBytes_orderFrame mark hunting fits]

/-- An identifier that is not in the table asks for nothing (R178 check 1). -/
theorem frameAct_unknown {id : Byte} (p : Port) (params : List Byte) (unlisted : id ∉ orderIds) :
    frameAct p id params = deny .unknown := by
  simp only [orderIds, List.mem_cons, List.not_mem_nil, or_false, not_or] at unlisted
  simp only [frameAct, runAct, storeAct, otherAct, unlisted, if_false, ite_self]

/-- Settles O14: each of the receiver's ways to hunt again, and an unlisted identifier's frame. -/
theorem receiverDiscardsNonFramesAndAnswersUnknown : Obligations.ReceiverDiscardsNonFramesAndAnswersUnknown := by
  unfold Obligations.ReceiverDiscardsNonFramesAndAnswersUnknown
  refine ⟨fun p s running mark => ⟨fun hunting => ⟨fun bytes strange => ?_, fun len bad => ?_,
    fun len c1 c2 body short long whole differs => ?_⟩, fun b => ?_⟩,
    fun p q id params s unlisted fits accepts hunting => ?_⟩
  · rw [exec, execFrameReceived, event_of_not_held _ running, receiveBytes_of_no_start mark hunting strange]
  · rw [exec, execFrameReceived, event_of_not_held _ running, receiveBytes_bad_length mark hunting bad]
  · have frame : receiveBytes p (0xA5 :: len :: (body ++ [c1, c2])) s = s := by
      rw [receiveBytes_frame mark hunting short long (by simp [whole]), frameEnd_of_other_check whole differs]
    rw [exec, execFrameReceived, event_of_not_held _ running]
    exact congrArg _ frame
  · rw [exec, execInterByteGap, event_of_not_held _ running]
    exact congrArg _ (receiveByte_hunting mark)
  · have ⟨running, mark, _⟩ := accepts
    rw [exec, execFrameReceived, event_of_not_held _ running, receiveBytes_orderFrame mark hunting fits,
      takeFrame_of_accepts q id _ accepts, frameAct_unknown p params unlisted]
    rfl

end Sys2Proof.Machine
end

section
/-! SUPPORT. A port reset (R187): the transmit line, the hold objects and the cause set it leaves. -/

namespace Sys2Proof.Machine

section
variable {p : Port} {h : HoldObject} {s : State}

/-! ## The holds -/

/-- Freeing what a port holds frees the object exactly where the port is its holder. -/
theorem freeIfHeldBy_eq (p : Port) (h : HoldObject) (s : State) :
    freeIfHeldBy p h s = if (s.holds.get h).map (·.holder) = some p then freeHold h s else s := by
  unfold freeIfHeldBy
  cases s.holds.get h with
  | none => rfl
  | some k => simp only [Option.map_some, Option.some.injEq]

theorem freeIfHeldBy_holds_self (p : Port) (h : HoldObject) (s : State) :
    (freeIfHeldBy p h s).holds.get h
      = if (s.holds.get h).map (·.holder) = some p then none else s.holds.get h := by
  rw [freeIfHeldBy_eq]
  split
  · rw [freeHold_eq]
    exact PerHold.get_set_self _ _ _
  · rfl

theorem freeIfHeldBy_holds_of_ne {x : HoldObject} (p : Port) (s : State) (other : x ≠ h) :
    (freeIfHeldBy p h s).holds.get x = s.holds.get x := by
  rw [freeIfHeldBy_eq]
  split
  · rw [freeHold_eq]
    exact PerHold.get_set_of_ne _ _ other
  · rfl

theorem freeIfHeldBy_staging (p : Port) (h : HoldObject) (s : State) :
    (freeIfHeldBy p h s).staging
      = if (s.holds.get h).map (·.holder) = some p ∧ h = .store then none else s.staging := by
  rw [freeIfHeldBy_eq, freeHold_eq]
  by_cases held : (s.holds.get h).map (·.holder) = some p <;> simp [held]

/-- A port's three hold objects freed (R187). -/
def freeAllOf (p : Port) (s : State) : State := freeIfHeldBy p .store (freeIfHeldBy p .editB (freeIfHeldBy p .editA s))

theorem freeAllOf_holds (p : Port) (s : State) (h : HoldObject) :
    (freeAllOf p s).holds.get h
      = if (s.holds.get h).map (·.holder) = some p then none else s.holds.get h := by
  unfold freeAllOf
  cases h
  case editA =>
    rw [freeIfHeldBy_holds_of_ne _ _ (by decide), freeIfHeldBy_holds_of_ne _ _ (by decide), freeIfHeldBy_holds_self]
  case editB =>
    rw [freeIfHeldBy_holds_of_ne _ _ (by decide), freeIfHeldBy_holds_self, freeIfHeldBy_holds_of_ne _ _ (by decide)]
  case store =>
    rw [freeIfHeldBy_holds_self, freeIfHeldBy_holds_of_ne _ _ (by decide), freeIfHeldBy_holds_of_ne _ _ (by decide)]

theorem freeAllOf_staging (p : Port) (s : State) :
    (freeAllOf p s).staging = if (s.holds.store).map (·.holder) = some p then none else s.staging := by
  have store : (freeIfHeldBy p .editB (freeIfHeldBy p .editA s)).holds.get .store = s.holds.store := by
    rw [freeIfHeldBy_holds_of_ne _ _ (by decide), freeIfHeldBy_holds_of_ne _ _ (by decide)]
    rfl
  unfold freeAllOf
  rw [freeIfHeldBy_staging, store, freeIfHeldBy_staging, freeIfHeldBy_staging]
  simp

theorem freeAllOf_within (p : Port) (s : State) : Within { holds := true, staging := true } s (freeAllOf p s) :=
  ((freeIfHeldBy_within p .editA s).trans (freeIfHeldBy_within p .editB _)).trans (freeIfHeldBy_within p .store _)

/-! ## The transmit line -/

theorem keptReplies_replies (l : List Outgoing) : (keptReplies l).map (·.reply) = (l.take 1).map (·.reply) := by
  cases l <;> rfl

/-- What has begun to leave is no pending order's reply any more. -/
theorem keptReplies_not_pending (l : List Outgoing) : (keptReplies l).any (fun o => decide (o.kind = .order)) = false := by
  cases l with
  | nil => rfl
  | cons o os =>
    simp only [keptReplies, List.any_cons, List.any_nil, Bool.or_false, decide_eq_false_iff_not]
    split
    · exact nofun
    · assumption

/-- Where no order is pending the first reply stays as it is. -/
theorem keptReplies_of_not_pending {l : List Outgoing} (free : l.any (fun o => decide (o.kind = .order)) = false) :
    keptReplies l = l.take 1 := by
  cases l with
  | nil => rfl
  | cons o os =>
    have kind : o.kind ≠ .order := by
      rw [List.any_cons, Bool.or_eq_false_iff] at free
      exact of_decide_eq_false free.1
    simp only [keptReplies, if_neg kind, List.take_succ_cons, List.take_zero]

/-! ## The reset -/

/-- What a port reset leaves beside the port's own record (R187). -/
structure PortCleared (p : Port) (s t : State) : Prop where
  attention : t.attention.get p = { causes := [detail 1 0 2 0 0], mask := defaultMask }
  holds : ∀ h, t.holds.get h = if (s.holds.get h).map (·.holder) = some p then none else s.holds.get h
  staging : t.staging = if (s.holds.store).map (·.holder) = some p then none else s.staging
  others : ∀ x, x ≠ p → t.ports.get x = s.ports.get x ∧ t.attention.get x = s.attention.get x
  within : Within { ports := true, holds := true, staging := true, attention := true } s t

/-- STARTED is enabled by the default mask. -/
theorem offer_started : offer (causeEntry (.started 2)) { causes := [], mask := defaultMask }
    = { causes := [detail 1 0 2 0 0], mask := defaultMask } :=
  offer_of_enabled (by decide)

/-- A port reset on the port's own record: the receiver hunts, and only what has begun to leave stays on the line. -/
def resetRecord (p : Port) (s : State) : State :=
  modPort p (fun r => { r with receiver := .hunting, replies := keptReplies r.replies }) s

theorem portReset_eq (p : Port) (s : State) :
    portReset p s = post p (.started 2) { freeAllOf p (resetRecord p s) with
      attention := (freeAllOf p (resetRecord p s)).attention.set p { causes := [], mask := defaultMask } } := rfl

theorem portReset_ports (p : Port) (s : State) :
    (portReset p s).ports = s.ports.set p { s.ports.get p with
      receiver := .hunting, replies := keptReplies (s.ports.get p).replies } :=
  (freeAllOf_within p (resetRecord p s)).ports_eq rfl

theorem portReset_attention (p : Port) (s : State) :
    (portReset p s).attention = s.attention.set p { causes := [detail 1 0 2 0 0], mask := defaultMask } := by
  have same : (freeAllOf p (resetRecord p s)).attention = s.attention := (freeAllOf_within p _).attention_eq rfl
  rw [portReset_eq, post_attention, same, PerPort.set_set, PerPort.get_set_self, offer_started]

theorem portReset_cleared (p : Port) (s : State) : PortCleared p s (portReset p s) := by
  constructor
  case attention => rw [portReset_attention, PerPort.get_set_self]
  case holds => exact freeAllOf_holds p (resetRecord p s)
  case staging => exact freeAllOf_staging p (resetRecord p s)
  case others =>
    intro x other
    rw [portReset_ports, portReset_attention, PerPort.get_set_of_ne _ _ other, PerPort.get_set_of_ne _ _ other]
    exact ⟨rfl, rfl⟩
  case within => exact (portReset_within p s).mono rfl

/-- A change of the port's own record afterwards leaves the rest as the reset made it. -/
theorem PortCleared.then_modPort {t : State} (cleared : PortCleared p s t) (f : PortRecord → PortRecord) :
    PortCleared p s (modPort p f t) where
  attention := cleared.attention
  holds := cleared.holds
  staging := cleared.staging
  others x other := ⟨by rw [modPort_ports, PerPort.get_set_of_ne _ _ other, (cleared.others x other).1],
    (cleared.others x other).2⟩
  within := (within_modPort p f rfl).mpr cleared.within

/-! ## The commands -/

/-- A break already taken is not taken again. -/
theorem lineBreak_of_taken (taken : (s.ports.get p).inBreak = true) : lineBreak p s = s := if_pos taken

/-- A fresh break resets the port and holds its receiver. -/
theorem lineBreak_of_fresh (fresh : (s.ports.get p).inBreak = false) :
    lineBreak p s = modPort p (fun r => { r with inBreak := true }) (portReset p s) := by
  rw [lineBreak, fresh]
  rfl

end

/-- Settles O15: the three line events on the port's own record, and the reset by a break and by PORT_RESET. -/
theorem lineEventsAndPortResetActOnTheirPort : Obligations.LineEventsAndPortResetActOnTheirPort := by
  unfold Obligations.LineEventsAndPortResetActOnTheirPort
  refine ⟨fun p s running => ⟨event_of_not_held (replySent p) running, event_of_not_held (lineReturnToMark p) running,
    fun taken => ?_, fun fresh => ?_⟩, fun p q s accepts => ?_⟩
  · rw [exec, execLineBreak, event_of_not_held _ running, lineBreak_of_taken taken]
  · have cleared := (portReset_cleared p s).then_modPort fun r => { r with inBreak := true }
    have record : ((modPort p (fun r => { r with inBreak := true }) (portReset p s)).ports.get p)
        = { receiver := .hunting, inBreak := true, replies := keptReplies (s.ports.get p).replies } := by
      simp only [modPort_ports, portReset_ports, PerPort.get_set_self]
    refine ⟨_, (event_of_not_held _ running).trans (congrArg _ (lineBreak_of_fresh fresh)), ?_, ?_, ?_, ?_,
      cleared.attention, cleared.holds, cleared.staging, cleared.others, cleared.within⟩
    · rw [record]
    · rw [record]
    · rw [record]
      exact keptReplies_replies _
    · rw [record]
      exact keptReplies_not_pending _
  · have ⟨_, mark, free⟩ := accepts
    have cleared := (portReset_cleared p s).then_modPort fun r => { r with
      replies := r.replies ++ [{ kind := .order, reply := { seq := q, id := 0x62, answer := .done, results := .none } }] }
    refine ⟨_, order_answered q 0x62 (act := doneAfter (portReset p)) accepts rfl, ?_, cleared.attention, cleared.holds,
      cleared.staging, cleared.others, cleared.within⟩
    simp only [replied, pushReply, modPort_ports, portReset_ports, PerPort.get_set_self, mark,
      keptReplies_of_not_pending free]

end Sys2Proof.Machine
end

section
/-! SUPPORT. The cause sets stay as R188 gives them through the prompt table, the climate loops, the step queues, the
generator and the descale controller. A lemma `then_f` says that the operation `f` keeps them so; the proofs have the shape
of the definitions, and an operation that posts no cause passes by its frame. -/

namespace Sys2Proof.Machine

section
variable {s t : State} {c : Cavity} {o : Owner}

/-- An operation that posts nothing. -/
theorem CausesOk.then_within {g : Parts} (h : CausesOk s) (w : Within g s t) (k : g.attention = false) : CausesOk t :=
  h.of_same (w.attention_eq k)

theorem CausesOk.ite {p : Prop} [Decidable p] (hs : CausesOk s) (ht : CausesOk t) : CausesOk (if p then s else t) := by
  split
  · exact hs
  · exact ht

theorem CausesOk.then_broadcast {x : Cause} (h : CausesOk s) : CausesOk (broadcast x s) := broadcast_ok x h

theorem CausesOk.then_post {p : Port} {x : Cause} (h : CausesOk s) : CausesOk (post p x s) := post_ok p x h

/-! ## The prompt table (R155, R159) -/

theorem CausesOk.then_removePrompt {r : ClearReason} (h : CausesOk s) : CausesOk (removePrompt o r s) := by
  unfold removePrompt
  split
  · exact CausesOk.then_broadcast (s := setPrompt o none s) h
  · exact h

theorem CausesOk.then_cancelPrompt (h : CausesOk s) : CausesOk (cancelPrompt o s) := h.then_removePrompt

theorem CausesOk.then_raisePrompt {code timeout : Nat} {x : Placement} {b : Bool} {y : Option OnTimeout}
    (h : CausesOk s) : CausesOk (raisePrompt o code x b timeout y s) := by
  unfold raisePrompt
  extract_lets removed id placed counted
  have placed_ok : CausesOk counted := h.then_removePrompt (o := o) (r := .replaced)
  exact placed_ok.then_broadcast

theorem CausesOk.then_raiseDevice {code : Nat} (h : CausesOk s) : CausesOk (raiseDevice o code s) := h.then_raisePrompt

theorem CausesOk.then_raiseRecipe {p : PromptSub} (h : CausesOk s) : CausesOk (raiseRecipe c p s) := h.then_raisePrompt

theorem CausesOk.then_clearStepPrompts (h : CausesOk s) : CausesOk (clearStepPrompts c s) := by
  unfold clearStepPrompts
  split
  · exact .ite h.then_cancelPrompt h
  · exact h

theorem CausesOk.then_cancelProbePrompt (h : CausesOk s) : CausesOk (cancelProbePrompt c s) := by
  unfold cancelProbePrompt
  split
  · exact .ite h.then_cancelPrompt h
  · exact h

/-! ## The climate loops (R29, R52, R56) -/

theorem CausesOk.then_enterHold {x : Case} {n : Nat} (h : CausesOk s) : CausesOk (enterHold c x n s) := by
  unfold enterHold
  extract_lets load held
  have holds : CausesOk (modRun c (fun r => { r with phase := some .hold }) held) := h
  exact holds.then_broadcast

theorem CausesOk.then_approachTest (h : CausesOk s) : CausesOk (approachTest c s) := by
  unfold approachTest
  split
  · exact h
  · split
    · exact h
    · exact .ite h.then_enterHold h

theorem CausesOk.then_approachSample {n : Nat} (h : CausesOk s) : CausesOk (approachSample c n s) := by
  unfold approachSample
  extract_lets run
  refine .ite ?_ h
  split
  · split
    · exact .ite h.then_enterHold h
    · exact h
  all_goals exact h

theorem CausesOk.then_demandComputation (h : CausesOk s) : CausesOk (demandComputation c s) :=
  h.then_within (demandComputation_within c s) rfl

/-! ## The step queues (R9 to R19) -/

theorem CausesOk.then_append {x : Record} (h : CausesOk s) : CausesOk (append c x s) := h

theorem CausesOk.then_copyOne {i : Nat} (h : CausesOk s) : CausesOk (copyOne c i s) := by
  unfold copyOne
  extract_lets records copied
  have copies : CausesOk copied := by
    dsimp only [copied]
    split
    · exact h.then_append
    · exact h
  exact .ite copies copies

theorem CausesOk.then_copyWhile {k : Nat} {b : Bool} (h : CausesOk s) : CausesOk (copyWhile k b c s) := by
  induction k generalizing s with
  | zero => exact h
  | succ k ih =>
    unfold copyWhile
    split
    · exact h
    · exact .ite h (.ite h (ih h.then_copyOne))

theorem CausesOk.then_noteOutstanding (h : CausesOk s) : CausesOk (noteOutstanding c s) := h

theorem CausesOk.then_readerRefill (h : CausesOk s) : CausesOk (readerRefill c s) := h.then_copyWhile.then_noteOutstanding

theorem CausesOk.then_readerAgain (h : CausesOk s) : CausesOk (readerAgain c s) :=
  .ite h.then_copyWhile.then_noteOutstanding h

theorem CausesOk.then_requestRefill (h : CausesOk s) : CausesOk (requestRefill c s) := by
  unfold requestRefill
  split
  · exact h.then_post
  · exact h.then_readerRefill

theorem CausesOk.then_afterChange {n : Nat} (h : CausesOk s) : CausesOk (afterChange c n s) :=
  .ite h.then_requestRefill h.then_readerAgain

theorem CausesOk.then_modQueue {f : StepQueue → StepQueue} (h : CausesOk s) : CausesOk (modQueue c f s) := h

theorem CausesOk.then_loseMark (h : CausesOk s) : CausesOk (loseMark c s) := h.then_modQueue.then_broadcast

theorem CausesOk.then_walk {k : Nat} (h : CausesOk s) : CausesOk (walk k c s).1 := by
  induction k generalizing s with
  | zero => exact h
  | succ k ih =>
    unfold walk
    extract_lets queue
    split
    · split
      · exact ih h.then_loseMark.then_copyWhile.then_noteOutstanding
      · exact h
    · split
      · exact h.then_modQueue.then_afterChange
      · exact ih h.then_modQueue.then_afterChange
      · extract_lets told
        have tells : CausesOk told := .ite h h.then_broadcast
        exact ih tells.then_modQueue.then_afterChange

/-! ## The meter and the scale account (R96, R116 to R126) -/

theorem CausesOk.then_modScale {f : Scale → Scale} (h : CausesOk s) : CausesOk (modScale f s) := h

theorem CausesOk.then_modRun {f : Run → Run} (h : CausesOk s) : CausesOk (modRun c f s) := h

theorem CausesOk.then_refuse (h : CausesOk s) : CausesOk (refuse c s) := by
  unfold refuse
  split
  · exact h
  · exact .ite h (.ite h.then_modRun h.then_modRun.then_broadcast)

theorem CausesOk.then_refuseBoth (h : CausesOk s) : CausesOk (refuseBoth s) := h.then_refuse.then_refuse

theorem CausesOk.then_thresholdTest {r : ScaleReason} (h : CausesOk s) : CausesOk (thresholdTest r s) := by
  unfold thresholdTest
  extract_lets warned locked
  have warns : CausesOk warned := .ite h.then_modScale.then_broadcast h
  have locks : CausesOk locked := warns.then_modScale.then_broadcast
  exact .ite (.ite locks.then_refuseBoth locks) warns

theorem CausesOk.then_setPoints {n m : Nat} {r : ScaleReason} (h : CausesOk s) : CausesOk (setPoints n m r s) := by
  unfold setPoints
  extract_lets old tested
  have tests : CausesOk tested := h.then_modScale.then_thresholdTest
  exact .ite tests (tests.then_within (saveScale_within _) rfl)

theorem CausesOk.then_accrue {n : Nat} (h : CausesOk s) : CausesOk (accrue n s) := h.then_setPoints

theorem CausesOk.then_slowReport (h : CausesOk s) : CausesOk (slowReport s) := .ite h.then_setPoints h

theorem CausesOk.then_meterBegin {w : WaterSource} {u : Purpose} (h : CausesOk s) : CausesOk (meterBegin w u s) := h

theorem CausesOk.then_meterIncomplete (h : CausesOk s) : CausesOk (meterIncomplete s) := h

theorem CausesOk.then_meterComplete (h : CausesOk s) : CausesOk (meterComplete s) := by
  unfold meterComplete
  split
  · exact h
  · exact .ite (CausesOk.then_accrue (s := { s with meter := _ }) h) h

/-! ## The steam generator (R91 to R110) -/

theorem CausesOk.then_modGen {f : Gen → Gen} (h : CausesOk s) : CausesOk (modGen f s) := h

theorem CausesOk.then_enterGen {g : GenState} {prep : Gen → Gen} (h : CausesOk s) : CausesOk (enterGen g prep s) := by
  unfold enterGen
  extract_lets left before instructed posted
  have instructs : CausesOk instructed := h.then_modGen.then_within (heatInstruction_within g _) rfl
  have posts : CausesOk posted := instructs.then_broadcast
  exact .ite posts posts.then_refuseBoth

theorem CausesOk.then_abandonFill (h : CausesOk s) : CausesOk (abandonFill s) :=
  .ite h.then_meterIncomplete.then_cancelPrompt.then_modGen h

theorem CausesOk.then_startDrain {x : AfterDrain} (h : CausesOk s) : CausesOk (startDrain x s) :=
  h.then_abandonFill.then_enterGen

theorem CausesOk.then_dropWait (h : CausesOk s) : CausesOk (dropWait s) := .ite h.then_startDrain h

theorem CausesOk.then_enterWaterWait (h : CausesOk s) : CausesOk (enterWaterWait s) :=
  h.then_enterGen.then_raiseDevice.then_modGen.then_dropWait

theorem CausesOk.then_completeSteamFill (h : CausesOk s) : CausesOk (completeSteamFill s) :=
  h.then_meterComplete.then_cancelPrompt.then_enterGen

theorem CausesOk.then_waitIfAbsent (h : CausesOk s) : CausesOk (waitIfAbsent s) := .ite h.then_enterWaterWait h

theorem CausesOk.then_startSteamFill (h : CausesOk s) : CausesOk (startSteamFill s) := by
  unfold startSteamFill
  extract_lets src entered begun
  have begins : CausesOk begun := h.then_enterGen.then_meterBegin
  exact .ite begins.then_completeSteamFill begins.then_waitIfAbsent

theorem CausesOk.then_fillIfWanted (h : CausesOk s) : CausesOk (fillIfWanted s) := .ite h.then_startSteamFill h

theorem CausesOk.then_enterEmpty (h : CausesOk s) : CausesOk (enterEmpty s) := h.then_enterGen.then_fillIfWanted

theorem CausesOk.then_refillAnswered (h : CausesOk s) : CausesOk (refillAnswered s) :=
  .ite h.then_enterGen.then_waitIfAbsent h

theorem CausesOk.then_cutWindow (h : CausesOk s) : CausesOk (cutWindow c s) := .ite h.then_enterGen h

theorem CausesOk.then_demandPresent (h : CausesOk s) : CausesOk (demandPresent c s) := h.then_refuse.then_fillIfWanted

theorem CausesOk.then_demandAbsent (h : CausesOk s) : CausesOk (demandAbsent c s) :=
  h.then_modGen.then_cutWindow.then_dropWait

theorem CausesOk.then_holdIdle (h : CausesOk s) : CausesOk (holdIdle s) := .ite h.then_modGen h

theorem CausesOk.then_syncDemand (h : CausesOk s) : CausesOk (syncDemand c s) := by
  unfold syncDemand
  extract_lets old new told
  have tells : CausesOk told := h.then_modGen
  apply CausesOk.then_holdIdle
  split
  · exact .ite tells tells.then_demandAbsent
  · exact tells.then_cutWindow
  · exact .ite tells tells.then_demandPresent

theorem CausesOk.then_serve (h : CausesOk s) : CausesOk (serve c s) := by
  unfold serve
  extract_lets paid chosen
  have serves : CausesOk chosen := h
  exact .ite serves serves.then_enterGen

theorem CausesOk.then_gainCredit (h : CausesOk s) : CausesOk (gainCredit c s) := .ite h.then_modGen h

theorem CausesOk.then_windowEnd (h : CausesOk s) : CausesOk (windowEnd s) := by
  unfold windowEnd
  extract_lets gained
  have gains : CausesOk gained := h.then_modGen.then_gainCredit.then_gainCredit
  refine .ite ?_ h
  split
  · exact gains.then_serve
  · exact .ite gains.then_enterGen gains

theorem CausesOk.then_lowDry (h : CausesOk s) : CausesOk (lowDry s) :=
  .ite (.ite h.then_startDrain h.then_startSteamFill) h

theorem CausesOk.then_genFaultCore {k : FaultKind} (h : CausesOk s) : CausesOk (genFaultCore k s) :=
  h.then_abandonFill.then_enterGen.then_broadcast

/-! ## The descale controller (R128 to R140) -/

theorem CausesOk.then_modProc {f : Procedure → Procedure} (h : CausesOk s) : CausesOk (modProc f s) := h

theorem CausesOk.then_saveProcedure (h : CausesOk s) : CausesOk (saveProcedure s) :=
  h.then_within (saveProcedure_within s) rfl

theorem CausesOk.then_enterPhase {x : ProcPhase} (h : CausesOk s) : CausesOk (enterPhase x s) :=
  h.then_modProc.then_broadcast.then_saveProcedure

theorem CausesOk.then_enterIdle {k : ProcKind} {x : Outcome} (h : CausesOk s) : CausesOk (enterIdle k x s) := by
  unfold enterIdle
  extract_lets idle drawn
  have draws : CausesOk drawn.1 := h
  exact draws.then_broadcast.then_saveProcedure

theorem CausesOk.then_giveBack (h : CausesOk s) : CausesOk (giveBack s) := by
  have abandoned := h.then_abandonFill
  exact .ite abandoned.then_startDrain (.ite abandoned.then_startDrain abandoned.then_enterEmpty)

theorem CausesOk.then_abortCore {r : ProcAbort} (h : CausesOk s) : CausesOk (abortCore r s) :=
  h.then_modProc.then_cancelPrompt.then_enterIdle.then_broadcast

theorem CausesOk.then_abortProcedure {r : ProcAbort} (h : CausesOk s) : CausesOk (abortProcedure r s) :=
  h.then_abortCore.then_giveBack

theorem CausesOk.then_genFault {k : FaultKind} (h : CausesOk s) : CausesOk (genFault k s) :=
  .ite h (.ite h.then_genFaultCore.then_abortCore h.then_genFaultCore)

theorem CausesOk.then_takeOver (h : CausesOk s) : CausesOk (takeOver s) := h.then_abandonFill.then_enterGen

theorem CausesOk.then_enterDrain {x : ProcPhase} (h : CausesOk s) : CausesOk (enterDrain x s) :=
  h.then_enterPhase.then_modGen.then_within (stopTimer_within .genHeat _) rfl

theorem CausesOk.then_enterWaiting {x : ProcPhase} (h : CausesOk s) : CausesOk (enterWaiting x s) :=
  h.then_enterPhase.then_raiseDevice.then_modProc

theorem CausesOk.then_enterHeatSoak (h : CausesOk s) : CausesOk (enterHeatSoak s) :=
  h.then_enterPhase.then_within (restartTimer_within .genHeat _ _ _) rfl

theorem CausesOk.then_enterSoak (h : CausesOk s) : CausesOk (enterSoak s) :=
  h.then_enterPhase.then_modProc.then_within (soakCompute_within _) rfl

theorem CausesOk.then_descaleFillDone (h : CausesOk s) : CausesOk (descaleFillDone s) := by
  unfold descaleFillDone
  extract_lets complete
  have completes : CausesOk complete := h.then_modGen.then_meterComplete
  exact .ite completes.then_modProc.then_enterHeatSoak completes.then_enterDrain

theorem CausesOk.then_descaleStall (h : CausesOk s) : CausesOk (descaleStall s) := by
  unfold descaleStall
  extract_lets src stalled
  have stalls : CausesOk stalled := h.then_modGen.then_meterIncomplete
  refine .ite stalls.then_enterWaiting ?_
  clear_value src
  cases src
  · exact stalls.then_enterWaiting
  · exact stalls.then_abortProcedure

theorem CausesOk.then_enterFill {x : ProcPhase} {w : WaterSource} {u : Purpose} (h : CausesOk s) :
    CausesOk (enterFill x w u s) := by
  unfold enterFill
  extract_lets entered instructed begun
  have instructs : CausesOk instructed := h.then_enterPhase.then_modGen
  have begins : CausesOk begun := (instructs.then_within (stopTimer_within .genHeat _) rfl).then_meterBegin
  exact .ite begins.then_descaleFillDone (.ite begins.then_descaleStall begins)

theorem CausesOk.then_enterRinse (h : CausesOk s) : CausesOk (enterRinse s) := by
  unfold enterRinse
  split
  · exact h.then_enterFill
  · exact h.then_enterWaiting
  · exact h.then_enterWaiting

theorem CausesOk.then_descaleComplete (h : CausesOk s) : CausesOk (descaleComplete s) := by
  unfold descaleComplete
  extract_lets done posted
  have entered : CausesOk done := h.then_modProc.then_enterPhase
  have zeroed : CausesOk (zeroScale done) := entered.then_within (zeroScale_within done) rfl
  exact zeroed.then_broadcast.then_enterIdle.then_giveBack

theorem CausesOk.then_rinseComplete (h : CausesOk s) : CausesOk (rinseComplete s) :=
  h.then_modProc.then_enterIdle.then_giveBack

theorem CausesOk.then_descaleDrainDone (h : CausesOk s) : CausesOk (descaleDrainDone s) := by
  unfold descaleDrainDone
  extract_lets drained rinse
  have drains : CausesOk drained := h.then_modGen
  split
  · exact drains.then_enterWaiting
  · exact drains.then_modProc.then_enterRinse
  · refine .ite drains.then_modProc.then_enterRinse ?_
    split
    · exact drains.then_rinseComplete
    · exact drains.then_descaleComplete
    · exact drains.then_descaleComplete
  all_goals exact drains

theorem CausesOk.then_descaleAnswered (h : CausesOk s) : CausesOk (descaleAnswered s) := by
  unfold descaleAnswered
  split
  · exact h.then_enterFill
  · exact h.then_enterFill
  all_goals exact h

theorem CausesOk.then_soakEnd (h : CausesOk s) : CausesOk (soakEnd s) := .ite h.then_enterDrain h

/-! ## Steam events -/

theorem CausesOk.then_overfillTest (h : CausesOk s) : CausesOk (overfillTest s) := by
  unfold overfillTest
  split
  · exact .ite h.then_genFault h
  · exact h

theorem CausesOk.then_flowPulse {n : Nat} (h : CausesOk s) : CausesOk (flowPulse n s) := by
  have pulsed : CausesOk { s with meter := meterPulse n s.meter } := h
  exact (pulsed.then_within (feedWatchdog_within _) rfl).then_overfillTest

theorem CausesOk.then_fillStall (h : CausesOk s) : CausesOk (fillStall s) := by
  unfold fillStall
  refine .ite h.then_descaleStall ?_
  split
  · exact .ite h.then_genFault h.then_enterWaterWait
  · exact h

theorem CausesOk.then_watchdogStall (h : CausesOk s) : CausesOk (watchdogStall s) := .ite h.then_fillStall h

theorem CausesOk.then_tankRemovedAtGen (h : CausesOk s) : CausesOk (tankRemovedAtGen s) := .ite h.then_fillStall h

theorem CausesOk.then_highWet (h : CausesOk s) : CausesOk (highWet s) := by
  unfold highWet
  extract_lets wetted
  have wets : CausesOk wetted := h.then_modGen
  exact .ite h (.ite wets (.ite wets.then_descaleFillDone (.ite wets.then_completeSteamFill wets)))

theorem CausesOk.then_levelLowDry {b : Bool} (h : CausesOk s) : CausesOk (levelLowDry b s) := by
  have dried : CausesOk (dryHigh b s) := h.then_within (dryHigh_within b s) rfl
  exact .ite dried.then_modGen.then_lowDry dried

theorem CausesOk.then_idleDrain (h : CausesOk s) : CausesOk (idleDrain s) := .ite h.then_startDrain h

theorem CausesOk.then_drainComplete (h : CausesOk s) : CausesOk (drainComplete s) := by
  unfold drainComplete
  refine .ite ?_ h
  split
  · exact h.then_descaleDrainDone
  · exact h.then_enterGen
  · exact h.then_enterEmpty
  · exact h.then_enterEmpty

theorem CausesOk.then_drainFail (h : CausesOk s) : CausesOk (drainFail s) := .ite h.then_genFault h

theorem CausesOk.then_heatSlow (h : CausesOk s) : CausesOk (heatSlow s) :=
  .ite h.then_modGen.then_broadcast.then_slowReport h

theorem CausesOk.then_genSample {n : Nat} (h : CausesOk s) : CausesOk (genSample n s) :=
  .ite h.then_genFault (.ite (.ite h.then_enterGen h) (.ite (.ite h.then_enterSoak h) h))

end

end Sys2Proof.Machine
end

section
/-! SUPPORT. The cause sets stay as R188 gives them through the cavity runs, the prompts, the inputs, the settings, the
store and the ports. -/

namespace Sys2Proof.Machine

section
variable {s : State} {c : Cavity} {o : Owner} {p : Port}

/-! ## Step entry and run ends (R28 to R41) -/

theorem CausesOk.then_settle (h : CausesOk s) : CausesOk (settle c s) := by
  have climate : CausesOk (settleClimate c s) := h.then_within (settleClimate_within c s) rfl
  exact (climate.then_within (syncFreeze_within c _) rfl).then_syncDemand

theorem CausesOk.then_coreEntry (h : CausesOk s) : CausesOk (coreEntry c s) :=
  .ite (.ite h.then_modRun h.then_raiseDevice) h

theorem CausesOk.then_enterPhases {a : Action} (h : CausesOk s) : CausesOk (enterPhases c a s) := by
  unfold enterPhases
  split
  · exact h.then_modRun.then_raiseRecipe
  · split
    · exact h.then_approachTest.then_raiseRecipe.then_coreEntry
    · exact h.then_approachTest.then_coreEntry

theorem CausesOk.then_enterStep {load : Nat} {a : Action} (h : CausesOk s) : CausesOk (enterStep c load a s) := by
  unfold enterStep
  extract_lets recorded started formed computed
  have records : CausesOk recorded := h.then_modRun
  have starts : CausesOk started := (records.then_within (climateTake_within c a _) rfl).then_broadcast
  have forms : CausesOk formed := starts.then_enterPhases.then_within (reformPair_within c _ _) rfl
  have computes : CausesOk computed := forms.then_demandComputation
  exact .ite computes.then_refuse computes

theorem CausesOk.then_leaveEntry (h : CausesOk s) : CausesOk (leaveEntry c s) :=
  .ite h.then_approachTest.then_coreEntry h

theorem CausesOk.then_endRun {x : RunState} {r : Option AbortReason} (h : CausesOk s) : CausesOk (endRun c x r s) := by
  have stopped : CausesOk (stopCavity c (modRun c (endedRecord x r) s)) :=
    h.then_modRun.then_within (stopCavity_within c _) rfl
  exact (stopped.then_within (climateEnd_within c _) rfl).then_modQueue

theorem CausesOk.then_finish (h : CausesOk s) : CausesOk (finish c s) := h.then_endRun.then_broadcast

theorem CausesOk.then_starveOverrun (h : CausesOk s) : CausesOk (starveOverrun c s) := by
  unfold starveOverrun
  extract_lets lost
  have loses : CausesOk lost := h.then_loseMark
  refine .ite ?_ h
  split
  · exact loses.then_post
  · exact loses

theorem CausesOk.then_starve (h : CausesOk s) : CausesOk (starve c s) := by
  unfold starve
  extract_lets overran entered held
  have holds : CausesOk held := h.then_starveOverrun
  split
  · exact holds.then_broadcast
  · exact holds

theorem CausesOk.then_afterWalk {x : State × Option (Nat × Action)} (h : CausesOk x.1) : CausesOk (afterWalk c x) := by
  unfold afterWalk
  split
  · exact h.then_enterStep
  · exact .ite h.then_finish h.then_starve

theorem CausesOk.then_stepEnd (h : CausesOk s) : CausesOk (stepEnd c s) := h.then_clearStepPrompts.then_walk.then_afterWalk

theorem CausesOk.then_endCondition (h : CausesOk s) : CausesOk (endCondition c s) := by
  unfold endCondition
  split
  · exact h.then_modRun.then_cancelProbePrompt.then_raiseRecipe
  · exact h.then_stepEnd

theorem CausesOk.then_tryEnd (h : CausesOk s) : CausesOk (tryEnd c s) := .ite h.then_endCondition h

theorem CausesOk.then_abortRun {r : AbortReason} (h : CausesOk s) : CausesOk (abortRun c r s) :=
  h.then_cancelPrompt.then_endRun.then_broadcast

theorem CausesOk.then_abortInProgress {r : AbortReason} (h : CausesOk s) : CausesOk (abortInProgress c r s) :=
  .ite h.then_abortRun h

/-! ## Pause, resume and start (R25 to R27, R38, R39) -/

theorem CausesOk.then_pause {r : PauseReason} (h : CausesOk s) : CausesOk (pause c r s) := by
  unfold pause
  extract_lets run paused
  have pauses (x : PausedFrom) : CausesOk (paused x) := h.then_modRun.then_broadcast
  split
  · exact pauses _
  · exact pauses _
  all_goals exact h

theorem CausesOk.then_makeDeferred (h : CausesOk s) : CausesOk (makeDeferred c s) := by
  unfold makeDeferred
  split
  · exact h.then_leaveEntry
  · exact h.then_stepEnd
  all_goals exact h

theorem CausesOk.then_feedCheck (h : CausesOk s) : CausesOk (feedCheck c s) := .ite h.then_abortRun.then_settle h

theorem CausesOk.then_resume (h : CausesOk s) : CausesOk (resume c s) := by
  unfold resume
  extract_lets run back resumed overlaid owed
  have resumes : CausesOk resumed := h.then_modRun
  have overlays : CausesOk overlaid := .then_modRun (.ite resumes.then_makeDeferred resumes)
  have owes : CausesOk owed := .ite overlays overlays
  exact owes.then_settle.then_feedCheck

theorem CausesOk.then_startRefill (h : CausesOk s) : CausesOk (startRefill c s) := .ite h.then_requestRefill h

theorem CausesOk.then_enterRunning (h : CausesOk s) : CausesOk (enterRunning c s) := by
  unfold enterRunning
  extract_lets running
  have runs : CausesOk running := h
  exact (runs.then_within (syncFreeze_within c _) rfl).then_walk.then_afterWalk.then_settle

theorem CausesOk.then_delayEnd (h : CausesOk s) : CausesOk (delayEnd c s) := .ite h.then_enterRunning h

theorem CausesOk.then_delayExpiry (h : CausesOk s) : CausesOk (delayExpiry c s) :=
  .ite h.then_delayEnd.then_delayEnd h.then_delayEnd

/-! ## Timed events, probe reports, overlays and watches -/

theorem CausesOk.then_stepTimeEnd (h : CausesOk s) : CausesOk (stepTimeEnd c s) :=
  .ite h.then_modRun.then_tryEnd.then_settle h

theorem CausesOk.then_feederEnd (h : CausesOk s) : CausesOk (feederEnd c s) := .ite h.then_abortRun.then_settle h

theorem CausesOk.then_doorTimeoutEnd (h : CausesOk s) : CausesOk (doorTimeoutEnd c s) := .ite h.then_pause.then_settle h

theorem CausesOk.then_recipeAnswered {x : Placement} (h : CausesOk s) : CausesOk (recipeAnswered c x s) := by
  unfold recipeAnswered
  cases x
  case before => exact .ite h.then_modRun (.ite h.then_leaveEntry.then_settle h)
  case after => exact .ite h.then_modRun (.ite h.then_stepEnd.then_settle h)
  case notice => exact h
  case device => exact h

theorem CausesOk.then_resumeForProbe (h : CausesOk s) : CausesOk (resumeForProbe c s) := .ite h.then_resume h

theorem CausesOk.then_probePromptAcked (h : CausesOk s) : CausesOk (probePromptAcked c s) :=
  .then_resumeForProbe (.ite h.then_modRun h)

theorem CausesOk.then_probeLost (h : CausesOk s) : CausesOk (probeLost c s) := by
  unfold probeLost
  extract_lets run waiting
  have waits : CausesOk waiting := h.then_modRun.then_raiseDevice
  exact .ite (.ite h.then_modRun (.ite waits.then_pause.then_settle waits)) h

theorem CausesOk.then_probeFound (h : CausesOk s) : CausesOk (probeFound c s) :=
  h.then_within (probeFound_within c s) rfl

/-- An overlay taken up or lifted writes the run record and hands over what follows (R45, R47). -/
theorem CausesOk.then_overlay {f : Run → Run} (h : CausesOk s) : CausesOk (settle c (modRun c f s)) :=
  h.then_modRun.then_settle

theorem CausesOk.then_mainsAbort (h : CausesOk s) : CausesOk (mainsAbort c s) := .ite h.then_abortRun.then_settle h

theorem CausesOk.then_evalWatch {n r : Nat} {x : WatchSource} (h : CausesOk s) : CausesOk (evalWatch c n x r s).1 := by
  unfold evalWatch
  split
  · split
    · exact CausesOk.then_broadcast (s := modClimate c _ s) h
    · exact h
  · exact h

theorem CausesOk.then_watchEnd {x : Option WatchAction} (h : CausesOk s) : CausesOk (watchEnd c x s) :=
  .ite h.then_tryEnd.then_settle h

theorem CausesOk.then_watchPause {x : Option WatchAction} (h : CausesOk s) : CausesOk (watchPause c x s) :=
  .ite h.then_pause h

theorem CausesOk.then_evalWatches {x : WatchSource} {n : Nat} (h : CausesOk s) : CausesOk (evalWatches c x n s) :=
  h.then_evalWatch.then_evalWatch.then_watchEnd.then_watchEnd.then_watchPause.then_watchPause.then_settle

theorem CausesOk.then_coreSample {n : Nat} (h : CausesOk s) : CausesOk (coreSample c n s) := by
  unfold coreSample
  extract_lets run
  split
  · exact .ite h.then_tryEnd.then_settle h
  · exact h

/-! ## Prompts (R156 to R158) -/

theorem CausesOk.then_reportAnswer {e : Prompt} (h : CausesOk s) : CausesOk (reportAnswer o e s) := by
  unfold reportAnswer
  split
  · exact h.then_recipeAnswered
  · exact .ite h.then_refillAnswered h.then_descaleAnswered

theorem CausesOk.then_answerPrompt {r : ClearReason} (h : CausesOk s) : CausesOk (answerPrompt o r s) := by
  unfold answerPrompt
  split
  · exact h.then_removePrompt.then_reportAnswer
  · exact h

theorem CausesOk.then_ackEntry {e : Prompt} (h : CausesOk s) : CausesOk (ackEntry o e p s) := by
  unfold ackEntry
  split
  · exact .ite h.then_removePrompt.then_probePromptAcked h.then_answerPrompt
  · exact h.then_answerPrompt

theorem CausesOk.then_setPrompt {x : Option Prompt} (h : CausesOk s) : CausesOk (setPrompt o x s) := h

theorem CausesOk.then_doorOpenPrompt (h : CausesOk s) : CausesOk (doorOpenPrompt c s) := by
  unfold doorOpenPrompt
  split
  · exact h.then_setPrompt
  · exact h

theorem CausesOk.then_doorClosePrompt (h : CausesOk s) : CausesOk (doorClosePrompt c s) := by
  unfold doorClosePrompt
  split
  · exact .ite h.then_answerPrompt h
  · exact h

theorem CausesOk.then_tankMark (h : CausesOk s) : CausesOk (tankMark o s) := by
  unfold tankMark
  split
  · exact .ite h.then_setPrompt h
  · exact h

theorem CausesOk.then_tankAnswer (h : CausesOk s) : CausesOk (tankAnswer o s) := by
  unfold tankAnswer
  split
  · exact .ite h.then_answerPrompt h
  · exact h

theorem CausesOk.then_probeAnswer (h : CausesOk s) : CausesOk (probeAnswer c s) := by
  unfold probeAnswer
  split
  · exact .ite h.then_removePrompt.then_resumeForProbe h
  · exact h

theorem CausesOk.then_timeoutPause {e : Prompt} (h : CausesOk s) : CausesOk (timeoutPause o e s) := by
  unfold timeoutPause
  extract_lets marked
  have marks : CausesOk marked := h.then_setPrompt
  split
  · exact marks.then_pause.then_settle
  · exact marks

theorem CausesOk.then_timeoutAbort (h : CausesOk s) : CausesOk (timeoutAbort o s) := by
  unfold timeoutAbort
  split
  · exact h.then_removePrompt.then_abortInProgress.then_settle
  · exact h.then_removePrompt

theorem CausesOk.then_promptTimeout (h : CausesOk s) : CausesOk (promptTimeout o s) := by
  unfold promptTimeout
  split
  · refine .ite ?_ h
    split
    · exact h.then_timeoutAbort
    · exact .ite h.then_answerPrompt h.then_timeoutPause
    all_goals exact h.then_answerPrompt
  · exact h

/-! ## Sensors, probes, doors, tank, limits and mains (R161 to R171) -/

section
variable {x : Sensor}

theorem CausesOk.then_deliver {n : Nat} (h : CausesOk s) : CausesOk (deliver x n s) := by
  cases x
  case genTemp => exact h.then_genSample
  case cavTempA => exact h.then_approachSample.then_evalWatches
  case cavTempB => exact h.then_approachSample.then_evalWatches
  case coreA => exact h.then_coreSample.then_evalWatches
  case coreB => exact h.then_coreSample.then_evalWatches

theorem CausesOk.then_handFault (h : CausesOk s) : CausesOk (handFault x s) := by
  cases x
  case genTemp => exact h.then_genFault
  case cavTempA => exact h.then_abortInProgress.then_settle
  case cavTempB => exact h.then_abortInProgress.then_settle
  case coreA => exact h.then_probeLost
  case coreB => exact h.then_probeLost

theorem CausesOk.then_handClear (h : CausesOk s) : CausesOk (handClear x s) := by
  cases x
  case coreA => exact h.then_probeFound.then_probeAnswer
  case coreB => exact h.then_probeFound.then_probeAnswer
  all_goals exact h

theorem CausesOk.then_sensorSample {v : Sample} (h : CausesOk s) : CausesOk (sensorSample x v s) := by
  unfold sensorSample
  extract_lets reading before out sampled
  have samples : CausesOk sampled := h
  split
  · exact samples
  · exact samples.then_deliver
  · exact samples.then_broadcast.then_handFault
  · exact samples.then_broadcast.then_handClear.then_deliver

end

theorem CausesOk.then_probeInsertion (h : CausesOk s) : CausesOk (probeInsertion c s) := by
  unfold probeInsertion
  extract_lets present
  have inserted : CausesOk present := h
  exact .ite h inserted.then_broadcast.then_probeFound.then_probeAnswer

theorem CausesOk.then_probeRemoval (h : CausesOk s) : CausesOk (probeRemoval c s) := by
  unfold probeRemoval
  extract_lets absent
  have removed : CausesOk absent := h
  exact .ite removed.then_broadcast.then_probeLost h

theorem CausesOk.then_doorOpen (h : CausesOk s) : CausesOk (doorOpen c s) := by
  have opened : CausesOk { s with doorOpen := s.doorOpen.set c true } := h
  exact .ite h opened.then_broadcast.then_overlay.then_doorOpenPrompt

theorem CausesOk.then_doorClose (h : CausesOk s) : CausesOk (doorClose c s) := by
  have closed : CausesOk { s with doorOpen := s.doorOpen.set c false } := h
  exact .ite closed.then_broadcast.then_overlay.then_doorClosePrompt h

theorem CausesOk.then_tankRemoval (h : CausesOk s) : CausesOk (tankRemoval s) := by
  have removed : CausesOk { s with tankPresent := false } := h
  exact .ite removed.then_tankRemovedAtGen.then_tankMark.then_tankMark h

theorem CausesOk.then_tankInsertion (h : CausesOk s) : CausesOk (tankInsertion s) := by
  have inserted : CausesOk { s with tankPresent := true } := h
  exact .ite h inserted.then_tankAnswer.then_tankAnswer

theorem CausesOk.then_limitTrip (h : CausesOk s) : CausesOk (limitTrip c s) := by
  unfold limitTrip
  extract_lets tripped
  have trips : CausesOk tripped := h
  exact .ite h trips.then_broadcast.then_abortInProgress.then_settle

theorem CausesOk.then_mainsLow (h : CausesOk s) : CausesOk (mainsLow s) := by
  unfold mainsLow
  extract_lets low
  have lowers : CausesOk low := h
  exact .ite h (lowers.then_broadcast.then_within (withdrawAll_within allLoads _) rfl).then_overlay.then_overlay

theorem CausesOk.then_mainsBack (h : CausesOk s) : CausesOk (mainsBack s) := by
  unfold mainsBack
  extract_lets back
  have supplied : CausesOk back := h
  exact .ite (supplied.then_broadcast.then_within (grantDecision_within _) rfl).then_overlay.then_overlay h

theorem CausesOk.then_mainsAbortProcedure (h : CausesOk s) : CausesOk (mainsAbortProcedure s) :=
  .ite h h.then_abortProcedure

theorem CausesOk.then_mainsLowExpiry (h : CausesOk s) : CausesOk (mainsLowExpiry s) := by
  unfold mainsLowExpiry
  extract_lets expired
  have expires : CausesOk expired := h
  exact .ite expires.then_mainsAbort.then_mainsAbort.then_mainsAbortProcedure h

/-! ## Settings (R195) -/

theorem CausesOk.then_doorTimeoutCheck (h : CausesOk s) : CausesOk (doorTimeoutCheck c s) := .ite h.then_doorTimeoutEnd h

theorem CausesOk.then_feedTimeoutCheck (h : CausesOk s) : CausesOk (feedTimeoutCheck c s) := .ite h.then_feederEnd h

theorem CausesOk.then_idleDrainCheck (h : CausesOk s) : CausesOk (idleDrainCheck s) := .ite h.then_idleDrain h

theorem CausesOk.then_soakTimeCheck (h : CausesOk s) : CausesOk (soakTimeCheck s) := .ite h.then_enterDrain h

theorem CausesOk.then_settingConsequence {x : SettingId} (h : CausesOk s) : CausesOk (settingConsequence x s) := by
  cases x
  case budget | rating | chain => exact h.then_within (cutAndDecide_within s) rfl
  case scaleWarn | scaleLock => exact h.then_thresholdTest
  case flowCal => exact h.then_overfillTest
  case doorTimeout => exact h.then_doorTimeoutCheck.then_doorTimeoutCheck
  case feedTimeout => exact h.then_feedTimeoutCheck.then_feedTimeoutCheck
  case idleDrain => exact h.then_idleDrainCheck
  case soakTime => exact h.then_soakTimeCheck
  all_goals exact h

theorem CausesOk.then_putSetting {x : SettingId} {v : Settings} (h : CausesOk s) : CausesOk (putSetting x v s).1 :=
  CausesOk.then_settingConsequence (s := { s with settings := v }) h

/-! ## The store's writes, the holds and the ports (R153, R184, R187, R191, R192) -/

theorem CausesOk.then_completeWrite {e : WriteEntry} {b : Bool} (h : CausesOk s) : CausesOk (completeWrite e b s) := by
  cases e
  case commit => exact .then_post (.ite h h)
  case erase => exact .then_post (.ite h h)
  case settings => exact .then_post (.ite h h)
  case scale =>
    have noted : CausesOk (modScale (fun a => { a with saveResult := some (resultOf b) }) s) := h
    exact .ite noted (noted.then_within (saveScale_within _) rfl)
  case procedure =>
    have noted : CausesOk (modProc (fun r => { r with saveResult := some (resultOf b) }) s) := h
    exact .ite noted noted.then_saveProcedure

theorem CausesOk.then_storeWriteComplete {b : Bool} (h : CausesOk s) : CausesOk (storeWriteComplete b s) := by
  unfold storeWriteComplete
  split
  · exact h
  · next e _ =>
    have left : CausesOk (modStore (fun t => { t with inFlight := none }) s) := h
    exact (left.then_completeWrite (e := e)).then_within (beginWrite_within _) rfl

theorem CausesOk.then_holdExpiry {x : HoldObject} (h : CausesOk s) : CausesOk (holdExpiry x s) := by
  unfold holdExpiry
  split
  · exact (h.then_within (freeHold_within x s) rfl).then_post
  · exact h

/-- A port's attention record replaced by one whose set is as R188 gives it. -/
theorem CausesOk.set_port {a : Attention} (h : CausesOk s) (ok : CauseSetOk a.causes) :
    CausesOk { s with attention := s.attention.set p a } := by
  intro j
  simp only [PerPort.get_set]
  split
  · exact ok
  · exact h j

/-- STARTED stands alone in the set of a port reset (R187). -/
theorem causeSetOk_started (n : Nat) : CauseSetOk [causeEntry (.started n)] := by
  obtain ⟨low, high, one⟩ := causeEntry_ok (.started n)
  refine ⟨List.pairwise_singleton _ _, fun e mem => ?_⟩
  obtain rfl := List.mem_singleton.mp mem
  exact ⟨low, high, by omega, by omega⟩

theorem CausesOk.then_portReset (h : CausesOk s) : CausesOk (portReset p s) := by
  intro j
  rw [portReset_attention]
  exact CausesOk.set_port h (causeSetOk_started 2) j

theorem CausesOk.then_lineBreak (h : CausesOk s) : CausesOk (lineBreak p s) := .ite h h.then_portReset

/-- The entries left after the first are a cause set too (R191). -/
theorem CauseSetOk.tail {e : CauseEntry} {es : List CauseEntry} (h : CauseSetOk (e :: es)) : CauseSetOk es := by
  obtain ⟨falling, bounds⟩ := h
  exact ⟨falling.tail, fun x mem => bounds x (List.mem_cons_of_mem e mem)⟩

theorem CausesOk.then_readCause (h : CausesOk s) : CausesOk (readCause p s).1 := by
  unfold readCause
  extract_lets record
  split
  · exact h
  · next e es found =>
    have ok : CauseSetOk (e :: es) := found ▸ h p
    exact h.set_port ok.tail

theorem CausesOk.then_setCauseMask {m : BitVec 32} (h : CausesOk s) : CausesOk (setCauseMask p m s).1 := by
  unfold setCauseMask
  split
  · exact h
  · exact h.set_port (h p)

end

end Sys2Proof.Machine
end

section
/-! SUPPORT. The cause sets stay as R188 gives them through every order's block (R23 to R43, R108 to R110, R130 to R138,
R156, R169, R187, R191, R192, R195) and through every frame that carries an order (R177, R178, R181, R182). -/

namespace Sys2Proof.Machine

/-- An order's act keeps the cause sets as R188 gives them. -/
def ActKeepsCauses (act : Act) : Prop := ∀ s, CausesOk s → CausesOk (act s).1

section
variable {p : Port} {params : List Byte} {act : Act}

theorem ActKeepsCauses.deny (a : Answer) : ActKeepsCauses (deny a) := fun _ h => h

theorem ActKeepsCauses.ite {q : Prop} [Decidable q] {act' : Act} (h : ActKeepsCauses act) (h' : ActKeepsCauses act') :
    ActKeepsCauses (if q then act else act') := by
  split
  · exact h
  · exact h'

/-- An act that posts nothing. -/
theorem ActKeepsCauses.of_within {g : Parts} (w : ∀ s, Within g s (act s).1) (k : g.attention = false) :
    ActKeepsCauses act := fun s h => h.then_within (w s) k

/-- The hold check restarts an expiry and no more (R184). -/
theorem ActKeepsCauses.withHold {need : Option HoldObject} (h : ActKeepsCauses act) :
    ActKeepsCauses (withHold p need act) := by
  intro s ok
  unfold Machine.withHold
  split
  · exact h s ok
  · split
    · split
      · exact h _ ok
      · exact ok
    · exact ok

theorem ActKeepsCauses.counted {b : Bool} (h : ActKeepsCauses act) : ActKeepsCauses (counted b act) := by
  intro s ok
  unfold Machine.counted
  split
  · exact h s ok
  · exact ok

theorem ActKeepsCauses.noParams (h : ActKeepsCauses act) : ActKeepsCauses (noParams params act) := by
  unfold Machine.noParams
  split
  · exact h
  · exact .deny _

theorem ActKeepsCauses.oneByte {act : Byte → Act} (h : ∀ b, ActKeepsCauses (act b)) :
    ActKeepsCauses (oneByte params act) := by
  unfold Machine.oneByte
  split
  · exact h _
  · exact .deny _

theorem ActKeepsCauses.cavityAct {b : Byte} {need : Cavity → Option HoldObject} {act : Cavity → Act}
    (h : ∀ c, ActKeepsCauses (act c)) : ActKeepsCauses (cavityAct p b need act) := by
  intro s ok
  unfold Machine.cavityAct
  split
  · exact ok
  · exact ActKeepsCauses.withHold (h _) s ok

theorem ActKeepsCauses.oneCavity {need : Cavity → Option HoldObject} {act : Cavity → Act}
    (h : ∀ c, ActKeepsCauses (act c)) : ActKeepsCauses (oneCavity p params need act) := by
  unfold Machine.oneCavity
  split
  · exact .cavityAct h
  · exact .deny _

end

section
variable {s : State} {c : Cavity} {p : Port}

/-! ## Orders on the runs -/

theorem CausesOk.then_openWith {o : Opened} (h : CausesOk s) : CausesOk (openWith c o s) := by
  unfold openWith
  extract_lets reader idle opened fresh
  have freshes : CausesOk fresh := h
  exact .ite freshes.then_readerRefill freshes

theorem CausesOk.then_openRun {x y z : Byte} (h : CausesOk s) : CausesOk (openRun p x y z c s).1 := by
  unfold openRun
  split
  · exact h
  · split
    · exact h
    · split
      · exact h
      · split
        · exact h
        · extract_lets empty opened
          split
          · exact h
          · exact h.then_openWith

theorem CausesOk.then_starvedWalk (h : CausesOk s) : CausesOk (starvedWalk c s) := by
  unfold starvedWalk
  extract_lets x
  have walks : CausesOk x.1 := h.then_walk
  split
  · exact walks.then_modRun.then_enterStep.then_settle
  · exact walks

theorem CausesOk.then_loadStep {r : List Byte} (h : CausesOk s) : CausesOk (loadStep p r c s).1 := by
  unfold loadStep
  extract_lets run
  split
  · exact h
  · split
    · exact h
    · split
      · exact h
      · split
        · exact h
        · exact .ite h.then_append.then_starvedWalk h.then_append

theorem CausesOk.then_close (h : CausesOk s) : CausesOk (close c s) := h

theorem CausesOk.then_closeRun (h : CausesOk s) : CausesOk (closeRun p c s).1 := by
  unfold closeRun
  extract_lets run
  split
  · exact h
  · split
    · exact h
    · split
      · exact h
      · split
        · exact h.then_close.then_clearStepPrompts.then_finish.then_settle
        · exact h.then_close

theorem CausesOk.then_enterDelayed {n : Nat} {b : Bool} (h : CausesOk s) : CausesOk (enterDelayed c n b s) := h

theorem CausesOk.then_startRun {d : Half} (h : CausesOk s) : CausesOk (startRun d c s).1 := by
  unfold startRun
  split
  · exact .ite h.then_startRefill.then_enterRunning h.then_startRefill.then_enterDelayed
  · exact h

theorem CausesOk.then_startLinked {d : Half} (h : CausesOk s) : CausesOk (startLinked d s).1 := by
  unfold startLinked
  split
  · exact .ite h.then_startRefill.then_enterRunning.then_startRefill.then_enterRunning
      h.then_startRefill.then_enterDelayed.then_startRefill.then_enterDelayed
  · exact h

theorem CausesOk.then_pauseRun (h : CausesOk s) : CausesOk (pauseRun c s).1 := by
  unfold pauseRun
  split
  · exact h.then_pause.then_settle
  · exact h.then_pause.then_settle
  all_goals exact h

theorem CausesOk.then_resumeRun (h : CausesOk s) : CausesOk (resumeRun c s).1 := by
  unfold resumeRun
  split
  · exact h.then_resume
  · exact h

theorem CausesOk.then_toIdle (h : CausesOk s) : CausesOk (toIdle c s) := h

theorem CausesOk.then_stopRun (h : CausesOk s) : CausesOk (stopRun c s).1 := by
  have aborts : CausesOk (settle c (abortRun c .stop s)) := h.then_abortRun.then_settle
  unfold stopRun
  split
  · exact h.then_endRun.then_toIdle.then_settle
  · exact aborts
  · exact aborts
  · exact aborts
  · exact aborts
  all_goals exact h

theorem CausesOk.then_clearRun (h : CausesOk s) : CausesOk (clearRun c s).1 := h.then_within (clearRun_within c s) rfl

theorem CausesOk.then_adopt {old : Port} (h : CausesOk s) : CausesOk (adopt p old c s) := by
  unfold adopt
  extract_lets adopted told
  have tells : CausesOk told := CausesOk.then_post (s := adopted) h
  exact .ite tells.then_requestRefill tells

theorem CausesOk.then_adoptRun (h : CausesOk s) : CausesOk (adoptRun p c s).1 := by
  unfold adoptRun
  extract_lets run
  split
  · exact h
  · split
    · exact h
    · split
      · exact h
      · exact h.then_adopt

theorem CausesOk.then_skipEffect (h : CausesOk s) : CausesOk (skipEffect c s) := by
  unfold skipEffect
  split
  · exact h.then_endCondition
  · exact h.then_endCondition
  · exact h.then_cancelPrompt.then_endCondition
  · exact h.then_cancelPrompt.then_stepEnd
  · exact h

theorem CausesOk.then_skipStep (h : CausesOk s) : CausesOk (skipStep c s).1 := by
  unfold skipStep
  extract_lets run
  split
  · exact h.then_skipEffect.then_settle
  · exact h

theorem CausesOk.then_adjust {a : Adjustment} (h : CausesOk s) : CausesOk (adjust c a s) := by
  unfold adjust
  extract_lets adjusted
  have adjusts : CausesOk adjusted := h.then_modRun
  apply CausesOk.then_settle
  split
  · exact adjusts.then_within (climateAdjust_within c _ _) rfl
  · exact adjusts

theorem CausesOk.then_adjustStep {x y z : Byte} {n : Half} (h : CausesOk s) : CausesOk (adjustStep x y n z c s).1 := by
  unfold adjustStep
  extract_lets run
  split
  · exact h
  · split
    · split
      · exact h
      · split
        · split
          · exact h
          · exact h.then_adjust
        · exact h
    · exact h

theorem CausesOk.then_clearLimit (h : CausesOk s) : CausesOk (clearLimit c s).1 := by
  unfold clearLimit
  split
  · exact h
  · exact CausesOk.then_settle (s := { s with limitLatch := _ }) h

/-! ## Orders on the generator, the descale controller, the prompts and the settings -/

theorem CausesOk.then_drainGen (h : CausesOk s) : CausesOk (drainGen s).1 := by
  have drains : CausesOk (if anyDemand s then deny .steamInUse s else doneAfter (startDrain .empty) s).1 := by
    split
    · exact h
    · exact h.then_startDrain
  unfold drainGen
  split
  · exact drains
  · exact drains
  · exact drains
  · exact drains
  · exact drains
  all_goals exact h

theorem CausesOk.then_genReset (h : CausesOk s) : CausesOk (genReset s).1 := by
  unfold genReset
  split
  · exact h.then_startDrain
  · exact h

theorem CausesOk.then_startDescale (h : CausesOk s) : CausesOk (startDescale s).1 := by
  unfold startDescale
  split
  · exact h
  · split
    · exact h
    · split
      · exact h
      · exact h.then_modProc.then_takeOver.then_enterDrain

theorem CausesOk.then_startRinse (h : CausesOk s) : CausesOk (startRinse s).1 := by
  unfold startRinse
  split
  · exact h
  · split
    · exact h
    · split
      · exact h
      · exact h.then_modProc.then_takeOver.then_enterRinse

theorem CausesOk.then_abortDescale (h : CausesOk s) : CausesOk (abortDescale s).1 := by
  unfold abortDescale
  split
  · exact h
  · exact h.then_abortProcedure

theorem CausesOk.then_ackPrompt {id : Half} (h : CausesOk s) : CausesOk (ackPrompt p id s).1 := by
  unfold ackPrompt
  split
  · exact h
  · split
    · exact h.then_ackEntry
    · exact h

theorem CausesOk.then_changeSetting {x : SettingId} {v : List Byte} (h : CausesOk s) :
    CausesOk (changeSetting x v s).1 := by
  unfold changeSetting
  split
  · split
    · split
      · exact h.then_putSetting
      · exact h
    · exact h
  · split
    · split
      · exact h.then_putSetting
      · exact h
    · exact h

theorem CausesOk.then_setParam {id : Byte} {v : List Byte} (h : CausesOk s) : CausesOk (setParam p id v s).1 := by
  unfold setParam
  split
  · exact h
  · split
    · exact h
    · split
      · exact h
      · exact h.then_changeSetting

end

/-! ## Orders in frames -/

theorem runAct_keepsCauses (p : Port) (id : Byte) (params : List Byte) : ActKeepsCauses (runAct p id params) := by
  unfold runAct
  refine .ite ?openRun (.ite ?loadStep (.ite ?closeRun (.ite ?startRun (.ite ?startLinked (.ite ?pauseRun
    (.ite ?resumeRun (.ite ?stopRun (.ite ?clearRun (.ite ?adoptRun (.ite ?skipStep (.ite ?adjustStep
    (.ite ?setWatch (.ite ?clearWatch (.ite ?readRun (.deny _)))))))))))))))
  case openRun =>
    split
    · exact .cavityAct fun _ _ => .then_openRun
    · exact .deny _
  case loadStep =>
    split
    · exact .counted (.cavityAct fun _ _ => .then_loadStep)
    · exact .deny _
  case closeRun => exact .oneCavity fun _ _ => .then_closeRun
  case startRun =>
    split
    · exact .cavityAct fun _ _ => .then_startRun
    · exact .deny _
  case startLinked =>
    split
    · exact .withHold fun _ => .then_startLinked
    · exact .deny _
  case pauseRun => exact .oneCavity fun _ _ => .then_pauseRun
  case resumeRun => exact .oneCavity fun _ _ => .then_resumeRun
  case stopRun => exact .oneCavity fun _ _ => .then_stopRun
  case clearRun => exact .oneCavity fun _ _ => .then_clearRun
  case adoptRun => exact .oneCavity fun _ _ => .then_adoptRun
  case skipStep => exact .oneCavity fun _ _ => .then_skipStep
  case adjustStep =>
    split
    · exact .cavityAct fun _ _ => .then_adjustStep
    · exact .deny _
  case setWatch =>
    split
    · exact .cavityAct fun c => .of_within (setWatch_within _ _ _ _ _ c) rfl
    · exact .deny _
  case clearWatch =>
    split
    · exact .cavityAct fun c => .of_within (clearWatch_within _ c) rfl
    · exact .deny _
  case readRun => exact .oneCavity fun c => .of_within (readRun_within c) rfl

theorem storeAct_keepsCauses (p : Port) (id : Byte) (params : List Byte) : ActKeepsCauses (storeAct p id params) := by
  unfold storeAct
  refine .ite ?storeOpen (.ite ?storeLabel (.ite ?storeStep (.ite ?storeCommit (.ite ?storeCancel (.ite ?eraseProgram
    (.ite ?readProgram (.ite ?setParam (.ite ?readParam (.ite ?saveSettings (.deny _))))))))))
  case storeOpen => exact .oneByte fun b => .withHold (.of_within (storeOpen_within p b) rfl)
  case storeLabel =>
    split
    · exact .counted (.withHold (.of_within (storeLabel_within _) rfl))
    · exact .deny _
  case storeStep => exact .counted (.withHold (.of_within (storeStep_within _) rfl))
  case storeCommit => exact .noParams (.withHold (.of_within (storeCommit_within p) rfl))
  case storeCancel => exact .noParams (.withHold (.of_within storeCancel_within rfl))
  case eraseProgram => exact .oneByte fun b => .withHold (.of_within (eraseProgram_within p b) rfl)
  case readProgram =>
    split
    · exact .withHold (.of_within (readProgram_within _ _) rfl)
    · exact .deny _
  case setParam =>
    split
    · exact .withHold fun _ => .then_setParam
    · exact .deny _
  case readParam => exact .oneByte fun b => .withHold (.of_within (readParam_within b) rfl)
  case saveSettings => exact .noParams (.withHold (.of_within (saveSettings_within p) rfl))

theorem otherAct_keepsCauses (p : Port) (id : Byte) (params : List Byte) : ActKeepsCauses (otherAct p id params) := by
  unfold otherAct
  refine .ite ?ackPrompt (.ite ?readPrompts (.ite ?takeHold (.ite ?releaseHold (.ite ?drainGen (.ite ?genReset
    (.ite ?readGen (.ite ?startDescale (.ite ?abortDescale (.ite ?startRinse (.ite ?readDescale (.ite ?readWater
    (.ite ?readLoads (.ite ?readSensors (.ite ?clearLimit (.ite ?readCause (.ite ?setCauseMask (.ite ?portReset
    (.deny _))))))))))))))))))
  case ackPrompt =>
    split
    · exact .withHold fun _ => .then_ackPrompt
    · exact .deny _
  case readPrompts => exact .noParams (.withHold (.of_within readPrompts_within rfl))
  case takeHold => exact .oneByte fun b => .withHold (.of_within (takeHold_within p b) rfl)
  case releaseHold => exact .oneByte fun b => .withHold (.of_within (releaseHold_within p b) rfl)
  case drainGen => exact .noParams (.withHold fun _ => .then_drainGen)
  case genReset => exact .noParams (.withHold fun _ => .then_genReset)
  case readGen => exact .noParams (.withHold (.of_within readGen_within rfl))
  case startDescale => exact .noParams (.withHold fun _ => .then_startDescale)
  case abortDescale => exact .noParams (.withHold fun _ => .then_abortDescale)
  case startRinse => exact .noParams (.withHold fun _ => .then_startRinse)
  case readDescale => exact .noParams (.withHold (.of_within readDescale_within rfl))
  case readWater => exact .noParams (.withHold (.of_within readWater_within rfl))
  case readLoads => exact .noParams (.withHold (.of_within readLoads_within rfl))
  case readSensors => exact .noParams (.withHold (.of_within readSensors_within rfl))
  case clearLimit => exact .oneCavity fun _ _ => .then_clearLimit
  case readCause => exact .noParams (.withHold fun _ => .then_readCause)
  case setCauseMask =>
    split
    · exact .withHold fun _ => .then_setCauseMask
    · exact .deny _
  case portReset => exact .noParams (.withHold fun _ => .then_portReset)

theorem frameAct_keepsCauses (p : Port) (id : Byte) (params : List Byte) : ActKeepsCauses (frameAct p id params) :=
  .ite (runAct_keepsCauses p id params) (.ite (storeAct_keepsCauses p id params) (otherAct_keepsCauses p id params))

/-! ## The receiver (R173, R177) -/

section
variable {s : State} {p : Port}

theorem CausesOk.then_takeFrame {q id : Byte} {act : Act} (h : CausesOk s) (k : ActKeepsCauses act) :
    CausesOk (takeFrame p q id act s) := .ite h (.ite (.ite h h) (k s h))

theorem CausesOk.then_frameEnd {n : Byte} {taken : List Byte} (h : CausesOk s) : CausesOk (frameEnd p n taken s) := by
  unfold frameEnd
  extract_lets body
  refine .ite ?_ h
  clear_value body
  split
  · exact h.then_takeFrame (frameAct_keepsCauses _ _ _)
  · exact h

theorem CausesOk.then_receiveByte {b : Byte} (h : CausesOk s) : CausesOk (receiveByte p b s) := by
  unfold receiveByte
  extract_lets port put
  have puts {x : Receiver} : CausesOk (put x s) := h
  refine .ite h ?_
  split
  · exact puts
  · exact .ite puts puts
  · exact .ite puts puts.then_frameEnd

theorem CausesOk.then_receiveBytes {bs : List Byte} (h : CausesOk s) : CausesOk (receiveBytes p bs s) := by
  induction bs generalizing s with
  | nil => exact h
  | cons b bs ih => exact ih h.then_receiveByte

theorem CausesOk.then_byteAfterGap {b : Byte} (h : CausesOk s) : CausesOk (byteAfterGap p b s) :=
  CausesOk.then_receiveByte (s := modPort p _ s) h

end

end Sys2Proof.Machine
end

section
/-! SUPPORT. Every step keeps the cause sets as R188 gives them: the end of a device reset, the passing of time, and the
commands. -/

namespace Sys2Proof.Machine

section
variable {s t : State} {c : Cavity} {l : Load}

/-! ## The end of a device reset (R199, R200) -/

/-- STARTED stands alone in every set before the events of a start-up (R200). -/
theorem causesOk_poweredState (inputs : StartInputs) (s : State) : CausesOk (poweredState inputs s) := by
  intro p
  cases p <;> exact causeSetOk_started _

theorem CausesOk.then_examineSave {r : Option ProcRecord} (h : CausesOk s) : CausesOk (examineSave r s) := by
  unfold examineSave
  split
  · exact .ite h.then_saveProcedure h
  · exact h

theorem CausesOk.then_startGenerator (h : CausesOk s) : CausesOk (startGenerator s) := by
  unfold startGenerator
  extract_lets x drawn started
  have draws : CausesOk drawn := h
  have starts : CausesOk started := .ite draws.then_modGen draws
  exact starts.then_broadcast

theorem CausesOk.then_startLimit {active : Bool} (h : CausesOk s) : CausesOk (startLimit c active s) :=
  .ite h.then_limitTrip h

theorem CausesOk.then_startFault {x : Sensor} (h : CausesOk s) : CausesOk (startFault x s) :=
  .ite h.then_broadcast.then_handFault h

theorem CausesOk.then_startEvents {inputs : StartInputs} (h : CausesOk s) : CausesOk (startEvents inputs s) := by
  unfold startEvents
  extract_lets limited powered
  have limits : CausesOk limited := h.then_startLimit.then_startLimit
  have powers : CausesOk powered := .ite limits.then_mainsLow limits
  exact powers.then_startFault.then_startFault.then_startFault.then_startFault.then_startFault

theorem causesOk_deviceReset (inputs : StartInputs) (s : State) : CausesOk (deviceReset inputs s) :=
  (causesOk_poweredState inputs s).then_examineSave.then_startGenerator.then_startEvents

/-! ## The passing of a tenth of a second -/

theorem CausesOk.then_whenDue {due : State → Bool} {f : State → State} (h : CausesOk s)
    (k : ∀ {t}, CausesOk t → CausesOk (f t)) : CausesOk (whenDue due f s) := .ite (k h) h

theorem CausesOk.then_dueRun (h : CausesOk s) : CausesOk (dueRun c s) :=
  ((((h.then_whenDue .then_delayExpiry).then_whenDue .then_feederEnd).then_whenDue .then_doorTimeoutEnd).then_whenDue
    .then_stepTimeEnd).then_whenDue fun k => k.then_within (regulationUpdate_within c _) rfl

theorem CausesOk.then_duePrompt {o : Owner} (h : CausesOk s) : CausesOk (duePrompt o s) :=
  h.then_whenDue .then_promptTimeout

/-- The ends of drive intervals post nothing. -/
theorem CausesOk.then_dueTimer (h : CausesOk s) : CausesOk (dueTimer l s) := by
  unfold dueTimer
  extract_lets zero onEnded offEnded
  have ended : CausesOk offEnded := (h.then_whenDue fun k => k.then_within (onExpiry_within l _) rfl).then_whenDue
    fun k => k.then_within (offExpiry_within l _) rfl
  split
  · exact ended.then_whenDue fun k => k.then_within (pairOffEnd_within _ _) rfl
  all_goals exact ended

theorem CausesOk.then_dueTimers {ls : List Load} (h : CausesOk s) : CausesOk (dueTimers ls s) := by
  induction ls generalizing s with
  | nil => exact h
  | cons l ls ih => exact ih h.then_dueTimer

theorem CausesOk.then_dueGen (h : CausesOk s) : CausesOk (dueGen s) :=
  ((((((((h.then_whenDue fun k => k.then_within (soakUpdate_within _) rfl).then_whenDue .then_soakEnd).then_whenDue
    .then_watchdogStall).then_whenDue .then_drainComplete).then_whenDue .then_drainFail).then_whenDue
    .then_heatSlow).then_whenDue .then_windowEnd).then_whenDue .then_idleDrain).then_whenDue
    fun k => k.then_within (quietEnd_within _) rfl

theorem CausesOk.then_dueHold {x : HoldObject} (h : CausesOk s) : CausesOk (dueHold x s) :=
  h.then_whenDue .then_holdExpiry

theorem CausesOk.then_takeDue (h : CausesOk s) : CausesOk (takeDue s) :=
  (h.then_whenDue .then_mainsLowExpiry).then_dueRun.then_dueRun.then_duePrompt.then_duePrompt.then_dueTimers.then_dueGen
    |>.then_dueHold.then_dueHold.then_dueHold

theorem CausesOk.then_tick (h : CausesOk s) : CausesOk (tick s) :=
  .ite h (CausesOk.then_takeDue (s := advance s) h)

/-! ## Every step -/

/-- An event keeps the cause sets when its effect does. -/
theorem CausesOk.of_event {f : State → State} (ok : CausesOk s) (h : CausesOk (f s)) (e : event f s = .next t) :
    CausesOk t := by
  unfold event at e
  split at e
  · obtain rfl := Host.Outcome.next.inj e; exact ok
  · obtain rfl := Host.Outcome.next.inj e; exact h

/-- An event that posts nothing. -/
theorem CausesOk.of_event_within {g : Parts} {f : State → State} (ok : CausesOk s) (w : Within g s (f s))
    (k : g.attention = false) (e : event f s = .next t) : CausesOk t := ok.of_event (f := f) (ok.then_within w k) e

theorem exec_order_causesOk {i : Instr} {p : Port} {q id : Byte} (hk : orderKey i = some (p, q, id)) (ok : CausesOk s)
    (e : exec i s = .next t) : CausesOk t := by
  rw [exec_eq_takeFrame i p q id hk] at e
  exact ok.of_event (f := takeFrame p q id (frameAct p id (orderParams i)))
    (ok.then_takeFrame (frameAct_keepsCauses _ _ _)) e

theorem exec_event_causesOk {i : Instr} (hk : orderKey i = none) (ok : CausesOk s) (e : exec i s = .next t) :
    CausesOk t := by
  cases i
  case frameReceived => exact ok.of_event ok.then_receiveBytes e
  case interByteGap => exact ok.of_event ok.then_byteAfterGap e
  case replySent => exact ok.of_event_within (replySent_within _ s) rfl e
  case lineBreak => exact ok.of_event ok.then_lineBreak e
  case lineReturnToMark => exact ok.of_event_within (lineReturnToMark_within _ s) rfl e
  case deviceReset inputs => obtain rfl := Host.Outcome.next.inj e; exact causesOk_deviceReset inputs s
  case resetHeld => obtain rfl := Host.Outcome.next.inj e; exact ok
  case delayExpiry => exact ok.of_event ok.then_delayExpiry e
  case stepTimeExpiry => exact ok.of_event ok.then_stepTimeEnd e
  case feederTimeout => exact ok.of_event ok.then_feederEnd e
  case doorTimeout => exact ok.of_event ok.then_doorTimeoutEnd e
  case regulationUpdate => exact ok.of_event_within (regulationUpdate_within _ s) rfl e
  case offIntervalExpiry => exact ok.of_event_within (offExpiry_within _ s) rfl e
  case onIntervalExpiry => exact ok.of_event_within (onExpiry_within _ s) rfl e
  case pairOffExpiry => exact ok.of_event_within (pairOffEnd_within _ s) rfl e
  case soakUpdate => exact ok.of_event_within (soakUpdate_within s) rfl e
  case soakTimeExpiry => exact ok.of_event ok.then_soakEnd e
  case sensorSample => exact ok.of_event ok.then_sensorSample e
  case probeInsertion => exact ok.of_event ok.then_probeInsertion e
  case probeRemoval => exact ok.of_event ok.then_probeRemoval e
  case doorOpen => exact ok.of_event ok.then_doorOpen e
  case doorClose => exact ok.of_event ok.then_doorClose e
  case tankRemoval => exact ok.of_event ok.then_tankRemoval e
  case tankInsertion => exact ok.of_event ok.then_tankInsertion e
  case limitTrip => exact ok.of_event ok.then_limitTrip e
  case limitRelease c => exact ok.of_event (f := limitRelease c) ok e
  case mainsLow => exact ok.of_event ok.then_mainsLow e
  case mainsBack => exact ok.of_event ok.then_mainsBack e
  case mainsLowExpiry => exact ok.of_event ok.then_mainsLowExpiry e
  case holdExpiry => exact ok.of_event ok.then_holdExpiry e
  case storeWriteComplete => exact ok.of_event ok.then_storeWriteComplete e
  case promptTimeout => exact ok.of_event ok.then_promptTimeout e
  case levelHighWet => exact ok.of_event ok.then_highWet e
  case levelLowDry => exact ok.of_event ok.then_levelLowDry e
  case levelLowWet => exact ok.of_event_within (levelLowWets_within _ s) rfl e
  case fillWatchdogStall => exact ok.of_event ok.then_watchdogStall e
  case windowEnd => exact ok.of_event ok.then_windowEnd e
  case idleDrain => exact ok.of_event ok.then_idleDrain e
  case drainComplete => exact ok.of_event ok.then_drainComplete e
  case drainFail => exact ok.of_event ok.then_drainFail e
  case heatSlow => exact ok.of_event ok.then_heatSlow e
  case flowPulse => exact ok.of_event ok.then_flowPulse e
  case quietTimeExpiry => exact ok.of_event_within (quietEnd_within s) rfl e
  all_goals exact absurd hk nofun

/-- Every command keeps the cause sets as R188 gives them. -/
theorem exec_causesOk {i : Instr} (ok : CausesOk s) (e : exec i s = .next t) : CausesOk t := by
  cases hk : orderKey i with
  | none => exact exec_event_causesOk hk ok e
  | some key =>
    obtain ⟨p, q, id⟩ := key
    exact exec_order_causesOk hk ok e

end

/-- Settles O8: the front command keeps the cause sets as R188 gives them, and so does the passing of time. -/
theorem everyStepKeepsTheCauseSetsOrdered : Obligations.EveryStepKeepsTheCauseSetsOrdered := by
  unfold Obligations.EveryStepKeepsTheCauseSetsOrdered
  intro s t ok e
  unfold step at e
  split at e
  · obtain rfl := Host.Outcome.next.inj e
    exact ok.then_tick
  · next i rest _ => exact exec_causesOk (s := { s with pending := rest }) ok e

end Sys2Proof.Machine
end

section
/-! SUPPORT. The attention unit: what a posting makes of the entry of each code (R189), what READ_CAUSE takes out (R191) and
what a new mask keeps out (R192). -/

namespace Sys2Proof.Machine

/-! ## Postings (R189) -/

section
variable {e y : CauseEntry} {l : List CauseEntry} {n : Nat}

theorem find?_code_of_eq (same : y.code = n) : (y :: l).find? (fun x => x.code == n) = some y :=
  List.find?_cons_of_pos (beq_iff_eq.mpr same)

theorem find?_code_of_ne (ne : y.code ≠ n) :
    (y :: l).find? (fun x => x.code == n) = l.find? (fun x => x.code == n) :=
  List.find?_cons_of_neg fun same => ne (beq_iff_eq.mp same)

/-- In a set in falling order of code, nothing stands under a code above the first. -/
theorem find?_code_of_gt (falling : ((y :: l).map (·.code)).Pairwise (· > ·)) (above : y.code < n) :
    (y :: l).find? (fun x => x.code == n) = none := by
  obtain ⟨below, -⟩ := List.pairwise_cons.mp falling
  refine List.find?_eq_none.mpr fun x mem same => Nat.ne_of_lt ?_ (beq_iff_eq.mp same)
  rcases List.mem_cons.mp mem with rfl | later
  · exact above
  · exact (below x.code (List.mem_map_of_mem later)).trans above

/-- A posting leaves what stands under every other code. -/
theorem find?_addCause_of_ne (ne : e.code ≠ n) :
    (addCause e l).find? (fun x => x.code == n) = l.find? (fun x => x.code == n) := by
  induction l with
  | nil => exact find?_code_of_ne ne
  | cons y ys ih =>
    unfold addCause
    split
    · next same =>
      rw [find?_code_of_ne (y := y) (same ▸ ne)]
      exact find?_code_of_ne ne
    · split
      · exact find?_code_of_ne ne
      · rw [List.find?_cons, List.find?_cons, ih]

/-- A posted code stands in the set with its own detail, and with one more than the count before where it stood there. -/
theorem find?_addCause_self (falling : (l.map (·.code)).Pairwise (· > ·)) :
    (addCause e l).find? (fun x => x.code == e.code)
      = some { e with
          count := (l.find? (fun x => x.code == e.code)).elim e.count fun y => min 255 (y.count + 1) } := by
  induction l with
  | nil => exact find?_code_of_eq rfl
  | cons y ys ih =>
    unfold addCause
    split
    · next same =>
      rw [find?_code_of_eq (y := y) same.symm]
      exact find?_code_of_eq rfl
    · next ne =>
      split
      · next below =>
        rw [find?_code_of_gt falling below]
        exact find?_code_of_eq rfl
      · rw [find?_code_of_ne (y := y) (Ne.symm ne), find?_code_of_ne (y := y) (Ne.symm ne)]
        exact ih falling.tail

end

/-- Settles O21: a masked code leaves the record, an enabled one is added or coalesced. -/
theorem offeredCauseIsAddedOrCoalesced : Obligations.OfferedCauseIsAddedOrCoalesced := by
  unfold Obligations.OfferedCauseIsAddedOrCoalesced
  refine fun x a ok => ⟨offer_of_masked, fun enabled => ⟨offer_mask _ _, offer_ok x ok, ?own, fun n ne => ?others⟩⟩
  case own =>
    obtain ⟨falling, -⟩ := ok
    obtain ⟨-, -, one⟩ := causeEntry_ok x
    rw [offer_of_enabled enabled, find?_addCause_self falling, one]
    cases a.causes.find? (fun e => e.code == (causeEntry x).code) <;> rfl
  case others =>
    rw [offer_of_enabled enabled]
    exact find?_addCause_of_ne ne.symm

/-! ## READ_CAUSE (R191) -/

section
variable {p : Port} {s : State} {e : CauseEntry} {es : List CauseEntry}

theorem readCause_of_empty (empty : (s.attention.get p).causes = []) :
    readCause p s = (s, .done, .cause { code := 0, count := 0, subject := 0, reason := 0, value1 := 0, value2 := 0 } 0) := by
  simp only [readCause, empty]

/-- The first entry is read out and leaves the set. -/
theorem readCause_of_cons (found : (s.attention.get p).causes = e :: es) :
    readCause p s = ({ s with attention := s.attention.set p { s.attention.get p with causes := es } }, .done,
      .cause e es.length) := by
  simp only [readCause, found]

/-- The first code of a set is the highest. -/
theorem CauseSetOk.code_lt_head (ok : CauseSetOk (e :: es)) : ∀ x ∈ es, x.code < e.code := by
  obtain ⟨falling, -⟩ := ok
  obtain ⟨below, -⟩ := List.pairwise_cons.mp falling
  exact fun x mem => below x.code (List.mem_map_of_mem mem)

/-- A set holds at most one entry of each of the codes 1 to 31 (R188). -/
theorem CauseSetOk.length_le {l : List CauseEntry} (ok : CauseSetOk l) : l.length ≤ 31 := by
  obtain ⟨falling, bounds⟩ := ok
  have once : (l.map (·.code)).Nodup := falling.imp Nat.ne_of_gt
  have listed : l.map (·.code) ⊆ List.range' 1 31 := by
    intro n mem
    obtain ⟨x, inSet, rfl⟩ := List.mem_map.mp mem
    obtain ⟨low, high, -⟩ := bounds x inSet
    exact List.mem_range'_1.mpr ⟨low, by omega⟩
  calc l.length = (l.map (·.code)).length := (List.length_map _).symm
    _ ≤ (List.range' 1 31).length := (once.subperm listed).length_le
    _ = 31 := List.length_range'

/-- The detail follows the start byte, the length, the sequence, the identifier and the answer (R175, R176). -/
theorem replyFrame_cause_detail (q id : Byte) (a : Answer) (e : CauseEntry) (left : Nat) :
    ((replyFrame { seq := q, id := id, answer := a, results := .cause e left }).drop 5).take 8 = detailBytes e := rfl

end

/-- Settles O19: the order answers what `readCause` takes out of the port's set. -/
theorem readCauseTakesTheHighestCode : Obligations.ReadCauseTakesTheHighestCode := by
  unfold Obligations.ReadCauseTakesTheHighestCode
  refine fun p q s accepts => ⟨fun empty => order_answered q 0x60 accepts (readCause_of_empty empty), fun e es found =>
    ⟨order_answered q 0x60 accepts (readCause_of_cons found), fun ok => ⟨ok.code_lt_head, ?few⟩,
      replyFrame_cause_detail q 0x60 .done e es.length⟩⟩
  case few =>
    have entries := ok.length_le
    rw [List.length_cons] at entries
    omega

/-! ## SET_CAUSE_MASK (R192) -/

section
variable {p : Port} {s : State} {m : BitVec 32}

theorem setCauseMask_of_zero_flag (flag : m.getLsbD 0 = true) : setCauseMask p m s = (s, .range, .none) := if_pos flag

theorem setCauseMask_of_clear (clear : m.getLsbD 0 = false) :
    setCauseMask p m s
      = ({ s with attention := s.attention.set p { s.attention.get p with mask := m } }, .done, .mask m) := by
  rw [setCauseMask, if_neg (by rw [clear]; decide)]

/-- A masked code is not posted to the port. -/
theorem post_of_masked {x : Cause} (masked : (s.attention.get p).mask.getLsbD (causeEntry x).code = false) :
    (post p x s).attention.get p = s.attention.get p := by
  rw [post_attention, PerPort.get_set_self, offer_of_masked masked]

end

/-- Settles O20: the order answers what `setCauseMask` does, and a posting under the new mask is an offer to it. -/
theorem setCauseMaskReplacesTheMask : Obligations.SetCauseMaskReplacesTheMask := by
  unfold Obligations.SetCauseMaskReplacesTheMask
  refine fun p q m s accepts => ⟨fun flag => order_answered q 0x61 accepts (setCauseMask_of_zero_flag flag), fun clear =>
    ⟨order_answered q 0x61 accepts (setCauseMask_of_clear clear), fun x t mask masked => ?kept⟩⟩
  case kept =>
    rw [← mask] at masked
    exact post_of_masked masked

end Sys2Proof.Machine
end

section
/-! SUPPORT. RESET held (R198): the outputs are off, and a command is an event that acts on nothing. -/

namespace Sys2Proof.Machine

section
variable {s : State}

/-! ## The outputs (R72, R88, R93, R190) -/

theorem loadOutput_of_held (l : Load) (held : s.resetHeld = true) : loadOutput l s = false := by
  simp [loadOutput, held]

theorem fanLevel_of_held (c : Cavity) (held : s.resetHeld = true) : fanLevel c s = .off := by
  simp [fanLevel, held]

theorem steamValve_of_held (c : Cavity) (held : s.resetHeld = true) : steamValve c s = false := by
  simp [steamValve, held]

theorem attn_of_held (p : Port) (held : s.resetHeld = true) : attn p s = false := by
  simp [attn, held]

theorem tankPump_of_held (held : s.resetHeld = true) : tankPump s = false := by
  simp [tankPump, held]

theorem inletValve_of_held (held : s.resetHeld = true) : inletValve s = false := by
  simp [inletValve, held]

theorem drainPump_of_held (held : s.resetHeld = true) : drainPump s = false := by
  simp [drainPump, held]

/-! ## The commands -/

/-- Every command but the two of RESET is an event: its effect waits for the end of the reset (log 23). -/
theorem exec_eq_event {i : Instr} (start : ∀ inputs, i ≠ .deviceReset inputs) (hold : i ≠ .resetHeld) :
    ∃ f : State → State, ∀ s, exec i s = event f s := by
  cases i
  case deviceReset inputs => exact absurd rfl (start inputs)
  case resetHeld => exact absurd rfl hold
  all_goals exact ⟨_, fun _ => rfl⟩

/-- RESET held again changes nothing. -/
theorem exec_resetHeld_of_held (held : s.resetHeld = true) : exec .resetHeld s = .next s := by
  obtain ⟨⟩ := s
  cases held
  rfl

end

/-- Settles O5: the outputs wait for the end of the reset, and so does every event. -/
theorem resetHeldSilencesThePart : Obligations.ResetHeldSilencesThePart := by
  unfold Obligations.ResetHeldSilencesThePart
  refine ⟨fun s => rfl, fun s held => ?outputs, fun i s held start => ?commands⟩
  case outputs =>
    exact ⟨fun l => loadOutput_of_held l held, fun c => ⟨fanLevel_of_held c held, steamValve_of_held c held⟩,
      fun p => attn_of_held p held, tankPump_of_held held, inletValve_of_held held, drainPump_of_held held⟩
  case commands =>
    by_cases hold : i = .resetHeld
    · rw [hold, exec_resetHeld_of_held held]
    · obtain ⟨f, acts⟩ := exec_eq_event start hold
      rw [acts, event_of_held f held]

end Sys2Proof.Machine
end

section
/-! SUPPORT. The passing of a tenth of a second (log 2): every count advances, and what has not fallen due is not taken. -/

namespace Sys2Proof.Machine

section
variable {c : Cavity} {l : Load} {o : Owner} {h : HoldObject} {s t u : State}

theorem step_of_empty (empty : s.pending = []) : step s = .next (tick s) := by
  rw [step, empty]

theorem tick_of_held (held : s.resetHeld = true) : tick s = s := if_pos held

theorem tick_of_running (running : s.resetHeld = false) : tick s = takeDue (advance s) :=
  if_neg (by rw [running]; decide)

/-! ## What an event that has fallen due reaches -/

/-- What the timed events can reach: neither the hold objects, nor mains sense, nor the staging buffer. -/
theorem dueRun_answer (c : Cavity) (s : State) : Within .answer s (dueRun c s) := by
  unfold dueRun
  refine (whenDue_within _ _ _ fun t => ?_).trans ((whenDue_within _ _ _ fun t => ?_).trans
    ((whenDue_within _ _ _ fun t => ?_).trans ((whenDue_within _ _ _ fun t => ?_).trans
    (whenDue_within _ _ _ fun t => ?_))))
  · exact (delayExpiry_within c t).mono rfl
  · exact (feederEnd_within c t).mono rfl
  · exact (doorTimeoutEnd_within c t).mono rfl
  · exact (stepTimeEnd_within c t).mono rfl
  · exact (regulationUpdate_within c t).mono rfl

theorem duePrompt_answer (o : Owner) (s : State) : Within .answer s (duePrompt o s) :=
  whenDue_within _ _ _ fun t => (promptTimeout_within o t).mono rfl

theorem dueTimer_answer (l : Load) (s : State) : Within .answer s (dueTimer l s) := by
  unfold dueTimer
  extract_lets zero onEnded offEnded
  have ended : Within .answer s offEnded :=
    (whenDue_within _ _ _ fun t => (onExpiry_within l t).mono rfl).trans
      (whenDue_within _ _ _ fun t => (offExpiry_within l t).mono rfl)
  split
  · next c _ => exact ended.trans (whenDue_within _ _ _ fun t => (pairOffEnd_within c t).mono rfl)
  · exact ended
  · exact ended

theorem dueTimers_answer (ls : List Load) (s : State) : Within .answer s (dueTimers ls s) := by
  induction ls generalizing s with
  | nil => exact .refl _ _
  | cons l ls ih => exact (dueTimer_answer l s).trans (ih _)

theorem dueGen_answer (s : State) : Within .answer s (dueGen s) := by
  unfold dueGen
  refine (whenDue_within _ _ _ fun t => ?_).trans ((whenDue_within _ _ _ fun t => ?_).trans
    ((whenDue_within _ _ _ fun t => ?_).trans ((whenDue_within _ _ _ fun t => ?_).trans
    ((whenDue_within _ _ _ fun t => ?_).trans ((whenDue_within _ _ _ fun t => ?_).trans
    ((whenDue_within _ _ _ fun t => ?_).trans ((whenDue_within _ _ _ fun t => ?_).trans
    (whenDue_within _ _ _ fun t => ?_))))))))
  · exact (soakUpdate_within t).mono rfl
  · exact (soakEnd_within t).mono rfl
  · exact (watchdogStall_within t).mono rfl
  · exact (drainComplete_within t).mono rfl
  · exact (drainFail_within t).mono rfl
  · exact (heatSlow_within t).mono rfl
  · exact (windowEnd_within t).mono rfl
  · exact (idleDrain_within t).mono rfl
  · exact (quietEnd_within t).mono rfl

/-- The events taken between the mains-low expiry and the expiries of the holds. -/
def takeDueBetween (s : State) : State :=
  dueGen (dueTimers allLoads (duePrompt .cavityB (duePrompt .cavityA (dueRun .B (dueRun .A s)))))

theorem takeDueBetween_answer (s : State) : Within .answer s (takeDueBetween s) :=
  (dueRun_answer .A s).trans ((dueRun_answer .B _).trans ((duePrompt_answer .cavityA _).trans
    ((duePrompt_answer .cavityB _).trans ((dueTimers_answer allLoads _).trans (dueGen_answer _)))))

/-- The mains-low expiry, where it has fallen due (R171). -/
def dueMains (s : State) : State := whenDue (fun s => reached s.mains.lowTime 50) mainsLowExpiry s

theorem takeDue_eq (s : State) :
    takeDue s = dueHold .store (dueHold .editB (dueHold .editA (takeDueBetween (dueMains s)))) := rfl

/-- The expiry leaves mains sense at LOW (R171). -/
theorem mainsLowExpiry_low (s : State) : (mainsLowExpiry s).mains.low = s.mains.low := by
  by_cases due : s.mains.low = true ∧ s.mains.expiryGiven = false
  · obtain ⟨low, first⟩ := due
    rw [mainsLowExpiry_of_due low first, (mainsAborts_expired s).mains, low]
  · rw [mainsLowExpiry, if_neg due]

theorem dueMains_low (s : State) : (dueMains s).mains.low = s.mains.low := by
  unfold dueMains whenDue
  split
  · exact mainsLowExpiry_low s
  · rfl

theorem mainsLowExpiry_aborts (s : State) : Within { Parts.answer with mains := true } s (mainsLowExpiry s) := by
  by_cases due : s.mains.low = true ∧ s.mains.expiryGiven = false
  · obtain ⟨low, first⟩ := due
    rw [mainsLowExpiry_of_due low first]
    exact (mainsAborts_expired s).within.mono rfl
  · rw [mainsLowExpiry, if_neg due]
    exact .refl _ _

theorem dueMains_within (s : State) : Within { Parts.answer with mains := true } s (dueMains s) :=
  whenDue_within _ _ _ mainsLowExpiry_aborts

/-! ## The holds (R184) -/

/-- A hold whose expiry has reached 0 is free. -/
def unexpired (k : Option Hold) : Option Hold := if k.map (·.expiry) = some 0 then none else k

theorem dueHold_holds (h : HoldObject) (s : State) :
    (dueHold h s).holds = s.holds.set h (unexpired (s.holds.get h)) := by
  unfold dueHold whenDue unexpired
  by_cases due : (s.holds.get h).map (·.expiry) = some 0
  · obtain ⟨k, held, -⟩ := Option.map_eq_some_iff.mp due
    rw [if_pos due, if_pos (decide_eq_true due), holdExpiry_of_held held, freeHold_eq]
    rfl
  · rw [if_neg due, if_neg (fun e => due (of_decide_eq_true e)), PerHold.set_get]

theorem dueHold_within_holds (h : HoldObject) (s : State) :
    Within { holds := true, staging := true, attention := true } s (dueHold h s) :=
  whenDue_within _ _ _ fun t => (holdExpiry_within h t).mono rfl

/-- A hold after a tenth of a second (R184). -/
theorem unexpired_tickHold (k : Option Hold) :
    unexpired (k.map tickHold)
      = k.bind (fun k => if k.expiry ≤ 1 then none else some { k with expiry := k.expiry - 1 }) := by
  cases k with
  | none => rfl
  | some k =>
    by_cases last : k.expiry ≤ 1
    · simp [unexpired, tickHold, last, Nat.sub_eq_zero_of_le last]
    · simp [unexpired, tickHold, last, Nat.sub_eq_zero_iff_le]

theorem advance_hold (h : HoldObject) (s : State) : (advance s).holds.get h = (s.holds.get h).map tickHold := by
  cases h <;> rfl

/-- Each hold advances, and is free where its expiry has reached 0. -/
theorem takeDue_holds (s : State) (h : HoldObject) : (takeDue s).holds.get h = unexpired (s.holds.get h) := by
  have before : (takeDueBetween (dueMains s)).holds = s.holds :=
    ((takeDueBetween_answer _).holds_eq rfl).trans ((dueMains_within s).holds_eq rfl)
  rw [takeDue_eq, dueHold_holds, dueHold_holds, dueHold_holds, before]
  cases h <;> rfl

theorem takeDue_low (s : State) : (takeDue s).mains.low = s.mains.low := by
  have after : (takeDue s).mains = (takeDueBetween (dueMains s)).mains :=
    ((dueHold_within_holds .store _).mains_eq rfl).trans
      (((dueHold_within_holds .editB _).mains_eq rfl).trans ((dueHold_within_holds .editA _).mains_eq rfl))
  rw [after, (takeDueBetween_answer _).mains_eq rfl, dueMains_low]

/-! ## The advance, count by count -/

theorem advance_run (c : Cavity) (s : State) : (advance s).runs.get c = tickRun (s.runs.get c) := by cases c <;> rfl

theorem advance_climate (c : Cavity) (s : State) :
    (advance s).climates.get c = tickClimate (s.runs.get c) (s.climates.get c) := by
  cases c <;> rfl

theorem advance_timer (l : Load) (s : State) : (advance s).timers.get l = tickTimer (s.timers.get l) := by cases l <;> rfl

theorem advance_prompt (o : Owner) (s : State) : (advance s).prompts.get o = (s.prompts.get o).map tickPrompt := by
  cases o <;> rfl

/-- A run goes on taking part in counting, and its step goes on being counted. -/
theorem counting_tickRun (r : Run) : counting (tickRun r) = counting r := rfl

theorem stepCounts_tickRun (r : Run) : stepCounts (tickRun r) = stepCounts r := by
  have present : (fall (stepCounts r) r.remaining).isSome = r.remaining.isSome := by
    unfold fall
    split
    · exact Option.isSome_map
    · rfl
  rw [stepCounts, stepCounts, ← present]
  rfl

theorem fillRunning_advance (s : State) : fillRunning (advance s) = fillRunning s := by
  have present : (advance s).gen.fill.isSome = s.gen.fill.isSome := Option.isSome_map
  rw [fillRunning, fillRunning, ← present]
  rfl

theorem tickTimer_frozen (x : Timer) : (tickTimer x).frozen = x.frozen := by
  unfold tickTimer
  repeat' split
  all_goals rfl

theorem tickTimer_interval (x : Timer) : (tickTimer x).interval = x.interval := by
  unfold tickTimer
  repeat' split
  all_goals rfl

/-- A drive interval falls, a wait grows, a frozen timer stands (R61, R62, R64, R65). -/
theorem tickTimer_eq (x : Timer) : tickTimer x =
    { x with
      remaining := if x.frozen = false ∧ (x.interval = .onInterval ∨ x.interval = .offInterval)
        then x.remaining.map (· - 1) else x.remaining
      waited := if x.frozen = false ∧ x.interval = .waiting then min 4294967295 (x.waited + 1) else x.waited } := by
  obtain ⟨on, off, interval, frozen, remaining, waited⟩ := x
  cases frozen
  · cases interval <;> rfl
  · rfl

theorem tickPrompt_eq (e : Prompt) :
    tickPrompt e = { e with timeout := if e.timedOut = false then e.timeout.map (· - 1) else e.timeout } := by
  simp [tickPrompt, fall]

/-! ## Nothing falls due -/

theorem whenDue_of_still {due : State → Bool} {f : State → State} (still : due s = true → f s = s) :
    whenDue due f s = s := by
  unfold whenDue
  split
  · next taken => exact still taken
  · rfl

theorem whenDue_of_not {due : State → Bool} {f : State → State} (early : due s = false) : whenDue due f s = s :=
  if_neg (by rw [early]; decide)

/-- A count short of its end by more than one does not reach it in a tenth. -/
theorem reached_grow {x : Option Nat} {n : Nat} (b : Bool) (below : ∀ m, x = some m → m + 1 < n) :
    reached (grow b x) n = false := by
  cases x with
  | none => cases b <;> rfl
  | some m =>
    have short := below m rfl
    cases b
    · exact decide_eq_false (show ¬ n ≤ m by omega)
    · exact decide_eq_false (show ¬ n ≤ m + 1 by omega)

theorem fall_ne_zero {x : Option Nat} (b : Bool) (above : ∀ n, x = some n → 1 < n) : fall b x ≠ some 0 := by
  cases x with
  | none => cases b <;> exact nofun
  | some n =>
    have short := above n rfl
    cases b
    · exact fun e => absurd (Option.some.inj e) (by omega)
    · exact fun e => absurd (Option.some.inj e) (show n - 1 ≠ 0 by omega)

theorem decide_fall {x : Option Nat} (b : Bool) (above : ∀ n, x = some n → 1 < n) : decide (fall b x = some 0) = false :=
  decide_eq_false (fall_ne_zero b above)

theorem dueRun_still (early : RunNotDue c s) : dueRun c (advance s) = advance s := by
  obtain ⟨delay, starve, door, step, update⟩ := early
  dsimp only [dueRun]
  rw [whenDue_of_not (s := advance s) ?delay, whenDue_of_not (s := advance s) ?starve,
    whenDue_of_not (s := advance s) ?door, whenDue_of_not (s := advance s) ?step, whenDue_of_not (s := advance s) ?update]
  all_goals simp only [advance_run, advance_climate, stepCounts_tickRun, counting_tickRun, Bool.and_eq_false_imp]
  case delay => exact fun state => decide_fall _ (delay (of_decide_eq_true state))
  case starve => exact fun state => reached_grow _ (starve (of_decide_eq_true state))
  case door => exact fun suspended => reached_grow _ (door suspended)
  case step => exact fun counts => decide_fall _ (step counts)
  case update => exact fun counts => reached_grow _ (update counts)

theorem duePrompt_still (early : ∀ e n, s.prompts.get o = some e → e.timeout = some n → 1 < n) :
    duePrompt o (advance s) = advance s := by
  refine whenDue_of_not ?_
  rw [advance_prompt]
  cases standing : s.prompts.get o with
  | none => rfl
  | some e => exact decide_fall _ fun n => early e n standing

theorem dueTimer_still (early : ∀ n, (s.timers.get l).frozen = false →
      ((s.timers.get l).interval = .onInterval ∨ (s.timers.get l).interval = .offInterval) →
      (s.timers.get l).remaining = some n → 1 < n) :
    dueTimer l (advance s) = advance s := by
  have running {i : Interval} (kind : i = .onInterval ∨ i = .offInterval) :
      (!((advance s).timers.get l).frozen && decide (((advance s).timers.get l).remaining = some 0)
        && decide (((advance s).timers.get l).interval = i)) = false := by
    rw [advance_timer, tickTimer_frozen, tickTimer_interval]
    refine Bool.eq_false_iff.mpr fun ended => ?_
    obtain ⟨⟨thawed, zero⟩, rfl⟩ : ((s.timers.get l).frozen = false ∧ (tickTimer (s.timers.get l)).remaining = some 0)
        ∧ (s.timers.get l).interval = i := by
      simpa using ended
    rw [tickTimer_eq, if_pos ⟨thawed, kind⟩] at zero
    exact fall_ne_zero true (fun n => early n thawed kind) zero
  unfold dueTimer
  extract_lets zero onEnded offEnded
  have on : onEnded = advance s := whenDue_of_not (running (.inl rfl))
  have off : offEnded = advance s := by
    unfold offEnded
    rw [on]
    exact whenDue_of_not (Bool.and_eq_false_imp.mpr fun ended => absurd ended (by rw [running (.inr rfl)]; decide))
  rw [off]
  split
  · exact whenDue_of_not (Bool.and_eq_false_imp.mpr fun ended => absurd ended (by rw [running (.inr rfl)]; decide))
  · rfl
  · rfl

theorem dueTimers_still (ls : List Load) (still : ∀ l, dueTimer l s = s) : dueTimers ls s = s := by
  induction ls with
  | nil => rfl
  | cons l ls ih => rw [dueTimers, still l, ih]

theorem dueGen_still (early : SteamNotDue s) : dueGen (advance s) = advance s := by
  obtain ⟨update, soak, watchdog, dry, drain, heat, window, idle, quiet⟩ := early
  dsimp only [dueGen]
  rw [whenDue_of_not (s := advance s) ?update, whenDue_of_not (s := advance s) ?soak,
    whenDue_of_not (s := advance s) ?watchdog, whenDue_of_not (s := advance s) ?dry,
    whenDue_of_not (s := advance s) ?drain, whenDue_of_still (s := advance s) ?heat,
    whenDue_of_not (s := advance s) ?window, whenDue_of_not (s := advance s) ?idle,
    whenDue_of_still (s := advance s) ?quiet]
  case update => exact Bool.and_eq_false_imp.mpr fun phase => reached_grow _ (update (of_decide_eq_true phase))
  case soak => exact reached_grow _ soak
  case dry => exact reached_grow _ dry
  case drain => exact reached_grow _ drain
  case window => exact reached_grow _ window
  case idle => exact reached_grow _ idle
  case watchdog =>
    rw [fillRunning_advance, Bool.and_eq_false_imp]
    intro runs
    cases filling : s.gen.fill with
    | none =>
      have after : (advance s).gen.fill = none := congrArg (Option.map _) filling
      rw [after]
      rfl
    | some f =>
      have := watchdog runs f filling
      simp [advance, tickGen, filling, reached]
      split <;> omega
  case heat =>
    intro taken
    by_cases posted : s.gen.slowPosted = true
    · exact heatSlow_of_idle (.inr (.inr posted))
    · exact absurd taken (Bool.eq_false_iff.mp (reached_grow _ (heat (Bool.eq_false_iff.mpr posted))))
  case quiet =>
    intro taken
    have after : (advance s).meter.fill = (tickMeter s.meter).fill := rfl
    cases filling : s.meter.fill with
    | none => simp [after, tickMeter, filling, reached] at taken
    | some f =>
      rcases quiet f filling with short | ⟨full, absent, still⟩
      · have : 40 ≤ min 40 (f.quiet + 1) := by simpa [after, tickMeter, filling, reached] using taken
        omega
      · have same : meterQuiet (tickMeter s.meter) = tickMeter s.meter := by
          simp [meterQuiet, tickMeter, filling, full, absent, still]
        exact congrArg (fun m => { advance s with meter := m }) same

theorem dueHold_still (early : ∀ k, s.holds.get h = some k → 1 < k.expiry) : dueHold h (advance s) = advance s := by
  refine whenDue_of_not (decide_eq_false ?_)
  rw [advance_hold]
  cases held : s.holds.get h with
  | none => exact nofun
  | some k =>
    have := early k held
    exact fun e => absurd (Option.some.inj e) (show k.expiry - 1 ≠ 0 by omega)

theorem dueMains_still (early : s.mains.expiryGiven = false → ∀ n, s.mains.lowTime = some n → n + 1 < 50) :
    dueMains (advance s) = advance s := by
  refine whenDue_of_still fun taken => mainsLowExpiry_of_idle (.inr ?_)
  by_contra given
  exact absurd taken (Bool.eq_false_iff.mp (reached_grow _ (early (Bool.eq_false_iff.mpr given))))

/-- A tenth in which no count ends is the advance of the counts alone. -/
theorem takeDue_of_nothingDue (early : NothingDue s) : takeDue (advance s) = advance s := by
  obtain ⟨runA, runB, steam, mains, prompts, timers, holds⟩ := early
  have between : takeDueBetween (advance s) = advance s := by
    rw [takeDueBetween, dueRun_still runA, dueRun_still runB, duePrompt_still (prompts .cavityA),
      duePrompt_still (prompts .cavityB), dueTimers_still allLoads fun l => dueTimer_still (timers l), dueGen_still steam]
  rw [takeDue_eq, dueMains_still mains, between, dueHold_still (holds .editA), dueHold_still (holds .editB),
    dueHold_still (holds .store)]

end

/-- Settles O2: a held part stands still; otherwise the counts advance and what has fallen due is taken, which is nothing
in a tenth where no count ends. -/
theorem timePassesOnEmptyQueue : Obligations.TimePassesOnEmptyQueue := by
  unfold Obligations.TimePassesOnEmptyQueue
  intro s empty
  rw [step_of_empty empty]
  refine ⟨fun held => by rw [tick_of_held held], fun running => ?passes, fun running early => ?counts⟩
  case passes =>
    refine ⟨takeDue (advance s), by rw [tick_of_running running], (advance_within s).trans (takeDue_within _),
      takeDue_low _, fun h => ?_⟩
    rw [takeDue_holds, advance_hold, unexpired_tickHold]
  case counts =>
    refine ⟨advance s, by rw [tick_of_running running, takeDue_of_nothingDue early], ?_⟩
    refine ⟨fun c => ?runs, fun c => ?climates, fun l => ?timers, ?gen, ?meter, ?proc, fun o => ?prompts, ?mains, ?rest⟩
    case runs => simp only [advance_run, tickRun, fall, grow, decide_eq_true_eq]
    case climates => simp only [advance_climate, tickClimate, grow]
    case timers => rw [advance_timer, tickTimer_eq]
    case gen => simp [advance, tickGen, grow, and_assoc]
    case meter => rfl
    case proc => simp [advance, grow]
    case prompts => rw [advance_prompt, funext tickPrompt_eq]
    case mains => simp [advance, tickMains, grow]
    case rest => simp [advance, Within]

end Sys2Proof.Machine
end

section
/-! SUPPORT. A timeout that a change of its setting finds expired (R34, R46, R195), in A and then in B: what is done in one
cavity leaves the other's run, queue, prompt and frozen timers. -/

namespace Sys2Proof.Machine

section
variable {c j : Cavity} {l : Load} {s t u : State}

theorem SameRun.of_eq {r r' : Run} (h : r = r') : SameRun r r' := by
  rw [h]
  rfl

/-! ## The other cavity -/

theorem cavityOwner_other_ne (c : Cavity) : cavityOwner (otherCavity c) ≠ cavityOwner c := by cases c <;> decide

/-- An abort leaves the prompt of the other cavity (R41). -/
theorem settle_abortRun_otherPrompt (c : Cavity) (reason : AbortReason) (s : State) :
    (settle c (abortRun c reason s)).prompts.get (cavityOwner (otherCavity c))
      = s.prompts.get (cavityOwner (otherCavity c)) := by
  have work : SteamWork (abortRun c reason s) (settle c (abortRun c reason s)) := .then_settle (.refl _)
  have ended : (abortRun c reason s).prompts = (cancelPrompt (cavityOwner c) s).prompts :=
    endRun_prompts c .aborted (some reason) _
  rw [work.prompts _ (cavityOwner_ne_generator _), ended]
  exact removePrompt_prompts_of_ne (cavityOwner_other_ne c) .cancelled s

/-- The settling of a run that is not counting, with its timers frozen, leaves a frozen timer frozen. -/
theorem settle_keeps_frozen (uncounted : counting (s.runs.get c) = false) (freezes : freezeCondition c s = true)
    (ne : l ≠ .genHeat) (frozen : (s.timers.get l).frozen = true) : ((settle c s).timers.get l).frozen = true := by
  have still : settleClimate c s = s := by simp [settleClimate, uncounted]
  have frozenNow : ((freezeCavity c s).timers.get l).frozen = true :=
    freezeTimer_frozen _ (freezeTimer_frozen _ (freezeTimer_frozen _ frozen))
  have work : SharedWork (freezeCavity c s) (syncDemand c (freezeCavity c s)) := .then_syncDemand (.refl _)
  rw [settle, still, syncFreeze, if_pos freezes, (work.loads l ne).frozen_eq, frozenNow]

/-! ## FEED_TIMEOUT -/

/-- The starve time of a STARVED run tested against FEED_TIMEOUT (R34). -/
def FeedTested (c : Cavity) (s u : State) : Prop :=
  (s.runs.get c).state = .starved →
    (s.settings.feedTimeout * 10 ≤ (s.runs.get c).starveTime.getD 0 →
        SameRun (u.runs.get c) (abortedRun (s.runs.get c) .feedLost)
          ∧ u.queues.get c = emptied (s.queues.get c) ∧ u.prompts.get (cavityOwner c) = none)
      ∧ ((s.runs.get c).starveTime.getD 0 < s.settings.feedTimeout * 10 → SameRun (u.runs.get c) (s.runs.get c))

theorem feedTimeoutCheck_of_due (starved : (s.runs.get c).state = .starved)
    (due : s.settings.feedTimeout * 10 ≤ (s.runs.get c).starveTime.getD 0) :
    feedTimeoutCheck c s = settle c (abortRun c .feedLost s) := by
  rw [feedTimeoutCheck, if_pos ⟨starved, due⟩, feederEnd, if_pos starved]

theorem feedTimeoutCheck_of_early
    (early : (s.runs.get c).state ≠ .starved ∨ (s.runs.get c).starveTime.getD 0 < s.settings.feedTimeout * 10) :
    feedTimeoutCheck c s = s := by
  refine if_neg ?_
  rintro ⟨starved, due⟩
  rcases early with other | short
  · exact other starved
  · exact absurd due (Nat.not_le.mpr short)

theorem feedTimeoutCheck_tested (c : Cavity) (s : State) : FeedTested c s (feedTimeoutCheck c s) := by
  refine fun starved => ⟨fun due => ?_, fun short => ?_⟩
  · rw [feedTimeoutCheck_of_due starved due]
    obtain ⟨ended, prompt⟩ := settle_abortRun c .feedLost s
    exact ⟨.of_eq ended.run, ended.queue, prompt⟩
  · rw [feedTimeoutCheck_of_early (.inr short)]
    rfl

theorem feedTimeoutCheck_otherPrompt (c : Cavity) (s : State) :
    (feedTimeoutCheck c s).prompts.get (cavityOwner (otherCavity c)) = s.prompts.get (cavityOwner (otherCavity c)) := by
  by_cases starved : (s.runs.get c).state = .starved
  · by_cases due : s.settings.feedTimeout * 10 ≤ (s.runs.get c).starveTime.getD 0
    · rw [feedTimeoutCheck_of_due starved due, settle_abortRun_otherPrompt]
    · rw [feedTimeoutCheck_of_early (.inr (Nat.not_le.mp due))]
  · rw [feedTimeoutCheck_of_early (.inl starved)]

theorem CavityWork.then_feedTimeoutCheck (h : CavityWork c s t) : CavityWork c s (feedTimeoutCheck c t) :=
  .ite h.then_feederEnd h

/-- The test in the other cavity, before or after, changes nothing of it. -/
theorem FeedTested.then_other (h : FeedTested (otherCavity j) s t) : FeedTested (otherCavity j) s (feedTimeoutCheck j t) := by
  have work : CavityWork j t (feedTimeoutCheck j t) := .then_feedTimeoutCheck (.refl j t)
  refine fun starved => ⟨fun due => ?_, fun short => ?_⟩
  · obtain ⟨expired, -⟩ := h starved
    obtain ⟨run, queue, prompt⟩ := expired due
    exact ⟨work.other_run.trans run, work.other_queue.trans queue, (feedTimeoutCheck_otherPrompt j t).trans prompt⟩
  · obtain ⟨-, kept⟩ := h starved
    exact work.other_run.trans (kept short)

theorem FeedTested.of_other (h : FeedTested (otherCavity j) (feedTimeoutCheck j s) u) : FeedTested (otherCavity j) s u := by
  have work : CavityWork j s (feedTimeoutCheck j s) := .then_feedTimeoutCheck (.refl j s)
  have settings : (feedTimeoutCheck j s).settings = s.settings := (feedTimeoutCheck_within j s).settings_eq rfl
  rw [FeedTested, settings, work.other_run.eq_with, work.other_queue] at h
  exact h

theorem feedTimeoutChecks_tested (c : Cavity) (s : State) :
    FeedTested c s (feedTimeoutCheck .B (feedTimeoutCheck .A s)) := by
  cases c
  · exact (feedTimeoutCheck_tested .A s).then_other (j := .B)
  · exact (feedTimeoutCheck_tested .B _).of_other (j := .A)

/-! ## DOOR_TIMEOUT -/

/-- The door time of a run suspended by the door tested against DOOR_TIMEOUT (R46). -/
def DoorTested (c : Cavity) (s u : State) : Prop :=
  (s.runs.get c).doorSuspended = true → ((s.runs.get c).state = .running ∨ (s.runs.get c).state = .starved) →
    (s.settings.doorTimeout * 10 ≤ (s.runs.get c).doorTime.getD 0 →
        SameRun (u.runs.get c) (pausedRun (s.runs.get c) .door) ∧ AllFrozen c u)
      ∧ ((s.runs.get c).doorTime.getD 0 < s.settings.doorTimeout * 10 → SameRun (u.runs.get c) (s.runs.get c))

theorem doorTimeoutCheck_of_due (suspended : (s.runs.get c).doorSuspended = true)
    (due : s.settings.doorTimeout * 10 ≤ (s.runs.get c).doorTime.getD 0) :
    doorTimeoutCheck c s = settle c (pause c .door s) := by
  rw [doorTimeoutCheck, if_pos ⟨suspended, due⟩, doorTimeoutEnd, if_pos suspended]

theorem doorTimeoutCheck_of_early
    (early : (s.runs.get c).doorSuspended = false ∨ (s.runs.get c).doorTime.getD 0 < s.settings.doorTimeout * 10) :
    doorTimeoutCheck c s = s := by
  refine if_neg ?_
  rintro ⟨suspended, due⟩
  rcases early with other | short
  · exact absurd (suspended.symm.trans other) (by decide)
  · exact absurd due (Nat.not_le.mpr short)

theorem doorTimeoutCheck_tested (c : Cavity) (s : State) : DoorTested c s (doorTimeoutCheck c s) := by
  refine fun suspended carries => ⟨fun due => ?_, fun short => ?_⟩
  · have paused := settle_pause (reason := .door) carries
    rw [doorTimeoutCheck_of_due suspended due]
    exact ⟨.of_eq paused.run, paused.frozen⟩
  · rw [doorTimeoutCheck_of_early (.inr short)]
    rfl

/-- After the door timeout a run does not count, and its timers are frozen (R46, R64). -/
theorem pause_of_suspended (suspended : (s.runs.get c).doorSuspended = true) :
    counting ((pause c .door s).runs.get c) = false ∧ freezeCondition c (pause c .door s) = true := by
  by_cases carries : (s.runs.get c).state = .running ∨ (s.runs.get c).state = .starved
  · rw [freezeCondition, pause_run carries]
    exact ⟨rfl, by simp [pausedRun]⟩
  · rw [pause_of_not_carrying (by simpa using carries)]
    simp [counting, freezeCondition, suspended]

/-- The test in one cavity leaves a frozen timer of the other frozen. -/
theorem doorTimeoutCheck_keeps_frozen (ne : l ≠ .genHeat) (frozen : (s.timers.get l).frozen = true) :
    ((doorTimeoutCheck j s).timers.get l).frozen = true := by
  by_cases taken : (s.runs.get j).doorSuspended = true ∧ s.settings.doorTimeout * 10 ≤ (s.runs.get j).doorTime.getD 0
  · obtain ⟨suspended, due⟩ := taken
    obtain ⟨uncounted, freezes⟩ := pause_of_suspended suspended
    rw [doorTimeoutCheck_of_due suspended due]
    refine settle_keeps_frozen uncounted freezes ne ?_
    rwa [(pause_within j .door s).timers_eq rfl]
  · rwa [show doorTimeoutCheck j s = s from if_neg taken]

theorem AllFrozen.then_doorTimeoutCheck (h : AllFrozen c s) : AllFrozen c (doorTimeoutCheck j s) :=
  ⟨doorTimeoutCheck_keeps_frozen (topOf_ne_genHeat c) h.top, doorTimeoutCheck_keeps_frozen (bottomOf_ne_genHeat c) h.bottom,
    doorTimeoutCheck_keeps_frozen (ringOf_ne_genHeat c) h.ring⟩

theorem CavityWork.then_doorTimeoutCheck (h : CavityWork c s t) : CavityWork c s (doorTimeoutCheck c t) :=
  .ite h.then_doorTimeoutEnd h

/-- The test in the other cavity, before or after, changes nothing of it. -/
theorem DoorTested.then_other (h : DoorTested (otherCavity j) s t) : DoorTested (otherCavity j) s (doorTimeoutCheck j t) := by
  have work : CavityWork j t (doorTimeoutCheck j t) := .then_doorTimeoutCheck (.refl j t)
  refine fun suspended carries => ⟨fun due => ?_, fun short => ?_⟩
  · obtain ⟨expired, -⟩ := h suspended carries
    obtain ⟨run, frozen⟩ := expired due
    exact ⟨work.other_run.trans run, frozen.then_doorTimeoutCheck⟩
  · obtain ⟨-, kept⟩ := h suspended carries
    exact work.other_run.trans (kept short)

theorem DoorTested.of_other (h : DoorTested (otherCavity j) (doorTimeoutCheck j s) u) : DoorTested (otherCavity j) s u := by
  have work : CavityWork j s (doorTimeoutCheck j s) := .then_doorTimeoutCheck (.refl j s)
  have settings : (doorTimeoutCheck j s).settings = s.settings := (doorTimeoutCheck_within j s).settings_eq rfl
  rw [DoorTested, settings, work.other_run.eq_with] at h
  exact h

theorem doorTimeoutChecks_tested (c : Cavity) (s : State) :
    DoorTested c s (doorTimeoutCheck .B (doorTimeoutCheck .A s)) := by
  cases c
  · exact (doorTimeoutCheck_tested .A s).then_other (j := .B)
  · exact (doorTimeoutCheck_tested .B _).of_other (j := .A)

end

end Sys2Proof.Machine
end

section
/-! SUPPORT. What the thresholds, IDLE_DRAIN, SOAK_TIME and FLOW_CAL bring when a value is put in force (R96, R100, R106, R122,
R134). -/

namespace Sys2Proof.Machine

section
variable {c j : Cavity} {m : MeterFill} {r : ScaleReason} {reason : DenialReason} {s t : State}

/-! ## A new lock refuses the demands (R96) -/

theorem refuse_denial (refused : denialReason s = some reason) (wants : demandOf (s.runs.get c) ≠ .absent) :
    ((refuse c s).runs.get c).denial = some reason := by
  rw [refuse, refused]
  dsimp only
  rw [if_neg wants, apply_ite State.runs]
  simp

/-- A refusal of one cavity's demand leaves the other's run. -/
theorem refuse_other_run (ne : c ≠ j) (s : State) : (refuse j s).runs.get c = s.runs.get c := by
  unfold refuse
  split
  · rfl
  · extract_lets r denied
    have kept : denied.runs.get c = s.runs.get c := PerCavity.get_set_of_ne _ _ ne
    split
    · rfl
    · split
      · exact kept
      · exact kept

theorem refuse_denialReason (c : Cavity) (s : State) : denialReason (refuse c s) = denialReason s := by
  have w := refuse_within c s
  rw [denialReason, denialReason, w.gen_eq rfl, w.scale_eq rfl]

theorem refuseBoth_denial (refused : denialReason s = some reason) (wants : demandOf (s.runs.get c) ≠ .absent) :
    ((refuseBoth s).runs.get c).denial = some reason := by
  cases c
  · rw [refuseBoth, refuse_other_run (by decide)]
    exact refuse_denial refused wants
  · refine refuse_denial ((refuse_denialReason .A s).trans refused) ?_
    rwa [refuse_other_run (by decide)]

theorem warnTest_within (r : ScaleReason) (s : State) : Within { scale := true, attention := true } s (warnTest r s) := by
  unfold warnTest
  split
  · simp [Within]
  · exact .refl _ _

theorem denialReason_of_locked (locked : s.scale.lock = true) (waits : s.gen.state = .empty ∨ s.gen.state = .draining) :
    denialReason s = some .lock := by
  rcases waits with state | state
  all_goals simp [denialReason, state, locked]

theorem lockTest_denial (before : s.scale.lock = false) (after : (lockTest r s).scale.lock = true)
    (waits : s.gen.state = .empty ∨ s.gen.state = .draining) (wants : demandOf (s.runs.get c) ≠ .absent) :
    ((lockTest r s).runs.get c).denial = some .lock := by
  unfold lockTest at after ⊢
  split at after
  · next due =>
    rw [if_pos due]
    extract_lets l
    have locked : denialReason l = some .lock := denialReason_of_locked rfl waits
    rw [if_pos locked]
    exact refuseBoth_denial locked wants
  · exact absurd (before.symm.trans after) (by decide)

/-- The threshold test that sets the lock while no water is in use refuses the demands (R96, R122). -/
theorem thresholdTest_denial (before : s.scale.lock = false) (after : (thresholdTest r s).scale.lock = true)
    (waits : s.gen.state = .empty ∨ s.gen.state = .draining) (wants : demandOf (s.runs.get c) ≠ .absent) :
    ((thresholdTest r s).runs.get c).denial = some .lock := by
  have w := warnTest_within r s
  rw [thresholdTest_eq] at after ⊢
  refine lockTest_denial ?_ after ?_ ?_
  · rw [warnTest_scale, before]
  · rwa [w.gen_eq rfl]
  · rwa [w.runs_eq rfl]

/-! ## IDLE_DRAIN (R106) -/

theorem idleDrainCheck_of_due (ready : s.gen.state = .ready) (unwanted : anyDemand s = false)
    (due : s.settings.idleDrain * 10 ≤ s.gen.idleTime.getD 0) : idleDrainCheck s = startDrain .empty s := by
  rw [idleDrainCheck, if_pos ⟨ready, due⟩, idleDrain, if_pos ⟨ready, unwanted⟩]

theorem idleDrainCheck_of_early (early : s.gen.idleTime.getD 0 < s.settings.idleDrain * 10) : idleDrainCheck s = s :=
  if_neg fun ⟨_, due⟩ => absurd due (Nat.not_le.mpr early)

/-! ## SOAK_TIME (R134) -/

theorem soakTimeCheck_of_due (soaks : s.proc.phase = .soak)
    (due : s.settings.soakTime * 10 ≤ s.proc.soakTime.getD 0) : soakTimeCheck s = enterDrain .drainSolution s :=
  if_pos ⟨soaks, due⟩

theorem soakTimeCheck_of_early (early : s.proc.soakTime.getD 0 < s.settings.soakTime * 10) : soakTimeCheck s = s :=
  if_neg fun ⟨_, due⟩ => absurd due (Nat.not_le.mpr early)

end

/-! ## What each setting brings -/

section
variable {x : SettingId} {v : Nat} {s : State}

/-- The settings that no block acts upon (R195). -/
theorem settingConsequence_of_quiet (quiet : x ∈ [.fence, .waterSource, .hardness, .propBand, .holdBias .A, .holdBias .B,
      .approachBand, .readyTemp, .soakTemp, .rinseCount, .holdTimeout]) : settingConsequence x s = s := by
  simp only [List.mem_cons, List.not_mem_nil, or_false] at quiet
  rcases quiet with rfl | rfl | rfl | rfl | rfl | rfl | rfl | rfl | rfl | rfl | rfl
  all_goals rfl

/-- A value in force. -/
def withNumber (x : SettingId) (v : Nat) (s : State) : State := { s with settings := setNumber s.settings x v }

/-- A value in force, with what its owner does. -/
def settingPut (x : SettingId) (v : Nat) (s : State) : State := settingConsequence x (withNumber x v s)

theorem settingPut_settings (x : SettingId) (v : Nat) (s : State) : (settingPut x v s).settings = setNumber s.settings x v :=
  (settingConsequence_within x _).settings_eq rfl

theorem settingPut_acts (held : s.resetHeld = false) : SettingActs x v s (settingPut x v s) := by
  refine ⟨?feed, ?door, ?idle, ?soak, ?scale, ?flow, ?others⟩
  case feed =>
    rintro c rfl
    exact feedTimeoutChecks_tested c (withNumber .feedTimeout v s)
  case door =>
    rintro c rfl
    exact doorTimeoutChecks_tested c (withNumber .doorTimeout v s)
  case idle =>
    rintro rfl ready
    refine ⟨fun unwanted due => ?_, fun short => ?_⟩
    · have drains : settingPut .idleDrain v s = startDrain .empty _ := idleDrainCheck_of_due ready unwanted due
      have begun := startDrain_begun .empty (withNumber .idleDrain v s)
      rw [drains]
      exact ⟨by rw [begun.gen]; rfl, by rw [begun.gen], by rw [begun.gen], begun.drainPump_eq held⟩
    · have still : settingPut .idleDrain v s = withNumber .idleDrain v s := idleDrainCheck_of_early short
      rw [still]
      rfl
  case soak =>
    rintro rfl descale soaks
    refine ⟨fun due => ?_, fun short => ?_⟩
    · have drains : settingPut .soakTime v s = enterDrain .drainSolution _ := soakTimeCheck_of_due soaks due
      have entered := enterDrain_entered .drainSolution (withNumber .soakTime v s)
      rw [drains]
      exact ⟨by rw [entered.proc], by rw [entered.proc], by rw [entered.gen], by rw [entered.gen], entered.holds,
        entered.drainPump_eq held descale⟩
    · have still : settingPut .soakTime v s = withNumber .soakTime v s := soakTimeCheck_of_early short
      rw [still]
      exact ⟨rfl, rfl⟩
  case scale =>
    intro threshold
    have tests : settingPut x v s = thresholdTest .setting (withNumber x v s) := by
      rcases threshold with rfl | rfl
      all_goals rfl
    have tested := thresholdTest_tested .setting (withNumber x v s)
    rw [settingPut_settings, tests]
    exact ⟨tested.scale, fun p => ⟨fun before after => tested.warned before after p,
      fun before after => tested.locked before after p⟩,
      fun c before after => thresholdTest_denial (s := withNumber x v s) before after⟩
  case flow =>
    rintro m rfl opened
    refine ⟨fun above working => ?_, fun bounded => ?_⟩
    · have faults : settingPut .flowCal v s = genFault .overfill _ := overfillTest_of_over opened above
      rw [faults]
      have faulted := genFault_faulted (k := .overfill) (s := withNumber .flowCal v s) working
      exact ⟨faulted.state, faulted.kind, faulted.left⟩
    · have still : settingPut .flowCal v s = _ := overfillTest_of_not_over opened bounded
      rw [still]
      exact ⟨rfl, rfl⟩
  case others => exact settingConsequence_of_quiet

theorem sourceCode_of_bit {n : Nat} (bit : n ≤ 1) : sourceCode (if n = 0 then .tank else .plumbed) = n := by
  split
  · next zero => exact zero.symm
  · next other => exact (Nat.le_antisymm bit (Nat.one_le_iff_ne_zero.mpr other)).symm

/-- An accepted number is the value in force (R194). -/
theorem settingValue_setNumber {w : Settings} (number : x ≠ .chain) (accepts : settingAccepts w x v = true) :
    settingValue (setNumber w x v) x = .num v := by
  cases x
  case chain => exact absurd rfl number
  case waterSource =>
    obtain ⟨-, bit⟩ : 0 ≤ v ∧ v ≤ 1 := of_decide_eq_true accepts
    exact congrArg SettingValue.num (sourceCode_of_bit bit)
  case rating l => simp [settingValue, setNumber]
  case holdBias c => simp [settingValue, setNumber]
  all_goals rfl

end

/-! ## The order -/

section
variable {p : Port} {b hi lo : Byte} {x : SettingId} {l : List Load} {value : List Byte} {s : State}

/-- The entries of a table that name another setting are passed over. -/
theorem of_entry_of_ne {α : Type} {q : Prop} [Decidable q] {a y : α} {rest : Option α}
    (found : (if q then some a else rest) = some y) (ne : a ≠ y) : rest = some y := by
  split at found
  · exact absurd (Option.some.inj found) ne
  · exact found

theorem settingOf?_chain_iff : settingOf? b = some .chain ↔ b = 0x09#8 := by
  refine ⟨fun named => ?_, fun e => e ▸ rfl⟩
  unfold settingOf? at named
  iterate 8 replace named := of_entry_of_ne named (by decide)
  by_contra other
  replace named := (if_neg other).symm.trans named
  iterate 18 replace named := of_entry_of_ne named (by decide)
  cases named

theorem paramBytes_of_setting (named : settingOf? b = some x) : paramBytes b = if x = .chain then 7 else 2 := by
  have chain : b = 0x09#8 ↔ x = .chain := by
    rw [← settingOf?_chain_iff, named, Option.some.injEq]
  by_cases order : x = .chain
  · rw [paramBytes, if_pos (chain.mpr order), if_pos order]
  · rw [paramBytes, if_neg (fun e => order (chain.mp e)), if_neg order]

theorem setParam_of_unnamed (unnamed : settingOf? b = none) : setParam p b value s = (s, .range, .none) := by
  rw [setParam, unnamed]
  rfl

theorem setParam_of_miscounted (named : settingOf? b = some x) (miscounted : value.length ≠ if x = .chain then 7 else 2) :
    setParam p b value s = (s, .range, .none) := by
  rw [setParam, named]
  exact if_pos (by rwa [paramBytes_of_setting named])

section
variable (named : settingOf? b = some x) (counted : value.length = if x = .chain then 7 else 2)
include named counted

theorem setParam_of_denied (only : serviceOnly x = true) (other : p ≠ .service) :
    setParam p b value s = (s, .denied, .none) := by
  rw [setParam, named]
  dsimp only
  rw [if_neg (by simpa [paramBytes_of_setting named] using counted), if_pos ⟨only, other⟩]
  rfl

theorem setParam_of_allowed (allowed : serviceOnly x = false ∨ p = .service) :
    setParam p b value s = changeSetting x value s := by
  have served : ¬ (serviceOnly x = true ∧ p ≠ .service) := by
    rintro ⟨only, other⟩
    rcases allowed with free | service
    · exact absurd (only.symm.trans free) (by decide)
    · exact other service
  rw [setParam, named]
  dsimp only
  rw [if_neg (by simpa [paramBytes_of_setting named] using counted), if_neg served]

end

/-! ### A number -/

theorem changeSetting_number (number : x ≠ .chain) :
    changeSetting x [hi, lo] s =
      if settingAccepts s.settings x (hi.toNat * 256 + lo.toNat) = true then
        (settingPut x (hi.toNat * 256 + lo.toNat) s, .done,
          .param (settingValue (settingPut x (hi.toNat * 256 + lo.toNat) s).settings x))
      else (s, .range, .none) := by
  cases x
  case chain => exact absurd rfl number
  all_goals rfl

/-! ### The chain order -/

theorem changeSetting_chain (listed : chainOf? value = some l) (order : chainOk l = true) :
    changeSetting .chain value s = putSetting .chain { s.settings with chain := l } s := by
  rw [changeSetting, listed]
  exact if_pos order

theorem changeSetting_badChain (bad : ∀ l, chainOf? value = some l → chainOk l = false) :
    changeSetting .chain value s = (s, .range, .none) := by
  unfold changeSetting
  dsimp only
  split
  · next l listed =>
    rw [if_neg (by rw [bad l listed]; decide)]
    rfl
  · rfl

theorem putSetting_chain (s : State) : putSetting .chain { s.settings with chain := l } s
    = (cutAndDecide { s with settings := { s.settings with chain := l } }, .done, .param (.chain l)) := by
  have settings : (cutAndDecide { s with settings := { s.settings with chain := l } }).settings
      = { s.settings with chain := l } := (cutAndDecide_within _).settings_eq rfl
  have value : settingValue (cutAndDecide { s with settings := { s.settings with chain := l } }).settings .chain = .chain l := by
    rw [settings]
    rfl
  exact congrArg (fun z : SettingValue => (cutAndDecide _, Answer.done, Results.param z)) value

end

theorem PowerSafe.budget {s : State} (h : PowerSafe s) : grantedSum s ≤ s.settings.budget := by
  obtain ⟨-, -, sum, -⟩ := h
  exact sum

/-- Settles O60: the refusals of the checks in order, then the value in force with what its owner does. -/
theorem setParamPutsTheValueInForce : Obligations.SetParamPutsTheValueInForce := by
  unfold Obligations.SetParamPutsTheValueInForce
  intro p q b value s accepts no
  have ⟨held, _⟩ := accepts
  refine ⟨fun unnamed => order_answered q 0x50 accepts (setParam_of_unnamed unnamed),
    fun x named miscounted => order_answered q 0x50 accepts (setParam_of_miscounted named miscounted),
    fun x named counted => ⟨fun only other => order_answered q 0x50 accepts (setParam_of_denied named counted only other),
      fun allowed => ?_⟩⟩
  have taken := setParam_of_allowed (s := s) named counted allowed
  refine ⟨?refused, ?number, ?chain, ?badChain⟩
  case refused =>
    rintro hi lo number rfl refused
    refine order_answered q 0x50 accepts (taken.trans ?_)
    rw [changeSetting_number number, if_neg (by rw [refused]; decide)]
  case number =>
    rintro hi lo number rfl fits
    have puts := changeSetting_number (hi := hi) (lo := lo) (s := s) number
    rw [if_pos fits, settingPut_settings, settingValue_setNumber number fits] at puts
    refine ⟨_, order_answered q 0x50 accepts (taken.trans puts), settingPut_settings x _ s, ?_, fun safe => ?_,
      settingPut_acts held, putSetting_within x _ s⟩
    · rw [settingPut_settings, settingValue_setNumber number fits]
    · exact (safe.then_putNumber fits).budget
  case chain =>
    rintro l rfl listed order
    have puts := (changeSetting_chain (s := s) listed order).trans (putSetting_chain s)
    refine ⟨_, order_answered q 0x50 accepts (taken.trans puts), (cutAndDecide_within _).settings_eq rfl, fun safe => ?_,
      putSetting_within .chain _ s⟩
    have ⟨ratings, _⟩ := safe
    exact (safe.cut_settings (v := { s.settings with chain := l }) ratings order).budget
  case badChain =>
    rintro rfl bad
    exact order_answered q 0x50 accepts (taken.trans (changeSetting_badChain bad))

end Sys2Proof.Machine
end

section
/-! SUPPORT. The end of a device reset (R200): with every run IDLE and no demand, the events of the first samples reach the
limit latches, the freeze, the mains record, the cause sets, and for GEN_TEMP the generator alone. -/

namespace Sys2Proof.Machine

/-- The drive timers while the part starts: at rest, frozen where a limit is latched (R61, R64). -/
def startTimers (latch : PerCavity Bool) : PerLoad Timer :=
  { genHeat := Timer.reset
    aRing := { Timer.reset with frozen := latch.a }, bRing := { Timer.reset with frozen := latch.b }
    aTop := { Timer.reset with frozen := latch.a }, bTop := { Timer.reset with frozen := latch.b }
    aBottom := { Timer.reset with frozen := latch.a }, bBottom := { Timer.reset with frozen := latch.b } }

/-- A part that starts: no run, no demand, no grant, the generator at its start-up rule (R114, R200). -/
structure StartingUp (s : State) : Prop where
  runs : s.runs = ⟨Run.idle, Run.idle⟩
  demand : s.gen.demand = ⟨DemandReport.none, DemandReport.none⟩
  start : s.gen.state = .draining ∨ s.gen.state = .empty
  fill : s.gen.fill = none
  arbiter : s.arbiter = PerLoad.all .none
  timers : s.timers = startTimers s.limitLatch
  latch : s.limitLatch = s.limitActive

/-- What the events of the first samples reach while the generator keeps its start-up state. -/
def Parts.start : Parts := { timers := true, limitActive := true, limitLatch := true, mains := true, attention := true }

/-- The events of the first samples taken so far: STARTED stays in every cause set. -/
structure StartWork (s t : State) : Prop where
  starts : StartingUp t
  within : Within .start s t
  kept : CodeKept 1 s t

section
variable {c : Cavity} {l : Load} {x : Cause} {latch : PerCavity Bool} {active : Bool} {s t : State}

/-! ## Loads at rest -/

theorem leave_of_none (out : s.arbiter.get l = .none) : leave l s = s := if_pos out

theorem freezeTimer_of_none (out : s.arbiter.get l = .none) :
    freezeTimer l s = modTimer l (fun t => { t with frozen := true }) s := by
  unfold freezeTimer
  split
  · next frozen =>
    have same : { s.timers.get l with frozen := true } = s.timers.get l := by rw [← frozen]
    rw [modTimer, same, PerLoad.set_get]
  · exact leave_of_none out

theorem startTimers_thawed (unlatched : latch.get c = false) :
    (startTimers latch).get (topOf c) = Timer.reset ∧ (startTimers latch).get (bottomOf c) = Timer.reset
      ∧ (startTimers latch).get (ringOf c) = Timer.reset := by
  have thawed : { Timer.reset with frozen := latch.get c } = Timer.reset := by
    rw [unlatched]
    rfl
  cases c
  · exact ⟨thawed, thawed, thawed⟩
  · exact ⟨thawed, thawed, thawed⟩

theorem freezeCavity_startTimers (timers : s.timers = startTimers latch) (out : s.arbiter = PerLoad.all .none) (c : Cavity) :
    freezeCavity c s = { s with timers := startTimers (latch.set c true) } := by
  have none (l : Load) : s.arbiter.get l = .none := by rw [out, PerLoad.get_all]
  rw [freezeCavity, freezeTimer_of_none (none _), freezeTimer_of_none (s := modTimer _ _ s) (none _),
    freezeTimer_of_none (s := modTimer _ _ (modTimer _ _ s)) (none _)]
  simp only [modTimer, timers]
  cases c <;> rfl

theorem withdrawAll_of_none (out : s.arbiter = PerLoad.all .none) (ls : List Load) : withdrawAll ls s = s := by
  induction ls with
  | nil => rfl
  | cons l ls ih => rw [withdrawAll, if_neg (by rw [out, PerLoad.get_all]; decide), ih]

/-- Stopping a timer at rest changes nothing. -/
theorem stopTimer_genHeat_of_rest (out : s.arbiter = PerLoad.all .none) (rest : s.timers.genHeat = Timer.reset) :
    stopTimer .genHeat s = s := by
  have stopped : setInterval .genHeat .idle none (setHolds .genHeat 0 0 s) = s := by
    have holds : setHolds .genHeat 0 0 s = s := by
      have same : { s.timers.get .genHeat with on := 0, off := 0 } = s.timers.get .genHeat := by
        rw [show s.timers.get .genHeat = Timer.reset from rest]
        rfl
      rw [setHolds, modTimer, same, PerLoad.set_get]
    have idle : setInterval .genHeat .idle none s = s := by
      have same : { s.timers.get .genHeat with interval := .idle, remaining := none } = s.timers.get .genHeat := by
        rw [show s.timers.get .genHeat = Timer.reset from rest]
        rfl
      rw [setInterval, modTimer, same, PerLoad.set_get]
    rw [holds, idle]
  rw [stopTimer, stopped]
  exact leave_of_none (by rw [out, PerLoad.get_all])

/-! ## Runs at rest -/

theorem StartingUp.run (h : StartingUp s) (c : Cavity) : s.runs.get c = Run.idle := by
  rw [h.runs]
  cases c <;> rfl

theorem StartingUp.unready (h : StartingUp s) : s.gen.state ≠ .ready := by
  rcases h.start with state | state
  all_goals
    rw [state]
    decide

theorem abortInProgress_of_idle (idle : s.runs.get c = Run.idle) (reason : AbortReason) : abortInProgress c reason s = s :=
  if_neg (by rw [idle]; decide)

theorem probeLost_of_idle (idle : s.runs.get c = Run.idle) : probeLost c s = s := if_neg (by rw [idle]; decide)

theorem settleClimate_of_idle (idle : s.runs.get c = Run.idle) : settleClimate c s = s :=
  if_neg (by simp [idle, counting, Run.idle])

/-- An idle run has no demand to tell. -/
theorem StartingUp.syncDemand_eq (h : StartingUp s) (c : Cavity) : syncDemand c s = s := by
  have report : reportOf (s.runs.get c) = DemandReport.none := by
    rw [h.run]
    rfl
  have old : s.gen.demand.get c = DemandReport.none := by
    rw [h.demand]
    cases c <;> rfl
  have told : modGen (fun g => { g with demand := g.demand.set c DemandReport.none }) s = s := by
    rw [modGen, ← old, PerCavity.set_get]
  have idle : holdIdle s = s := if_neg fun ⟨ready, _⟩ => h.unready ready
  rw [syncDemand, report, told, old]
  exact idle

/-- The freeze stands as the latches call for, so that nothing is left to settle. -/
theorem StartingUp.settle_eq (h : StartingUp s) (c : Cavity) : settle c s = s := by
  have climate : settleClimate c s = s := settleClimate_of_idle (h.run c)
  have condition : freezeCondition c s = s.limitLatch.get c := by
    rw [freezeCondition, h.run]
    rfl
  have freeze : syncFreeze c s = s := by
    rw [syncFreeze, condition]
    cases latched : s.limitLatch.get c
    · obtain ⟨top, bottom, ring⟩ := startTimers_thawed latched
      rw [if_neg (by decide), h.timers, top, bottom, ring]
      rfl
    · rw [if_pos rfl, freezeCavity_startTimers h.timers h.arbiter, ← latched, PerCavity.set_get, ← h.timers]
  rw [settle, climate, freeze, h.syncDemand_eq]

/-! ## The events -/

theorem StartWork.refl (h : StartingUp s) : StartWork s s := ⟨h, .refl _ s, .refl 1 s⟩

theorem StartingUp.then_broadcast (h : StartingUp s) : StartingUp (broadcast x s) :=
  ⟨h.runs, h.demand, h.start, h.fill, h.arbiter, h.timers, h.latch⟩

/-- A limit latched and told, its cavity's timers frozen (R64, R168). -/
def limitTaken (c : Cavity) (s : State) : State :=
  { limitTold c s with timers := startTimers (s.limitLatch.set c true) }

theorem limitTaken_within (c : Cavity) (s : State) : Within .start s (limitTaken c s) := by
  simp [limitTaken, limitTold, Within, Parts.start]

theorem StartingUp.then_limitTaken (h : StartingUp s) : StartingUp (limitTaken c s) :=
  ⟨h.runs, h.demand, h.start, h.fill, h.arbiter, rfl, congrArg (·.set c true) h.latch⟩

/-- A limit found ACTIVE while the part starts is a trip with no run to abort (R168, R200). -/
theorem StartingUp.limitTrip_eq (h : StartingUp s) (inactive : s.limitActive.get c = false) :
    limitTrip c s = limitTaken c s := by
  have idle : (limitTold c s).runs.get c = Run.idle := h.run c
  have climate : settleClimate c (limitTold c s) = limitTold c s := settleClimate_of_idle idle
  have latched : (limitTold c s).limitLatch.get c = true := PerCavity.get_set_self _ _ _
  have freezes : freezeCavity c (limitTold c s) = limitTaken c s :=
    freezeCavity_startTimers (s := limitTold c s) h.timers h.arbiter c
  rw [limitTrip_of_inactive inactive, abortInProgress_of_idle idle, settle, climate, syncFreeze,
    if_pos (freezeCondition_of_latch latched), freezes, h.then_limitTaken.syncDemand_eq]

theorem StartingUp.startLimit_eq (h : StartingUp s) (inactive : s.limitActive.get c = false) (active : Bool) :
    startLimit c active s = if active then limitTaken c s else s := by
  rw [← h.limitTrip_eq inactive]
  rfl

theorem StartWork.then_startLimit (h : StartWork s t) (inactive : t.limitActive.get c = false) (active : Bool) :
    StartWork s (startLimit c active t) := by
  rw [h.starts.startLimit_eq inactive]
  split
  · have told : CodeKept 1 t (limitTold c t) := CodeKept.then_broadcast (.refl 1 t) (by cases c <;> decide)
    exact ⟨h.starts.then_limitTaken, h.within.trans (limitTaken_within c t), h.kept.trans (told.then_same rfl)⟩
  · exact h

theorem startLimit_limitActive (h : StartingUp s) (inactive : s.limitActive.get c = false) (active : Bool) :
    (startLimit c active s).limitActive = s.limitActive.set c active := by
  rw [h.startLimit_eq inactive]
  cases active
  · have same := PerCavity.set_get s.limitActive c
    rw [inactive] at same
    exact same.symm
  · rfl

theorem startLimit_mains (h : StartingUp s) (inactive : s.limitActive.get c = false) (active : Bool) :
    (startLimit c active s).mains = s.mains := by
  rw [h.startLimit_eq inactive]
  split
  · rfl
  · rfl

/-- The state in which mains-low is recorded and told (R170). -/
def lowTold (s : State) : State :=
  broadcast .mainsLow { s with mains := { low := true, lowTime := some 0, expiryGiven := false } }

theorem StartingUp.mainsOverlay_eq (h : StartingUp s) (c : Cavity) : mainsOverlay c s = s := by
  have rests : modRun c heldRun s = s := by
    have same : heldRun (s.runs.get c) = s.runs.get c := by
      rw [h.run]
      rfl
    rw [modRun, same, PerCavity.set_get]
  have overlay : mainsOverlay c s = settle c (modRun c heldRun s) := rfl
  rw [overlay, rests, h.settle_eq]

theorem StartingUp.mainsLow_eq (h : StartingUp s) (supplied : s.mains.low = false) : mainsLow s = lowTold s := by
  have told : StartingUp (lowTold s) := ⟨h.runs, h.demand, h.start, h.fill, h.arbiter, h.timers, h.latch⟩
  have lost : mainsLost s = lowTold s := withdrawAll_of_none told.arbiter allLoads
  rw [mainsLow_of_supplied supplied, lost, told.mainsOverlay_eq, told.mainsOverlay_eq]

/-- A fault at a first sample is told, and reaches no run (R161, R163). -/
theorem StartingUp.startFault_eq (h : StartingUp s) {x : Sensor} (other : x ≠ .genTemp) :
    startFault x s = if sensorFaulted x s then broadcast (.sensorFault x false 0) s else s := by
  have told : StartingUp (broadcast (.sensorFault x false 0) s) := h.then_broadcast
  have aborts (c : Cavity) : settle c (abortInProgress c .sensor (broadcast (.sensorFault x false 0) s))
      = broadcast (.sensorFault x false 0) s := by
    rw [abortInProgress_of_idle (told.run c), told.settle_eq]
  have hands : handFault x (broadcast (.sensorFault x false 0) s) = broadcast (.sensorFault x false 0) s := by
    cases x
    case genTemp => exact absurd rfl other
    case cavTempA => exact aborts .A
    case cavTempB => exact aborts .B
    case coreA => exact probeLost_of_idle (told.run .A)
    case coreB => exact probeLost_of_idle (told.run .B)
  rw [startFault, hands]

/-- What a fault at a first sample leaves while the part starts. -/
structure FaultTold (s t : State) : Prop where
  starts : StartingUp t
  within : Within { attention := true } s t
  kept : CodeKept 1 s t

theorem StartingUp.startFault_told (h : StartingUp s) {x : Sensor} (other : x ≠ .genTemp) : FaultTold s (startFault x s) := by
  rw [h.startFault_eq other]
  split
  · exact ⟨h.then_broadcast, (within_broadcast _ rfl).mpr (.refl _ s),
      CodeKept.then_broadcast (.refl 1 s) (by cases x <;> decide)⟩
  · exact ⟨h, .refl _ s, .refl 1 s⟩

theorem FaultTold.then_startFault (h : FaultTold s t) {x : Sensor} (other : x ≠ .genTemp) : FaultTold s (startFault x t) := by
  obtain ⟨starts, within, kept⟩ := h.starts.startFault_told other
  exact ⟨starts, h.within.trans within, h.kept.trans kept⟩

theorem StartWork.then_mainsLow (h : StartWork s t) (supplied : t.mains.low = false) : StartWork s (mainsLow t) := by
  rw [h.starts.mainsLow_eq supplied]
  have up := h.starts
  exact ⟨⟨up.runs, up.demand, up.start, up.fill, up.arbiter, up.timers, up.latch⟩,
    h.within.trans (by simp [lowTold, Within, Parts.start]),
    h.kept.trans (CodeKept.then_broadcast (t := { t with mains := _ }) (.refl 1 t) (by decide))⟩

/-- An idle run's demand is not refused (R96). -/
theorem refuse_of_idle (idle : s.runs.get c = Run.idle) : refuse c s = s := by
  unfold refuse
  split
  · rfl
  · exact if_pos (by rw [idle]; rfl)

theorem refuseBoth_of_idle (idle : ∀ c, s.runs.get c = Run.idle) : refuseBoth s = s := by
  rw [refuseBoth, refuse_of_idle (idle .A), refuse_of_idle (idle .B)]

/-- What a fault found at GEN_TEMP's first sample leaves (R109, R161). -/
structure GenStarted (s t : State) : Prop where
  state : t.gen.state = if s.sensors.genTemp.status = .faulted then .fault else s.gen.state
  within : Within { gen := true, attention := true } s t
  kept : CodeKept 1 s t

/-- While the part starts, the entry to FAULT is the generator's alone, with its GEN_STATE (R91). -/
theorem StartingUp.enterGen_fault (h : StartingUp s) (prep : Gen → Gen) :
    ∃ k, (causeEntry k).code = 4
      ∧ enterGen .fault prep s = broadcast k (modGen (fun g => prep (genFields .fault g)) s) := by
  have rest : (modGen (fun g => prep (genFields .fault g)) s).timers.genHeat = Timer.reset := by
    rw [modGen_timers, h.timers]
    rfl
  have heated : heatInstruction .fault (modGen (fun g => prep (genFields .fault g)) s)
      = modGen (fun g => prep (genFields .fault g)) s := stopTimer_genHeat_of_rest h.arbiter rest
  unfold enterGen
  extract_lets left before instructed posted
  have posts : posted = broadcast (.genState (genOwner instructed) .fault (toHalf (genStateCode left)) instructed.gen.faultKind)
      (modGen (fun g => prep (genFields .fault g)) s) := congrArg (broadcast _) heated
  have calm : refuseBoth posted = posted := refuseBoth_of_idle fun c => by rw [posts]; exact h.run c
  rw [calm, ite_self, posts]
  exact ⟨_, rfl, rfl⟩

/-- A fault's kind and the state it is found in (R109). -/
def faultFields (k : FaultKind) (s : State) (g : Gen) : Gen := { g with faultKind := some k, faultFrom := some s.gen.state }

theorem genFaultCore_eq (k : FaultKind) (s : State) : genFaultCore k s
    = broadcast (.genFault k s.gen.state) (enterGen .fault (faultFields k s) (abandonFill s)) := rfl

/-- While the part starts, a fault reaches the generator alone. -/
theorem StartingUp.genFault_started (h : StartingUp s) : Within { gen := true, attention := true } s (genFault .sensor s)
    ∧ CodeKept 1 s (genFault .sensor s) ∧ (genFault .sensor s).gen.state = .fault := by
  have working : s.gen.state ≠ .fault ∧ s.gen.state ≠ .descale := by
    rcases h.start with state | state
    all_goals simp [state]
  obtain ⟨fault, descale⟩ := working
  obtain ⟨k, code, enters⟩ := h.enterGen_fault (faultFields .sensor s)
  have whole : abandonFill s = s := if_neg (by simp [h.fill])
  have faults : genFault .sensor s = broadcast (.genFault .sensor s.gen.state)
      (broadcast k (modGen (fun g => faultFields .sensor s (genFields .fault g)) s)) := by
    rw [genFault_of_steam fault descale, genFaultCore_eq, whole, enters]
  have told : CodeKept 1 s (broadcast k (modGen (fun g => faultFields .sensor s (genFields .fault g)) s)) :=
    CodeKept.then_broadcast ((CodeKept.refl 1 s).then_same rfl) (by rw [code]; decide)
  rw [faults]
  exact ⟨by simp [Within], told.then_broadcast (by simp [causeEntry, detail]), rfl⟩

theorem startFault_genTemp (h : StartingUp s) : GenStarted s (startFault .genTemp s) := by
  by_cases faulted : s.sensors.genTemp.status = .faulted
  · have told : StartingUp (broadcast (.sensorFault .genTemp false 0) s) := h.then_broadcast
    have faults : startFault .genTemp s = genFault .sensor (broadcast (.sensorFault .genTemp false 0) s) :=
      if_pos (decide_eq_true faulted)
    obtain ⟨within, kept, state⟩ := told.genFault_started
    rw [faults]
    exact ⟨by rw [state, if_pos faulted], ((within_broadcast _ rfl).mpr (.refl _ s)).trans within,
      (CodeKept.then_broadcast (.refl 1 s) (by decide)).trans kept⟩
  · have still : startFault .genTemp s = s := if_neg fun found => faulted (of_decide_eq_true found)
    rw [still]
    exact ⟨by rw [if_neg faulted], .refl _ s, .refl 1 s⟩

end

/-! ## The start -/

section
variable {inputs : StartInputs} {s : State}

/-- The part with its records read, as the generator's start finds it (R141, R199). -/
def examined (inputs : StartInputs) (s : State) : State :=
  examineSave (intactValue (storeAfterReset inputs s.store).procedure) (poweredState inputs s)

theorem examineSave_within (r : Option ProcRecord) (s : State) : Within { store := true, proc := true } s (examineSave r s) := by
  unfold examineSave
  split
  · split
    · exact (saveProcedure_within s).mono rfl
    · exact .refl _ _
  · exact .refl _ _

/-- What the generator's start leaves (R114). -/
structure GenBegun (s t : State) : Prop where
  state : t.gen.state = if s.proc.rinseOwed = true ∨ s.gen.levelLowWet = true then .draining else .empty
  demand : t.gen.demand = s.gen.demand
  fill : t.gen.fill = s.gen.fill
  within : Within { gen := true, attention := true, freeIndex := true } s t
  kept : CodeKept 1 s t

theorem startGenerator_begun (empty : s.gen.state = .empty) : GenBegun s (startGenerator s) := by
  unfold startGenerator
  extract_lets x drawn started
  have drain : CodeKept 1 s started ∧ Within { gen := true, freeIndex := true } s started
      ∧ started.gen.demand = s.gen.demand ∧ started.gen.fill = s.gen.fill
      ∧ started.gen.state = if drawn.proc.rinseOwed = true ∨ drawn.gen.levelLowWet = true then .draining else .empty := by
    unfold started
    by_cases water : drawn.proc.rinseOwed = true ∨ drawn.gen.levelLowWet = true
    · rw [if_pos water, if_pos water]
      exact ⟨(CodeKept.refl 1 s).then_same rfl, by simp [Within, drawn, x, drawFree], rfl, rfl, rfl⟩
    · rw [if_neg water, if_neg water]
      exact ⟨(CodeKept.refl 1 s).then_same rfl, by simp [Within, drawn, x, drawFree], rfl, rfl, empty⟩
  obtain ⟨kept, within, demand, fill, state⟩ := drain
  exact ⟨state, demand, fill, (within_broadcast _ rfl).mpr (within.mono rfl), kept.then_broadcast (by simp [causeEntry, detail])⟩

/-- The state in which the first events are taken. -/
def generatorStarted (inputs : StartInputs) (s : State) : State := startGenerator (examined inputs s)

theorem generatorStarted_begun (inputs : StartInputs) (s : State) :
    GenBegun (examined inputs s) (generatorStarted inputs s) := by
  have w := examineSave_within (intactValue (storeAfterReset inputs s.store).procedure) (poweredState inputs s)
  exact startGenerator_begun (congrArg Gen.state (w.gen_eq rfl))

theorem generatorStarted_within (inputs : StartInputs) (s : State) :
    Within { store := true, proc := true, gen := true, attention := true, freeIndex := true } (poweredState inputs s)
      (generatorStarted inputs s) :=
  ((examineSave_within _ _).mono rfl).trans ((generatorStarted_begun inputs s).within.mono rfl)

theorem generatorStarted_startingUp (inputs : StartInputs) (s : State) : StartingUp (generatorStarted inputs s) := by
  have w := generatorStarted_within inputs s
  have begun := generatorStarted_begun inputs s
  have gen : (examined inputs s).gen = (poweredState inputs s).gen := (examineSave_within _ _).gen_eq rfl
  refine ⟨w.runs_eq rfl, ?_, ?_, ?_, w.arbiter_eq rfl, ?_, ?_⟩
  · rw [begun.demand, gen]
    rfl
  · rw [begun.state]
    split
    · exact .inl rfl
    · exact .inr rfl
  · rw [begun.fill, gen]
    rfl
  · rw [w.timers_eq rfl, w.limitLatch_eq rfl]
    rfl
  · rw [w.limitLatch_eq rfl, w.limitActive_eq rfl]
    rfl

/-! ## The first events -/

/-- The events of the limits, of mains sense and of the sensors but GEN_TEMP. -/
def firstEvents (inputs : StartInputs) (s : State) : State :=
  let s := startLimit .B inputs.limitActiveB (startLimit .A inputs.limitActiveA s)
  let s := if inputs.mainsLow then mainsLow s else s
  startFault .coreB (startFault .coreA (startFault .cavTempB (startFault .cavTempA s)))

theorem startEvents_eq (inputs : StartInputs) (s : State) :
    startEvents inputs s = startFault .genTemp (firstEvents inputs s) := rfl

/-- What the first events leave (R161, R168, R170). -/
structure FirstTaken (inputs : StartInputs) (s t : State) : Prop where
  work : StartWork s t
  limits : t.limitActive = ⟨inputs.limitActiveA, inputs.limitActiveB⟩
  low : t.mains.low = inputs.mainsLow

theorem firstEvents_taken (h : StartingUp s) (inactive : s.limitActive = ⟨false, false⟩) (supplied : s.mains.low = false) :
    FirstTaken inputs s (firstEvents inputs s) := by
  unfold firstEvents
  extract_lets limited powered
  have limitA : s.limitActive.get .A = false := by rw [inactive]; rfl
  have tripA := (StartWork.refl h).then_startLimit limitA inputs.limitActiveA
  have activeA := startLimit_limitActive h limitA inputs.limitActiveA
  have limitB : (startLimit .A inputs.limitActiveA s).limitActive.get .B = false := by rw [activeA, inactive]; rfl
  have limits : StartWork s limited := tripA.then_startLimit limitB inputs.limitActiveB
  have active : limited.limitActive = ⟨inputs.limitActiveA, inputs.limitActiveB⟩ := by
    rw [show limited.limitActive = _ from startLimit_limitActive tripA.starts limitB inputs.limitActiveB, activeA, inactive]
    rfl
  have unsupplied : limited.mains.low = false := by
    rw [startLimit_mains tripA.starts limitB, startLimit_mains h limitA, supplied]
  have power : StartWork s powered ∧ powered.limitActive = limited.limitActive ∧ powered.mains.low = inputs.mainsLow := by
    unfold powered
    split
    · next lost =>
      have told := limits.starts.mainsLow_eq unsupplied
      exact ⟨limits.then_mainsLow unsupplied, by rw [told]; rfl, by rw [told, lost]; rfl⟩
    · next supply => exact ⟨limits, rfl, unsupplied.trans (Bool.eq_false_iff.mpr supply).symm⟩
  obtain ⟨work, same, low⟩ := power
  obtain ⟨starts, within, kept⟩ :=
    (((work.starts.startFault_told (x := .cavTempA) (by decide)).then_startFault (x := .cavTempB)
      (by decide)).then_startFault (x := .coreA) (by decide)).then_startFault (x := .coreB) (by decide)
  exact ⟨⟨starts, work.within.trans (within.mono rfl), work.kept.trans kept⟩,
    (within.limitActive_eq rfl).trans (same.trans active), (congrArg Mains.low (within.mains_eq rfl)).trans low⟩

/-! ## The procedure record (R141) -/

theorem Within.store_eq {f : Parts} {s t : State} (w : Within f s t) (k : f.store = false) : t.store = s.store := by
  obtain ⟨-, -, -, -, -, -, -, -, -, -, -, h, -⟩ := w
  exact h k

theorem examineSave_slots (r : Option ProcRecord) (s : State) : (examineSave r s).store.slots = s.store.slots := by
  unfold examineSave
  split
  · split
    · exact (congrArg Store.slots (storedRecords_saveProcedure s) :)
    · rfl
  · rfl

/-- The examination changes nothing of the record but the phase last saved. -/
theorem examineSave_proc (r : Option ProcRecord) (s : State) :
    ∃ saved, (examineSave r s).proc = { s.proc with savedPhase := saved } := by
  unfold examineSave
  split
  · split
    · exact ⟨_, saveProcedure_proc s⟩
    · exact ⟨_, rfl⟩
  · exact ⟨_, rfl⟩

theorem examineSave_saved {r : ProcRecord} (differs : r.rinseOwed ≠ s.proc.rinseOwed ∨ r.phase ≠ .idle) :
    (examineSave (some r) s).proc.savedPhase = some s.proc.phase := by
  have saves : examineSave (some r) s = saveProcedure s := if_pos differs
  rw [saves, saveProcedure_proc]

theorem owedAtStart_some (r : ProcRecord) : owedAtStart (some r) =
    if r.phase = .idle ∨ r.phase = .done then r.rinseOwed
    else if r.kind = some .rinse then true
    else if r.phase = .prepDrain ∨ r.phase = .waitSolution then r.rinseOwed else true := by
  obtain ⟨phase, kind, number, owed⟩ := r
  cases phase
  all_goals
    rcases kind with _ | kind
    · rfl
    · cases kind <;> rfl

/-! ## The whole reset -/

/-- What the examination, the generator's start and the first events reach. -/
def Parts.reset : Parts := { Parts.start with store := true, proc := true, gen := true, freeIndex := true }

/-- What a device reset leaves of the state with the records read (R200). -/
structure ResetEnded (inputs : StartInputs) (s t : State) : Prop where
  within : Within .reset (poweredState inputs s) t
  proc : t.proc = (examined inputs s).proc
  store : t.store = (examined inputs s).store
  arbiter : t.arbiter = PerLoad.all .none
  timers : t.timers = startTimers t.limitLatch
  latch : t.limitLatch = t.limitActive
  limits : t.limitActive = ⟨inputs.limitActiveA, inputs.limitActiveB⟩
  low : t.mains.low = inputs.mainsLow
  gen : t.gen.state = if (firstSample .genTemp inputs.genTemp).status = .faulted then .fault
    else if (examined inputs s).proc.rinseOwed = true ∨ inputs.levelLowWet = true then .draining else .empty
  kept : CodeKept 1 (poweredState inputs s) t

theorem deviceReset_ended (inputs : StartInputs) (s : State) : ResetEnded inputs s (deviceReset inputs s) := by
  have begun := generatorStarted_begun inputs s
  have powered := generatorStarted_within inputs s
  obtain ⟨⟨starts, events, told⟩, limits, low⟩ := firstEvents_taken (inputs := inputs)
    (generatorStarted_startingUp inputs s) (powered.limitActive_eq rfl) (congrArg Mains.low (powered.mains_eq rfl))
  have last := startFault_genTemp starts
  have examines : Within { store := true, proc := true } (poweredState inputs s) (examined inputs s) :=
    examineSave_within _ _
  have taken : Within { Parts.start with gen := true } (generatorStarted inputs s) (deviceReset inputs s) :=
    (events.mono rfl).trans (last.within.mono rfl)
  have after : Within { Parts.start with gen := true, freeIndex := true } (examined inputs s) (deviceReset inputs s) :=
    (begun.within.mono rfl).trans (taken.mono rfl)
  refine ⟨(examines.mono rfl).trans (after.mono rfl), after.proc_eq rfl, ?store, ?arbiter, ?timers, ?latch,
    ?limits, ?low, ?gen, ?kept⟩
  case store => exact after.store_eq rfl
  case arbiter => exact (last.within.arbiter_eq rfl).trans starts.arbiter
  case timers =>
    have latch := congrArg startTimers (last.within.limitLatch_eq rfl)
    exact (last.within.timers_eq rfl).trans (starts.timers.trans latch.symm)
  case latch =>
    exact (last.within.limitLatch_eq rfl).trans (starts.latch.trans (last.within.limitActive_eq rfl).symm)
  case limits => exact (last.within.limitActive_eq rfl).trans limits
  case low => exact (congrArg Mains.low (last.within.mains_eq rfl)).trans low
  case gen =>
    have sensors := (events.sensors_eq rfl).trans (powered.sensors_eq rfl)
    have state := last.state
    rw [sensors, events.gen_eq rfl, begun.state, examines.gen_eq rfl] at state
    exact state
  case kept =>
    exact ((((CodeKept.refl 1 _).then_same (examines.attention_eq rfl)).trans begun.kept).trans told).trans last.kept

end

section
variable {inputs : StartInputs} {s t : State} {r : ProcRecord}

/-- No load has a hold, a grant or an output (R61, R88). -/
theorem ResetEnded.load (h : ResetEnded inputs s t) (l : Load) :
    t.arbiter.get l = .none ∧ holdsOf l t = (0, 0) ∧ loadOutput l t = false := by
  have out : t.arbiter.get l = .none := by rw [h.arbiter, PerLoad.get_all]
  refine ⟨out, ?_, by simp [loadOutput, out]⟩
  rw [holdsOf, h.timers]
  cases l
  all_goals rfl

/-- The procedure record: no procedure, and the rinse owed that the saved record gives (R141). -/
theorem ResetEnded.proc_eq (h : ResetEnded inputs s t) : ∃ saved, t.proc = { Procedure.reset
    (owedAtStart (intactValue (spoil inputs.procedureSpoiled s.store.procedure))) with savedPhase := saved } := by
  obtain ⟨saved, proc⟩ := examineSave_proc (intactValue (storeAfterReset inputs s.store).procedure) (poweredState inputs s)
  exact ⟨saved, h.proc.trans proc⟩

theorem ResetEnded.rinseOwed (h : ResetEnded inputs s t) :
    t.proc.rinseOwed = owedAtStart (intactValue (spoil inputs.procedureSpoiled s.store.procedure)) := by
  obtain ⟨saved, proc⟩ := h.proc_eq
  rw [proc]
  rfl

theorem ResetEnded.savedPhase (h : ResetEnded inputs s t)
    (record : intactValue (spoil inputs.procedureSpoiled s.store.procedure) = some r)
    (differs : r.rinseOwed ≠ t.proc.rinseOwed ∨ r.phase ≠ .idle) : t.proc.savedPhase = some .idle := by
  have found : intactValue (storeAfterReset inputs s.store).procedure = some r := record
  rw [h.rinseOwed] at differs
  rw [h.proc, examined, found]
  exact examineSave_saved (s := poweredState inputs s) differs

theorem firstSample_faulted_iff (x : Sensor) (sample : Sample) :
    (firstSample x sample).status = .faulted ↔ inRangeReading x sample = none := by
  unfold firstSample
  split
  · next reading => simp [SensorRecord.valid, reading]
  · next reading => simp [reading]

/-- The reason that STARTED gives: whether the settings were reloaded (R200). -/
def startReason (inputs : StartInputs) (s : State) : Nat :=
  if (validStored { s with store := storeAfterReset inputs s.store }).isSome then 0 else 1

/-- STARTED stands in every cause set (R188, R200). -/
theorem ResetEnded.started (h : ResetEnded inputs s t) (p : Port) : (t.attention.get p).mask = defaultMask
    ∧ ∃ e ∈ (t.attention.get p).causes, e.code = 1 ∧ e.count = 1
      ∧ e.reason = if (validStored { s with store := storeAfterReset inputs s.store }).isSome then 0 else 1 := by
  obtain ⟨mask, kept⟩ := h.kept p
  have set : (poweredState inputs s).attention.get p =
      { causes := [causeEntry (.started (startReason inputs s))], mask := defaultMask } := by
    cases p
    all_goals rfl
  rw [set] at mask kept
  exact ⟨mask, _, kept _ (List.mem_singleton_self _) rfl, rfl, rfl, apply_ite toByte _ _ _⟩

end

/-- Settles O6: the records are read and the first samples taken, the generator starts, and the events of the first samples
find no run, no demand and no grant. -/
theorem deviceResetStartsThePart : Obligations.DeviceResetStartsThePart := by
  unfold Obligations.DeviceResetStartsThePart
  intro inputs s
  have ended := deviceReset_ended inputs s
  obtain ⟨settings, runs, queues, climates, pairs, -, -, -, meter, scale, -, -, staging, prompts, promptCounter, sensors,
    doorOpen, probePresent, -, -, tankPresent, -, ports, holds, -, resetHeld, -, pending⟩ := ended.within
  refine ⟨deviceReset inputs s, rfl, resetHeld rfl, pending rfl, settings rfl, runs rfl, queues rfl, climates rfl, pairs rfl,
    ended.load, prompts rfl, promptCounter rfl, staging rfl, holds rfl, ports rfl, meter rfl, doorOpen rfl,
    probePresent rfl, ended.limits, ended.latch, tankPresent rfl, ended.low,
    (congrArg Store.slots ended.store).trans (examineSave_slots _ _), ?phase, ?kind, fun unread => ?unread,
    fun r record => ⟨?owed, ended.savedPhase record⟩, congrArg Scale.points (scale rfl), congrArg Scale.carry (scale rfl),
    sensors rfl, ?warn, ?lock, ?gen, ended.started⟩
  case phase =>
    obtain ⟨saved, proc⟩ := ended.proc_eq
    rw [proc]
    rfl
  case kind =>
    obtain ⟨saved, proc⟩ := ended.proc_eq
    rw [proc]
    rfl
  case unread => rw [ended.rinseOwed, unread]; rfl
  case owed => rw [ended.rinseOwed, record, owedAtStart_some]
  case warn => rw [scale rfl, settings rfl]; rfl
  case lock => rw [scale rfl, settings rfl]; rfl
  case gen =>
    rw [ended.gen, ended.proc]
    exact if_congr (firstSample_faulted_iff _ _) rfl rfl

end Sys2Proof.Machine
end
